-- ==== Sys2Proof/Word.lean ====
section
/-! DEFINITION. Words, bytes and the one shape in which this model keeps sparse data. -/

namespace Sys2Proof

/-- A register: 32 bits wide (R6). -/
abbrev Word := BitVec 32

/-- One byte of memory. -/
abbrev Byte := BitVec 8

/-- Data keyed by a number, of which only the entries that differ from a default are listed. -/
abbrev Sparse (α : Type) := List (Nat × α)

/-- A field of a register: the register's address, the lowest bit and the width (R6). -/
structure Fld where
  addr : Nat
  lo : Nat
  w : Nat
  deriving DecidableEq, Repr

/-- The access codes of R8. -/
inductive Acc where
  | rw | ro | w1c | w1s | wo | rwt
  deriving DecidableEq, Repr

end Sys2Proof
end

