-- ==== Sys2Proof/Syntax.lean ====
section
/-! DEFINITION. The commands and events the block takes: one constructor per row of the opcode table (log 1). What a command
carries in a register or on the wires is its operands; an event carries what it measured (log 6). -/

namespace Sys2Proof

/-- What the sample path measured of one ADC over the millisecond that ends (R86, R107): RMS in 0.1 dB below full scale, clipped
samples. -/
structure AdcMeas where
  rms : Nat := 0
  clipped : Nat := 0
  deriving DecidableEq, Repr

/-- The loss of an ADPLL's reference, and the cycle steps of a re-alignment that it had made by then (R63, R71). -/
structure RefLoss where
  pll : Nat
  steps : Int := 0
  deriving DecidableEq, Repr

/-- A peer report datagram: its bytes, and whether it came from the device's own address (R306, R307). -/
structure PeerDatagram where
  bytes : List Nat
  own : Bool := false
  deriving DecidableEq, Repr

/-- A PTP instance of firmware's configuration (R293, R294): its profile (0 IEEE 1588 default, 1 G.8275.1, 2 G.8275.2, 3 802.1AS,
4 C37.238), domain, mask of ports, transport (0 L2, 1 UDP/IPv4, 2 UDP/IPv6), whether it measures peer delay, whether it is the slave that
disciplines DT, and the messages per second of Sync, Announce and Delay or Pdelay as powers of two. -/
structure PtpInstance where
  profile : Nat
  domain : Nat := 0
  ports : Nat := 0
  transport : Nat := 0
  p2p : Bool := false
  slave : Bool := false
  sync : Int := 0
  announce : Int := 0
  delay : Int := 0
  deriving DecidableEq, Repr

/-- The network part of firmware's configuration: PTP instances (R293); timing domain, NODE_ID and destinations of the peer reports, each
IPv6 or not with its address (R306); the device's own MAC and IP addresses; the VLAN of the CPU port (R287); option 2 of SyncE (R297). -/
structure NetConfig where
  instances : List PtpInstance := []
  tdom : Nat := 0
  nodeId : Nat := 0
  reportTo : List (Bool × Nat) := []
  mac : Nat := 0
  ip4 : Nat := 0
  ip6 : Nat := 0
  vid : Nat := 1
  deriving DecidableEq, Repr

/-- A frame that firmware queues for an Ethernet port (R291), from the destination MAC to the last byte before the FCS: `flag` is 0
for an ordinary frame, 1 one-step, 2 two-step; `req` is the ingress stamp of the Pdelay_Req a Pdelay_Resp answers, in 2^-32 ns. With the
frame, firmware's network configuration may have changed (log 53). -/
structure TxFrame where
  bytes : List Nat
  flag : Nat := 0
  req : Nat := 0
  config : Option NetConfig := none
  deriving DecidableEq, Repr

/-- An entry of a band table as the Boot ROM fills it for an ADPLL (R58): FLO and FHI in kHz, the coarse band, and what BANDCAL measures of
it at fine codes 0 and 4,095. -/
structure BandFill where
  pll : Nat
  entry : Nat
  flo : Nat
  fhi : Nat
  band : Nat
  calLo : Nat
  calHi : Nat
  deriving DecidableEq, Repr

/-- What the navigation engine knows of a tracked signal at an epoch, beside its record: elevation in degrees; whether there is an
ephemeris; pseudorange and carrier phase in mm; the learned C/N0 median of its ID and elevation bin in thousandths of a dB-Hz; the unit
vector to the satellite in 10^-6; the range rate in mm/s that orbit and satellite clock give a receiver at rest; the carrier phase at
its aerial that baselines, attitude and satellite direction predict, in 2^-32 cycle; its clock-corrected range residual in 0.1 ns
(R246); of a LEO signal the carrier you assigned, in Hz (R240). -/
structure SkySignal where
  track : Nat
  elev : Int := 0
  eph : Bool := false
  rho : Int := 0
  phi : Int := 0
  median : Int := 0
  los : Int × Int × Int := (0, 0, 0)
  rate : Int := 0
  lead : Option Int := none
  res : Option Int := none
  carrier : Nat := 0
  deriving DecidableEq, Repr

/-- The receiver clock bias at an epoch in ps, of the time solution or of the monitoring solution (R252), and the holdover oscillator
model: frequency offset in 10^-15, aging in 10^-21 per s, its uncertainty since the anchor in ps, and whether it has converged. -/
structure SkyClock where
  bias : Int
  freq : Int := 0
  aging : Int := 0
  sigma : Nat := 0
  converged : Bool := true
  deriving DecidableEq, Repr

/-- Of a peer: the offset that PTP measures to it in 0.1 ns, where known, and the signals (ID and SV) above 15 degrees there. -/
structure SkyPeer where
  node : Nat
  ptp : Option Int := none
  high : List (Nat × Nat) := []
  deriving DecidableEq, Repr

/-- What the navigation engine sees at an epoch (R246): the signals; the clock; the peers. -/
structure SkyView where
  signals : List SkySignal := []
  clock : Option SkyClock := none
  peers : List SkyPeer := []
  deriving DecidableEq, Repr

/-- The navigation engine's whole part in an evaluation: its view, and each chain's learned gain at its temperature in thousandths of a
dB; the satellites in the time solution; OSNMA results by track; of TPL, HPL and VPL sigma in thousandths, and how far a fault of one
unit of each threshold moves the solution through its geometry, in thousandths, in the order of `NavSt.limits` (R256). -/
structure Sky extends SkyView where
  gains : List (Nat × Int) := []
  nsv : Nat := 0
  osnma : List (Nat × Bool) := []
  levels : List (Nat × List Nat) := []
  deriving DecidableEq, Repr

/-- The Ethernet addresses of a Gheand frame over NP3: its sender and its destination; over SVC they mean nothing (R386). -/
structure SvcFrom where
  mac : Nat := 0
  dst : Nat := 0
  deriving DecidableEq, Repr

/-- A frame on a service transport that is no command of R387: with a bad CRC or length, or valid with the CMD and TAG `unknown` gives. -/
structure BadFrame where
  port : Nat
  src : SvcFrom := {}
  unknown : Option (Nat × Nat) := none
  deriving DecidableEq, Repr

/-- What an UNLOCK token with a good signature says: device UID, nonce and scope, and the key slot that signed it (R391). -/
structure UnlockToken where
  uid : Nat
  nonce : Word
  scope : Nat
  key : Nat
  deriving DecidableEq, Repr

/-- The block's commands and events: one constructor per row of the opcode table, in its order. -/
inductive Instr where
  /-- REGISTER_WRITE (R8). -/
  | registerWrite (owner addr size : Nat) (v : Word)
  /-- OFF_BLOCK_ACCESS (R30). -/
  | offBlockAccess (owner addr : Nat) (write : Bool)
  /-- NOMAP_ACCESS (R415). -/
  | nomapAccess (owner addr : Nat) (write : Bool)
  /-- REG_WRITE (R27). -/
  | regWrite (owner addr len : Nat) (crcOk : Bool) (words : List Word)
  /-- REG_READ (R27). -/
  | regRead (owner addr count len : Nat) (crcOk : Bool)
  /-- CMD_SUBMIT (R191). -/
  | cmdSubmit (owner queue len : Nat) (crcOk : Bool) (entries : List Word)
  /-- SPI_WRITE (R26). -/
  | spiWrite (addr : Nat) (words : List Word)
  /-- SPI_READ (R26). -/
  | spiRead (addr count : Nat)
  /-- PCIE_FLR (R43). -/
  | pcieFlr
  /-- HUART_BAUD_WRITE (R27). -/
  | huartBaudWrite (owner : Nat) (v : Word)
  /-- HSPI_FRAME_READ (R27). -/
  | hspiFrameRead (owner : Nat)
  /-- HSPI_FRAME_WRITE (R27). -/
  | hspiFrameWrite (owner : Nat) (v : Word)
  /-- BEGIN (R33). -/
  | begin (owner n : Nat)
  /-- COMMIT (R37). -/
  | commit (owner n : Nat)
  /-- COMMITAT (R39). -/
  | commitat (owner n : Nat) (tp0 : Bool)
  /-- ABORT (R42). -/
  | abort (owner n : Nat)
  /-- TXN_AT_WRITE (R33). -/
  | txnAtWrite (owner n which : Nat) (v : Word)
  /-- RWT_WRITE (R34). -/
  | rwtWrite (owner addr : Nat) (v : Word)
  /-- ARMED_COMMIT (R39). -/
  | armedCommit (n : Nat)
  /-- LANDING_COMPLETE (R37). -/
  | landingComplete (n : Nat)
  /-- TXN_TIMEOUT (R43). -/
  | txnTimeout (n : Nat)
  /-- PAD_CLAIM (R47). -/
  | padClaim (owner res : Nat)
  /-- PAD_RELEASE (R49). -/
  | padRelease (owner res : Nat)
  /-- PAD_FUNC_WRITE (R396). -/
  | padFuncWrite (owner n : Nat) (v : Word)
  /-- RELOCK (R61). -/
  | relock (owner pll : Nat)
  /-- BANDCAL (R57). -/
  | bandcal (owner pll idx : Nat)
  /-- BANDCAL_DONE (R57). -/
  | bandcalDone (pll lo hi : Nat)
  /-- ADPLL_LOCKED (R59). -/
  | adpllLocked (pll fine resid : Nat) (ferr : Int)
  /-- LOSS_OF_LOCK (R60). -/
  | lossOfLock (pll : Nat) (ferr : Int)
  /-- LOSS_OF_REFERENCE (R63). -/
  | lossOfReference (loss : RefLoss)
  /-- REFERENCE_RETURN (R65). -/
  | referenceReturn (pll : Nat)
  /-- HOLDOVER_RELOCK (R65). -/
  | holdoverRelock (pll fine resid : Nat) (steps : Int)
  /-- ADPLL_DEFERRED_APPLY (R71). -/
  | adpllDeferredApply (pll which : Nat)
  /-- CLKMON_FAULT (R72). -/
  | clkmonFault (pair : Nat)
  /-- CLKMON_QUALIFIED (R62). -/
  | clkmonQualified (input : Nat)
  /-- AUTOTUNE (R83). -/
  | autotune (owner port : Nat)
  /-- AUTOTUNE_DONE (R83). -/
  | autotuneDone (port ser shunt : Nat)
  /-- BIAS_SENSE (R84). -/
  | biasSense (port ma : Nat)
  /-- BIAS_TRIP (R84). -/
  | biasTrip (port : Nat)
  /-- BIAS_RETRY (R85). -/
  | biasRetry (owner port : Nat)
  /-- RL_ESTIMATE (R81). -/
  | rlEstimate (port rl : Nat)
  /-- LO_CAL_COMMAND (R89). -/
  | loCalCommand (owner mask : Nat)
  /-- LO_CALIBRATION (R88). -/
  | loCalibration (g : Nat)
  /-- LO_CAL_COMPLETE (R89). -/
  | loCalComplete (g : Nat)
  /-- INJ_START (R93). -/
  | injStart (owner mask : Nat)
  /-- INJ_STOP (R93). -/
  | injStop (owner mask : Nat)
  /-- INJ_CMD_READY (R93). -/
  | injCmdReady
  /-- INJ_CMD_TIMEOUT (R93). -/
  | injCmdTimeout
  /-- INJ_BIAS_PUBLISH (R92). -/
  | injBiasPublish (entries : List (Int × Int))
  /-- BLANK_ASSERT (R97). -/
  | blankAssert (k start width : Nat)
  /-- GRID_BOUNDARY (R105). `tones`: for each ADC and notch the lowest and highest level of the strongest tone, in dB above the floor, and
  its frequency word. -/
  | gridBoundary (adcs : List AdcMeas) (tones : List (List (Nat × Nat × Nat)))
  /-- BLOCK_COMPLETE (R11): in-phase and quadrature samples of the block and of the look-ahead. -/
  | blockComplete (stream : Nat) (inPhase quad aheadI aheadQ : List Int)
  /-- BLOCK_WINDOW_CLOSE (R121). -/
  | blockWindowClose (stream seq : Nat)
  /-- PIN_GRANT (R114). -/
  | pinGrant (slot : Nat)
  /-- PIN_TIMEOUT (R114). -/
  | pinTimeout (slot : Nat)
  /-- SWEEP_START (R120). -/
  | sweepStart (pod : Nat)
  /-- SWEEP_WRITEBACK (R118). -/
  | sweepWriteback (pod residue : Nat) (huskMismatch : Bool)
  /-- SELF_CHECK_SWEEP (R145). -/
  | selfCheckSweep (pod mismatch : Nat)
  /-- RETEST (R146). -/
  | retest (owner pod lanes pass : Nat)
  /-- TRK_START (R142). -/
  | trkStart (owner track : Nat) (atSeq : Bool)
  /-- TRK_STOP (R142). -/
  | trkStop (owner track : Nat)
  /-- TRK_MOVE (R142). -/
  | trkMove (owner track pod : Nat)
  /-- TRK_CLEAR (R142). -/
  | trkClear (owner track : Nat)
  /-- TRK_STOP_EFFECT (R142). -/
  | trkStopEffect (track : Nat)
  /-- TRK_MOVE_EFFECT (R142). -/
  | trkMoveEffect (track : Nat)
  /-- TRACK_CONTEXT_WRITE (R140). -/
  | trackContextWrite (owner addr : Nat) (v : Word)
  /-- SCRUB (R141). -/
  | scrub (err : Nat)
  /-- TRK_WAKE_CLEAR_DONE (R16). -/
  | trkWakeClearDone
  /-- TRACK_PROGRAM_ENTRY (R159). -/
  | trackProgramEntry (pod seq : Nat)
  /-- ADD (R163). -/
  | add (e d a b : Nat)
  /-- SUB (R163). -/
  | sub (e d a b : Nat)
  /-- ADD_S (R163). -/
  | addS (e d a b : Nat)
  /-- SUB_S (R163). -/
  | subS (e d a b : Nat)
  /-- AND (R163). -/
  | and (e d a b : Nat)
  /-- OR (R163). -/
  | or (e d a b : Nat)
  /-- XOR (R163). -/
  | xor (e d a b : Nat)
  /-- SLT (R163). -/
  | slt (e d a b : Nat)
  /-- SLTU (R163). -/
  | sltu (e d a b : Nat)
  /-- MIN (R163). -/
  | min (e d a b : Nat)
  /-- MAX (R163). -/
  | max (e d a b : Nat)
  /-- ABS (R163). -/
  | abs (e d a : Nat)
  /-- SLL (R163). -/
  | sll (e d a b : Nat)
  /-- SRL (R163). -/
  | srl (e d a b : Nat)
  /-- SRA (R163). -/
  | sra (e d a b : Nat)
  /-- ADDI (R163). -/
  | addi (e d a : Nat) (imm : Int)
  /-- ANDI (R163). -/
  | andi (e d a imm : Nat)
  /-- ORI (R163). -/
  | ori (e d a imm : Nat)
  /-- LUI (R163). -/
  | lui (e d imm : Nat)
  /-- SLLI (R163). -/
  | slli (e d a n : Nat)
  /-- SRLI (R163). -/
  | srli (e d a n : Nat)
  /-- SRAI (R163). -/
  | srai (e d a n : Nat)
  /-- SRAR (R163). -/
  | srar (e d a n : Nat)
  /-- MUL (R163). -/
  | mul (e d a b : Nat)
  /-- MULH (R163). -/
  | mulh (e d a b : Nat)
  /-- MULHU (R163). -/
  | mulhu (e d a b : Nat)
  /-- MUL_Q (R163). -/
  | mulQ (e d a b : Nat)
  /-- MAC (R163). -/
  | mac (e d a b : Nat)
  /-- MAC_Q (R163). -/
  | macQ (e d a b : Nat)
  /-- MSUB_Q (R163). -/
  | msubQ (e d a b : Nat)
  /-- SAT (R163). -/
  | sat (e d a n : Nat)
  /-- NORM (R163). -/
  | norm (e d a : Nat)
  /-- CLZ (R163). -/
  | clz (e d a : Nat)
  /-- MAG (R164). -/
  | mag (e d a b : Nat)
  /-- ATAN2 (R164). -/
  | atan2 (e d a b : Nat)
  /-- DLL_NELP (R165). -/
  | dllNelp (e d early late : Nat)
  /-- DLL_DOT (R165). -/
  | dllDot (e d early late prompt : Nat)
  /-- PLL_COSTAS (R165). -/
  | pllCostas (e d p : Nat) (pe mode : Bool)
  /-- FLL_CROSS (R165). -/
  | fllCross (e d a b p : Nat) (pe : Bool)
  /-- FLL_ATAN (R165). -/
  | fllAtan (e d a b p : Nat) (pe data : Bool)
  /-- LF_UPD (R167). -/
  | lfUpd (e d a n : Nat) (third : Bool)
  /-- LF_BLEND (R167). -/
  | lfBlend (e d a b n : Nat)
  /-- D_POW (R165). -/
  | dPow (e d t : Nat) (pe : Bool) (mode shift : Nat)
  /-- NCO_CARR (R168). -/
  | ncoCarr (e d a : Nat)
  /-- NCO_CARR_ADD (R168). -/
  | ncoCarrAdd (e d a : Nat)
  /-- NCO_CODE (R168). -/
  | ncoCode (e d a b : Nat)
  /-- NCO_CODE_ADD (R168). -/
  | ncoCodeAdd (e d a : Nat)
  /-- NCO_CPHS (R168). -/
  | ncoCphs (e a : Nat)
  /-- NCO_KPHS (R168). -/
  | ncoKphs (e a n : Nat)
  /-- TAP_OFF (R168). -/
  | tapOff (e d a t : Nat)
  /-- TAP_ADD (R168). -/
  | tapAdd (e d a t : Nat)
  /-- TAP_EN (R168). -/
  | tapEn (e d a : Nat)
  /-- CODE_SYMPOS (R168). -/
  | codeSympos (e d a : Nat)
  /-- CODE_SYMLEN (R168). -/
  | codeSymlen (e d a : Nat)
  /-- CODE_SEL (R168). -/
  | codeSel (e d a : Nat)
  /-- TRK_STACK (R168). -/
  | trkStack (e d a : Nat)
  /-- TRK_DUTY (R168). -/
  | trkDuty (e d a b : Nat)
  /-- TRK_STATE (R171). -/
  | trkState (e d a : Nat)
  /-- WIPE_LD (R172). -/
  | wipeLd (e d a b : Nat)
  /-- B_COND (R177). -/
  | bCond (e cond a : Nat) (off : Int)
  /-- JMP (R177). -/
  | jmp (e tgt : Nat)
  /-- CALL (R177). -/
  | call (e tgt : Nat)
  /-- LOOP (R179). -/
  | loop (e a len : Nat)
  /-- LINK (R178). -/
  | link (e addr : Nat)
  /-- END (R178). -/
  | end_ (e : Nat)
  /-- RET (R177). -/
  | ret (e : Nat)
  /-- NOP (R177). -/
  | nop (e : Nat)
  /-- JR (R177). -/
  | jr (e a : Nat)
  /-- CALLR (R177). -/
  | callr (e a : Nat)
  /-- MOV (R180). -/
  | mov (e d a : Nat)
  /-- MOVFL (R180). -/
  | movfl (e d : Nat)
  /-- LD_K (R180). -/
  | ldK (e d k : Nat)
  /-- ST_K (R153). -/
  | stK (e a k : Nat)
  /-- LD (R181). -/
  | ld (e d a : Nat) (off : Int)
  /-- ST (R181). -/
  | st (e d a b : Nat) (off : Int)
  /-- MOVE (R182). -/
  | move (e d a b size swap : Nat) (srcFix dstFix : Bool)
  /-- WAITQ (R183). -/
  | waitq (e d a src : Nat)
  /-- WAITQ_RELEASE (R183). -/
  | waitqRelease (e : Nat)
  /-- WAITT_ABS (R184). -/
  | waittAbs (e d a b : Nat)
  /-- WAITT_TP (R184). -/
  | waittTp (e d n : Nat)
  /-- WAITT_REL (R184). -/
  | waittRel (e d a : Nat)
  /-- WAITT_RELEASE (R185). -/
  | waittRelease (e : Nat)
  /-- STAMP (R186). -/
  | stamp (e d : Nat)
  /-- STAMP_READ (R186). -/
  | stampRead (e d fn : Nat)
  /-- TXN_BEGIN (R184). -/
  | txnBegin (e d n : Nat)
  /-- TXN_COMMIT (R184). -/
  | txnCommit (e d n : Nat)
  /-- TXN_COMMITAT (R187). -/
  | txnCommitat (e d a b n : Nat) (tp0 : Bool)
  /-- TXN_ABORT (R184). -/
  | txnAbort (e d n : Nat)
  /-- TXN_WAIT (R187). -/
  | txnWait (e d n : Nat)
  /-- TXN_WAIT_RELEASE (R187). -/
  | txnWaitRelease (e : Nat)
  /-- VOTE (R189). -/
  | vote (e d dom : Nat) (up wait : Bool)
  /-- VOTE_WAIT_RELEASE (R188). -/
  | voteWaitRelease (e : Nat)
  /-- CLAIM (R188). -/
  | claim (e d a : Nat)
  /-- RELEASE (R188). -/
  | release (e d a : Nat)
  /-- EVENT (R188). -/
  | event (e d a b type ring : Nat)
  /-- SIGNAL (R190). -/
  | signal (e n : Nat)
  /-- HALT (R188). -/
  | halt (e : Nat)
  /-- QUEUE_DOORBELL (R191). -/
  | queueDoorbell (owner n tail : Nat)
  /-- RUN (R192). -/
  | run (n : Nat)
  /-- LOAD (R193). -/
  | load (n : Nat)
  /-- FENCE (R191). -/
  | fence (n : Nat)
  /-- BAD_OP (R191). -/
  | badOp (n : Nat)
  /-- CTX_RESUME (R195). -/
  | ctxResume (owner n : Nat)
  /-- CTX_RESET (R195). -/
  | ctxReset (owner n : Nat)
  /-- SIG_SET (R190). -/
  | sigSet (owner : Nat) (v : Word)
  /-- PROGRAM_STORE_WRITE (R176). -/
  | programStoreWrite (owner addr : Nat) (v : Word)
  /-- EXECUTION_WATCHDOG (R198). -/
  | executionWatchdog (e : Nat)
  /-- PLAN_DOORBELL (R203). -/
  | planDoorbell (owner tail : Nat)
  /-- PLAN_FETCH (R203). -/
  | planFetch
  /-- CAPTURE_BLOCK_COPY (R205). -/
  | captureBlockCopy (slot : Nat)
  /-- BIN_DISPATCH (R210). -/
  | binDispatch (unit : Nat)
  /-- BIN_COMPLETE (R212). `mixed`: what the unit's sums are where something wrote into what the bin reads. -/
  | binComplete (unit : Nat) (mixed : List Nat)
  /-- AIDING_PUBLISH (R228). -/
  | aidingPublish (track : Nat) (words : List Word)
  /-- MEAS_SCAN (R237). -/
  | measScan (half : List (Nat × Bool)) (coast : List (Nat × List Nat))
  /-- TIMEMSG_SEND (R238). -/
  | timemsgSend (marks : Nat) (ffo : Int) (auth : Bool)
  /-- INTEGRITY_EVALUATION (R243). -/
  | integrityEvaluation (sec ms period : Nat) (view : SkyView) (gains : List (Nat × Int)) (nsv : Nat) (osnma : List (Nat × Bool))
    (levels : List (Nat × List Nat))
  /-- INTEG_SAVE (R258). -/
  | integSave
  /-- LOCK (R277). -/
  | lock (owner sol : Nat)
  /-- HOLDOVER (R277). -/
  | holdover (owner : Nat)
  /-- FREERUN (R277). -/
  | freerun (owner : Nat)
  /-- STEP (R279). -/
  | step (owner : Nat)
  /-- SUSPECT (R282). -/
  | suspect (owner : Nat) (up : Bool)
  /-- SLEW (R278). -/
  | slew (owner : Nat) (v : Word)
  /-- SLEW_COMPLETE (R277). -/
  | slewComplete
  /-- STEP_APPLY (R279). -/
  | stepApply
  /-- EST_ERR_UPDATE (R280). -/
  | estErrUpdate
  /-- SUSPECT_EXPIRY (R282). -/
  | suspectExpiry (offsetNs : Int)
  /-- TP_EDGE (R267). -/
  | tpEdge (n : Nat) (active : Bool)
  /-- LOOPBACK_CHECK (R269). -/
  | loopbackCheck (n kind : Nat) (at_ : Int)
  /-- TP_CAL_START (R268). -/
  | tpCalStart (owner : Nat)
  /-- TP_CAL_DONE (R268). -/
  | tpCalDone (tables : List (List Nat × Nat)) (ladders : List (List Nat))
  /-- TP_CAL_SWAP (R268). -/
  | tpCalSwap
  /-- CAPTURE_EDGE (R271). -/
  | captureEdge (m : Nat) (rising : Bool) (code : Nat)
  /-- CAPTURE_POP (R271). -/
  | capturePop (owner m : Nat)
  /-- TRG_ARM_WRITE (R274). -/
  | trgArmWrite (owner k : Nat) (v : Word)
  /-- TRIGGER_FIRE (R274). -/
  | triggerFire (k : Nat)
  /-- DT_REBUILD (R284). -/
  | dtRebuild
  /-- DT_READ (R262). -/
  | dtRead (owner : Nat)
  /-- MONO_READ (R264). -/
  | monoRead (owner : Nat)
  /-- LAST_SEQ_READ (R110). -/
  | lastSeqRead (owner stream : Nat)
  /-- FRAME_RX (R288). -/
  | frameRx (port : Nat) (bytes : List Nat) (ps : Nat) (room : Bool)
  /-- FRAME_TX (R291). -/
  | frameTx (port : Nat) (fw : Option TxFrame) (ps : Nat)
  /-- TXTS_POP (R291). -/
  | txtsPop (owner : Nat)
  /-- NTP_REQUEST (R300). -/
  | ntpRequest (mode version poll transmit rx steps port ps : Nat)
  /-- REQUEST_UNICAST_TRANSMISSION (R295). -/
  | requestUnicastTransmission (client rate duration : Nat)
  /-- ANNOUNCE_RECEIPT_TIMEOUT (R296). -/
  | announceReceiptTimeout
  /-- ESMC_PDU_SEND (R299). -/
  | esmcPduSend (event option2 : Bool) (qlA qlB : Nat)
  /-- ESMC_TIMEOUT (R299). -/
  | esmcTimeout (port : Nat)
  /-- LINK_DOWN (R308). -/
  | linkDown (port : Nat) (slave : Bool)
  /-- NP3_FRAME_RX (R302). -/
  | np3FrameRx (bytes : List Nat)
  /-- PEER_REPORT (R306). -/
  | peerReport (report : PeerDatagram) (x y z : Int)
  /-- PEER_REPORT_SEND (R306). -/
  | peerReportSend (sec ms : Nat) (x y z : Int) (sats : List (Nat × Nat × Int))
  /-- PWR_VOTE_RAISE (R310). -/
  | pwrVoteRaise (owner mask : Nat)
  /-- PWR_VOTE_WITHDRAW (R310). -/
  | pwrVoteWithdraw (owner mask : Nat)
  /-- DOMAIN_RUN (R311). -/
  | domainRun (d : Nat)
  /-- DOMAIN_OFF (R312). -/
  | domainOff (d : Nat)
  /-- DRAIN_TIMEOUT (R312). -/
  | drainTimeout (d : Nat)
  /-- WAKE_N_ASSERT (R316). -/
  | wakeNAssert
  /-- HOST_ACTIVITY (R316). -/
  | hostActivity
  /-- PROOFER_SLICE (R320). `bins`: how many waiting bins the Mill comes to in the slice. -/
  | prooferSlice (bins : Nat)
  /-- POD_PACK (R323). -/
  | podPack
  /-- MON_CONVERSION (R411). -/
  | monConversion (temps : List Int) (vcore : Nat)
  /-- APPLY (R329). -/
  | apply (owner : Nat)
  /-- ALIGN (R329). -/
  | align (owner : Nat)
  /-- SNAP (R330). -/
  | snap (owner : Nat)
  /-- RTC_LOAD (R329). -/
  | rtcLoad
  /-- RTC_SNAP_LATCH (R330). -/
  | rtcSnapLatch
  /-- RTC_READ (R328). -/
  | rtcRead (owner : Nat)
  /-- RTC_TRIM_WRITE (R331). -/
  | rtcTrimWrite (owner : Nat) (v : Word)
  /-- RTC_ALARM (R333). -/
  | rtcAlarm
  /-- OSC_FAIL (R334). -/
  | oscFail
  /-- OSC_RECOVER (R334). -/
  | oscRecover
  /-- BCT_TO_UTC (R335). -/
  | bctToUtc (owner : Nat)
  /-- UTC_TO_BCT (R335). -/
  | utcToBct (owner : Nat)
  /-- RTC_TO_UTC (R335). -/
  | rtcToUtc (owner : Nat)
  /-- CAL_CONVERSION_DONE (R337). -/
  | calConversionDone
  /-- LEDGER_WRITE (R339). -/
  | ledgerWrite
  /-- LEDGER_SUB_AGING (R340). -/
  | ledgerSubAging (owner : Nat)
  /-- LEDGER_SUB_LEAP (R340). -/
  | ledgerSubLeap (owner : Nat)
  /-- LEDGER_SUB_UPDATE (R340). -/
  | ledgerSubUpdate (owner : Nat)
  /-- VDD_AON_POWER_UP (R430). -/
  | vddAonPowerUp
  /-- CRUMB_SCAN_COMPLETE (R357). -/
  | crumbScanComplete
  /-- CRUMB_WRITE (R357). -/
  | crumbWrite
  /-- SW_CRUMB (R356). -/
  | swCrumb (owner type : Nat)
  /-- PWR_FAIL (R358). -/
  | pwrFail
  /-- LOCKSTEP_MISMATCH (R345). -/
  | lockstepMismatch
  /-- ISLAND_WATCHDOG (R345). -/
  | islandWatchdog
  /-- HEARTBEAT (R346). -/
  | heartbeat (owner : Nat) (v : Word)
  /-- HEARTBEAT_MISS (R346). -/
  | heartbeatMiss
  /-- KYO_SHADOW_MISMATCH (R346). -/
  | kyoShadowMismatch
  /-- STEST_START (R346). -/
  | stestStart (owner : Nat)
  /-- STEST_PERIODIC (R346). -/
  | stestPeriodic
  /-- STEST_COMPLETE (R346). -/
  | stestComplete (fail : Option Nat)
  /-- SAFE_ENTER (R352). -/
  | safeEnter (owner key : Nat)
  /-- SAFE_EXIT (R353). -/
  | safeExit (owner key : Nat)
  /-- SAFE_AUTO_EXIT (R353). -/
  | safeAutoExit
  /-- FLT_SWRAISE (R347). -/
  | fltSwraise (owner src : Nat) (up : Bool)
  /-- FLT_INJECT (R346). -/
  | fltInject (owner src : Nat)
  /-- SUPPLY_FAULT (R348). -/
  | supplyFault (k : Nat)
  /-- INTERCONNECT_TIMEOUT (R347). -/
  | interconnectTimeout (owner : Nat)
  /-- BCH_START (R361). -/
  | bchStart (owner ch : Nat)
  /-- BCH_PAUSE (R369). -/
  | bchPause (owner ch : Nat)
  /-- BCH_RESUME (R369). -/
  | bchResume (owner ch : Nat)
  /-- BCH_STOP (R369). -/
  | bchStop (owner ch : Nat)
  /-- PCH_START (R372). -/
  | pchStart (owner ch : Nat)
  /-- PCH_PAUSE (R374). -/
  | pchPause (owner ch : Nat)
  /-- PCH_RESUME (R374). -/
  | pchResume (owner ch : Nat)
  /-- PCH_RESET (R360). -/
  | pchReset (owner ch : Nat)
  /-- DMA_BURST (R364). -/
  | dmaBurst (ch : Nat)
  /-- DMA_BUS_ERROR (R371). -/
  | dmaBusError (addr ch : Nat) (write pcie fetch : Bool)
  /-- DMA_DOORBELL (R373). -/
  | dmaDoorbell (owner mask : Nat)
  /-- PACE_ADD (R366). -/
  | paceAdd (owner p v : Nat)
  /-- RESET_N (R430). -/
  | resetN
  /-- SOFTWARE_RESET (R430). -/
  | softwareReset (owner key : Nat)
  /-- BOOT (R381). -/
  | boot (record : Bool) (revoke : Option Nat) (unlock : Option UnlockToken) (bands : List BandFill) (filters : List Word)
  /-- TRIAL_EXPIRY (R383). -/
  | trialExpiry
  /-- HEALTH_CONFIRM (R384). -/
  | healthConfirm (owner key : Nat)
  /-- GHEAND_INFO (R387). -/
  | gheandInfo (port : Nat) (src : SvcFrom) (tag : Nat)
  /-- GHEAND_OPEN (R388). -/
  | gheandOpen (port : Nat) (src : SvcFrom) (tag : Nat)
  /-- GHEAND_CLOSE (R388). -/
  | gheandClose (port : Nat) (src : SvcFrom) (tag : Nat)
  /-- GHEAND_BEGIN (R389). -/
  | gheandBegin (port : Nat) (src : SvcFrom) (tag id count : Nat)
  /-- GHEAND_STAGE (R389). -/
  | gheandStage (port : Nat) (src : SvcFrom) (tag index : Nat) (data : List Nat)
  /-- GHEAND_STATUS (R387). -/
  | gheandStatus (port : Nat) (src : SvcFrom) (tag : Nat)
  /-- GHEAND_COMMIT (R389). -/
  | gheandCommit (port : Nat) (src : SvcFrom) (tag trialS : Nat)
  /-- GHEAND_READ (R390). -/
  | gheandRead (port : Nat) (src : SvcFrom) (tag addr len : Nat)
  /-- GHEAND_VOTE (R390). -/
  | gheandVote (port : Nat) (src : SvcFrom) (tag mask : Nat) (up : Bool)
  /-- GHEAND_REVOKE (R379). -/
  | gheandRevoke (port : Nat) (src : SvcFrom) (tag : Nat) (token : List Nat)
  /-- GHEAND_UNLOCK (R391). -/
  | gheandUnlock (port : Nat) (src : SvcFrom) (tag : Nat) (token : List Nat)
  /-- GHEAND_RESET (R387). -/
  | gheandReset (port : Nat) (src : SvcFrom) (tag : Nat)
  /-- GHEAND_LOCK_TIMEOUT (R388). -/
  | gheandLockTimeout
  /-- SVC_RELEASE (R388). -/
  | svcRelease (owner : Nat)
  /-- XTAL32_TICK (R327). -/
  | xtal32Tick
  /-- VDD_AON_POWER_DOWN (R327). -/
  | vddAonPowerDown (vbat : Bool)
  /-- SUPPLY_RECOVER (R348). -/
  | supplyRecover (k : Nat)
  /-- CLKMON_RECOVER (R72). -/
  | clkmonRecover (pair : Nat)
  /-- LINK_UP (R286). -/
  | linkUp (port : Nat)
  /-- GHEAND_BAD_FRAME (R387). -/
  | gheandBadFrame (frame : BadFrame)
  /-- AUTO_BAUD (R386). -/
  | autoBaud (rate first : Nat)
  /-- MAC_AGEING (R287). -/
  | macAgeing (mac : Nat)
  /-- EXT_PPS_TIMEOUT (R73). -/
  | extPpsTimeout
  /-- OCQUEL_RESET (R430). -/
  | ocquelReset
  /-- ILLEGAL_OPCODE (R156). -/
  | illegalOpcode (e : Nat) (word : Word)
  deriving DecidableEq, Repr

end Sys2Proof
end

