-- ==== Sys2Proof/Config.lean ====
section
/-! DEFINITION. What one implementation fixes and the values the spec leaves open. A free value has no body: nothing can be
proved of it but what holds of every value. -/

namespace Sys2Proof.Config

/-- DESIGN CHOICE (log 5), safe: the `n`-th value the spec leaves open, drawn by the counter State.free. -/
opaque freeNat : Nat → Nat

/-- DESIGN CHOICE (log 3), safe: what the byte at an address reads as since its memory lost its content for the `n`-th time, until it
is written (R115, R317). -/
opaque freeByte : Nat → Nat → Byte

/-- DESIGN CHOICE (log 44), safe: the byte at an address of Boot config or the key store, whose records hold these numbers (R380). -/
opaque recordByte : List Nat → Nat → Byte

/-- DESIGN CHOICE (log 188), safe: NP3's MAC address (R386). -/
opaque np3Mac : Nat

/-- DESIGN CHOICE (log 24), safe: the entry of the AltBOC table that a subcarrier eighth and the two code bits name (R132). -/
opaque altIndex : Nat → Nat → Nat → Nat

/-- DESIGN CHOICE (log 24), safe: is the complex value of the AltBOC table multiplied in as its conjugate (R132)? -/
opaque altConjugate : Bool

/-- DESIGN CHOICE (log 37), safe: what the Mill's resampler takes at a place between two samples, named by its fraction (R209). -/
opaque millPoint : Nat × Nat → Int × Int → Int × Int → Int × Int

/-- DESIGN CHOICE (log 37), safe: a value of the transforms, from R210's wipe to its last one, brought to the Mill's numbers. -/
opaque millRound : Int × Int → Int × Int

/-- DESIGN CHOICE (log 37), safe: what E01 adds in cell `k` of a bin (R419). -/
opaque millSpur : Nat → Int × Int

/-- DESIGN CHOICE (log 37), safe: a power sum in 32 bits. -/
opaque millNarrow : Nat → Nat

/-- FCLK periods per second with SPLL locked (R18). -/
def fclkHz : Nat := 491520000

/-- XTAL32 ticks per second (R18). -/
def xtalHz : Nat := 32768

/-- Units of 2^-32 ns in one second: the resolution of DT (R261). -/
def dtSecond : Nat := 1000000000 * 2 ^ 32

end Sys2Proof.Config
end

