-- ==== Sys2Proof/Machine/Map.lean ====
section
/-! DEFINITION. Reading and writing sparse data in its canonical form: keys strictly rising, no entry equal to the default. -/

namespace Sys2Proof.Machine

variable {α : Type}

/-- What key `k` holds; the default `d` where nothing is listed. -/
def look (d : α) : Sparse α → Nat → α
  | [], _ => d
  | (k', v) :: m, k => if k' = k then v else look d m k

/-- Every entry but those of key `k`. -/
def drop (k : Nat) : Sparse α → Sparse α
  | [] => []
  | (k', v) :: m => if k' = k then drop k m else (k', v) :: drop k m

/-- An entry put before the first key above its own. -/
def place (k : Nat) (v : α) : Sparse α → Sparse α
  | [] => [(k, v)]
  | (k', v') :: m => if k < k' then (k, v) :: (k', v') :: m else (k', v') :: place k v m

/-- Key `k` holds `v` from now on; storing the default `d` removes the entry. -/
def put [DecidableEq α] (d : α) (m : Sparse α) (k : Nat) (v : α) : Sparse α :=
  if v = d then drop k m else place k v (drop k m)

/-- Keys strictly rise from `b` on. -/
def risingFrom (b : Nat) : Sparse α → Bool
  | [] => true
  | (k, _) :: m => decide (b ≤ k) && risingFrom (k + 1) m

/-- The canonical form for the default `d`, which may depend on the key. -/
def canonical [DecidableEq α] (d : Nat → α) (m : Sparse α) : Bool :=
  risingFrom 0 m && m.all fun e => decide (e.2 ≠ d e.1)

end Sys2Proof.Machine
end

