-- ==== Sys2Proof/Machine/Regs.lean ====
section
/-! DEFINITION. Addresses of the registers (namespace Reg) and their fields (namespace F), as the register tables of the
chapters give them; `b` numbers a block that repeats (PLL, RFP, POD, NP), `i` a register that repeats in its block. -/

namespace Sys2Proof.Machine.Reg

def SYS_CHIPID : Nat := 0x40000000
def SYS_REV : Nat := 0x40000004
def SYS_OFFACC_CNT : Nat := 0x40000020
def SYS_OFFACC_ADDR : Nat := 0x40000024
def SYS_RSTCAUSE : Nat := 0x40000008
def SYS_SWRST : Nat := 0x4000000C
def TXN_CMD (i : Nat) : Nat := 0x400D0000 + 0x40 * i
def TXN_STAT (i : Nat) : Nat := 0x400D0004 + 0x40 * i
def TXN_JCOUNT (i : Nat) : Nat := 0x400D0008 + 0x40 * i
def TXN_AT_SEC_LO (i : Nat) : Nat := 0x400D000C + 0x40 * i
def TXN_AT_SEC_HI (i : Nat) : Nat := 0x400D0010 + 0x40 * i
def TXN_AT_NS (i : Nat) : Nat := 0x400D0014 + 0x40 * i
def TXN_PEEK_ADDR (i : Nat) : Nat := 0x400D0018 + 0x40 * i
def TXN_PEEK_DATA (i : Nat) : Nat := 0x400D001C + 0x40 * i
def TXN_CTRL : Nat := 0x400D0100
def TXN_TIMEOUT : Nat := 0x400D0104
def TXN_AUTOABORT : Nat := 0x400D0108
def PAD_CLAIM : Nat := 0x40150000
def PAD_CLAIM_RES : Nat := 0x40150004
def PAD_QUERY : Nat := 0x40150008
def PAD_FUNC (i : Nat) : Nat := 0x40150100 + 0x4 * i
def CLK_REFCFG : Nat := 0x40030000
def CLK_REFSTAT : Nat := 0x40030004
def CLK_MONSTAT : Nat := 0x40030008
def CLK_STRAP : Nat := 0x4003000C
def PLL_CTRL (b : Nat) : Nat := 0x40040000 + 0x1000 * b
def PLL_NINT (b : Nat) : Nat := 0x40040004 + 0x1000 * b
def PLL_NNUM (b : Nat) : Nat := 0x40040008 + 0x1000 * b
def PLL_NDEN (b : Nat) : Nat := 0x4004000C + 0x1000 * b
def PLL_DIV (b : Nat) : Nat := 0x40040010 + 0x1000 * b
def PLL_LF (b : Nat) : Nat := 0x40040014 + 0x1000 * b
def PLL_SSC (b : Nat) : Nat := 0x40040018 + 0x1000 * b
def PLL_CMD (b : Nat) : Nat := 0x4004001C + 0x1000 * b
def PLL_STAT (b : Nat) : Nat := 0x40040020 + 0x1000 * b
def PLL_EVT (b : Nat) : Nat := 0x40040024 + 0x1000 * b
def PLL_FERR (b : Nat) : Nat := 0x40040028 + 0x1000 * b
def PLL_DCOWORD (b : Nat) : Nat := 0x4004002C + 0x1000 * b
def PLL_PHASE (b : Nat) : Nat := 0x40040030 + 0x1000 * b
def PLL_CAL_LO (b : Nat) : Nat := 0x40040034 + 0x1000 * b
def PLL_CAL_HI (b : Nat) : Nat := 0x40040038 + 0x1000 * b
def PLL_LOCKCFG (b : Nat) : Nat := 0x4004003C + 0x1000 * b
def PLL_BAND_A (b i : Nat) : Nat := 0x40040100 + 0x1000 * b + 0x10 * i
def PLL_BAND_B (b i : Nat) : Nat := 0x40040104 + 0x1000 * b + 0x10 * i
def PLL_BAND_C (b i : Nat) : Nat := 0x40040108 + 0x1000 * b + 0x10 * i
def RFP_CTRL (b : Nat) : Nat := 0x40050000 + 0x1000 * b
def RFP_TUNE (b : Nat) : Nat := 0x40050004 + 0x1000 * b
def RFP_RL (b : Nat) : Nat := 0x40050008 + 0x1000 * b
def RFP_RLCFG (b : Nat) : Nat := 0x4005000C + 0x1000 * b
def RFP_BIAS (b : Nat) : Nat := 0x40050010 + 0x1000 * b
def RFP_BIASCFG (b : Nat) : Nat := 0x40050014 + 0x1000 * b
def RFP_EVT (b : Nat) : Nat := 0x40050018 + 0x1000 * b
def RFP_CMD (b : Nat) : Nat := 0x4005001C + 0x1000 * b
def RFP_STAT (b : Nat) : Nat := 0x40050020 + 0x1000 * b
def RFP_AGC_CFG (b i : Nat) : Nat := 0x40050040 + 0x1000 * b + 0x8 * i
def RFP_AGC_GAIN (b i : Nat) : Nat := 0x40050044 + 0x1000 * b + 0x8 * i
def INJ_GRP_CFG (i : Nat) : Nat := 0x40058000 + 0x10 * i
def INJ_GRP_OFF (i : Nat) : Nat := 0x40058004 + 0x10 * i
def INJ_CMD : Nat := 0x40058040
def INJ_STAT : Nat := 0x40058044
def INJ_BIAS (i : Nat) : Nat := 0x40058080 + 0x4 * i
def ADC_LOCAL_CTRL : Nat := 0x40060000
def ADC_LOCAL_CMD : Nat := 0x40060004
def ADC_LOCAL_STAT : Nat := 0x40060008
def ADC_BLANK_CFG (i : Nat) : Nat := 0x40060020 + 0x10 * i
def ADC_BLANK_MASK (i : Nat) : Nat := 0x40060024 + 0x10 * i
def ADC_BLANK_LEAD (i : Nat) : Nat := 0x40060028 + 0x10 * i
def ADC_BLANK_LAG (i : Nat) : Nat := 0x4006002C + 0x10 * i
def ADC_STAT (i : Nat) : Nat := 0x40060100 + 0x10 * i
def ADC_BLANKCNT (i : Nat) : Nat := 0x40060104 + 0x10 * i
def CHZ_STR_CFG (i : Nat) : Nat := 0x40070000 + 0x10 * i
def CHZ_STR_FREQ (i : Nat) : Nat := 0x40070004 + 0x10 * i
def CHZ_STR_STAT (i : Nat) : Nat := 0x40070008 + 0x10 * i
def SIEVE_PB_CFG (i : Nat) : Nat := 0x40078000 + 0x10 * i
def SIEVE_PB_EXT (i : Nat) : Nat := 0x40078004 + 0x10 * i
def SIEVE_PB_STAT (i : Nat) : Nat := 0x40078008 + 0x10 * i
def SIEVE_PB_TOTAL (i : Nat) : Nat := 0x4007800C + 0x10 * i
def SIEVE_NT_CFG (i : Nat) : Nat := 0x40078200 + 0x10 * i
def SIEVE_NT_FREQ (i : Nat) : Nat := 0x40078204 + 0x10 * i
def SIEVE_NT_STAT (i : Nat) : Nat := 0x40078208 + 0x10 * i
def SIEVE_NT_CUR (i : Nat) : Nat := 0x4007820C + 0x10 * i
def RING_STR_ALLOC (i : Nat) : Nat := 0x40080000 + 0x20 * i
def RING_STR_STAT (i : Nat) : Nat := 0x40080004 + 0x20 * i
def RING_STR_LAST_SEQ (i : Nat) : Nat := 0x40080008 + 0x20 * i
def RING_STR_LAST_NS (i : Nat) : Nat := 0x4008000C + 0x20 * i
def RING_STR_LAST_SEC_LO (i : Nat) : Nat := 0x40080010 + 0x20 * i
def RING_STR_LAST_SEC_HI (i : Nat) : Nat := 0x40080014 + 0x20 * i
def RING_STR_LAST_INFO (i : Nat) : Nat := 0x40080018 + 0x20 * i
def RING_CTRL : Nat := 0x40080400
def RING_PINSTAT : Nat := 0x40080404
def RING_EVT : Nat := 0x40080408
def POD_CTRL (b : Nat) : Nat := 0x40090000 + 0x1000 * b
def POD_STAT (b : Nat) : Nat := 0x40090004 + 0x1000 * b
def POD_LOAD (b : Nat) : Nat := 0x40090008 + 0x1000 * b
def POD_SWEEPS (b : Nat) : Nat := 0x4009000C + 0x1000 * b
def POD_MISS (b : Nat) : Nat := 0x40090010 + 0x1000 * b
def POD_HUSK_STAT (b : Nat) : Nat := 0x40090014 + 0x1000 * b
def POD_HUSK_MISM (b : Nat) : Nat := 0x40090018 + 0x1000 * b
def POD_RESID (b : Nat) : Nat := 0x4009001C + 0x1000 * b
def POD_EVT (b : Nat) : Nat := 0x40090020 + 0x1000 * b
def POD_CMD (b : Nat) : Nat := 0x40090024 + 0x1000 * b
def TRK_CMD : Nat := 0x400A0000
def TRK_START_SEQ : Nat := 0x400A0004
def TRK_RESULT : Nat := 0x400A0008
def TRK_CFGERR : Nat := 0x400A000C
def TRK_ACTIVE : Nat := 0x400A0010
def TRK_SCRUB : Nat := 0x400A0040
def TRK_ECC : Nat := 0x400A0044
def TRK_UNCORR_ADDR : Nat := 0x400A0048
def TRK_WRBLOCK : Nat := 0x400A004C
def TRK_WRBLOCK_ADDR : Nat := 0x400A0050
def TRK_RAW_BASE : Nat := 0x400A0060
def TRK_RAW_SIZE : Nat := 0x400A0064
def TRK_RAW_WR : Nat := 0x400A0068
def TRK_RAW_RD : Nat := 0x400A006C
def TRK_RAW_DROP : Nat := 0x400A0070
def TRK_PODCNT (i : Nat) : Nat := 0x400A0020 + 0x4 * i
def LYZ_CTRL : Nat := 0x400C0000
def LYZ_WDOG : Nat := 0x400C0004
def LYZ_PS_FW : Nat := 0x400C0008
def LYZ_SIG : Nat := 0x400C000C
def LYZ_SIG_SET : Nat := 0x400C0010
def LYZ_FLT_INFO : Nat := 0x400C0020
def LYZ_FLT_ADDR : Nat := 0x400C0024
def LYZ_FLT_CNT : Nat := 0x400C0028
def LYZ_CTX_QBASE_LO (i : Nat) : Nat := 0x400C0100 + 0x40 * i
def LYZ_CTX_QBASE_HI (i : Nat) : Nat := 0x400C0104 + 0x40 * i
def LYZ_CTX_EBASE_LO (i : Nat) : Nat := 0x400C0114 + 0x40 * i
def LYZ_CTX_EBASE_HI (i : Nat) : Nat := 0x400C0118 + 0x40 * i
def LYZ_CTX_QCFG (i : Nat) : Nat := 0x400C0108 + 0x40 * i
def LYZ_CTX_ECFG (i : Nat) : Nat := 0x400C011C + 0x40 * i
def LYZ_CTX_QHEAD (i : Nat) : Nat := 0x400C010C + 0x40 * i
def LYZ_CTX_EHEAD (i : Nat) : Nat := 0x400C0120 + 0x40 * i
def LYZ_CTX_QTAIL (i : Nat) : Nat := 0x400C0110 + 0x40 * i
def LYZ_CTX_ETAIL (i : Nat) : Nat := 0x400C0124 + 0x40 * i
def LYZ_CTX_STAT (i : Nat) : Nat := 0x400C0128 + 0x40 * i
def LYZ_CTX_CMD (i : Nat) : Nat := 0x400C012C + 0x40 * i
def LYZ_CTX_EVDROP (i : Nat) : Nat := 0x400C0130 + 0x40 * i
def MILL_CTRL : Nat := 0x400B0000
def MILL_STAT : Nat := 0x400B0004
def MILL_EVT : Nat := 0x400B0008
def MILL_CELLS : Nat := 0x400B000C
def MILL_PLAN_BASE : Nat := 0x400B0010
def MILL_HIT_BASE : Nat := 0x400B0020
def MILL_PLAN_CFG : Nat := 0x400B0014
def MILL_HIT_CFG : Nat := 0x400B0024
def MILL_PLAN_HEAD : Nat := 0x400B0018
def MILL_HIT_WR : Nat := 0x400B0028
def MILL_PLAN_TAIL : Nat := 0x400B001C
def MILL_HIT_RD : Nat := 0x400B002C
def MILL_HIT_DROP : Nat := 0x400B0030
def KYO_CTRL : Nat := 0x400E0000
def KYO_STATE : Nat := 0x400E0004
def KYO_CMD : Nat := 0x400E0008
def KYO_EVT : Nat := 0x400E000C
def KYO_DT_NS : Nat := 0x400E0010
def KYO_DT_SEC_LO : Nat := 0x400E0014
def KYO_DT_SEC_HI : Nat := 0x400E0018
def KYO_TS32 : Nat := 0x400E001C
def KYO_MONO_LO : Nat := 0x400E0020
def KYO_MONO_HI : Nat := 0x400E0024
def KYO_ADDEND_LO : Nat := 0x400E0028
def KYO_ADDEND_HI : Nat := 0x400E002C
def KYO_SLEW : Nat := 0x400E0030
def KYO_SLEW_REM : Nat := 0x400E0034
def KYO_SLEW_MAX : Nat := 0x400E0038
def KYO_STEP_THRESH : Nat := 0x400E003C
def KYO_STEP_SEC : Nat := 0x400E0040
def KYO_STEP_NS : Nat := 0x400E0044
def KYO_HOLD_BUDGET : Nat := 0x400E0048
def KYO_HOLD_A1 : Nat := 0x400E004C
def KYO_HOLD_A2 : Nat := 0x400E0050
def KYO_HOLD_E0 : Nat := 0x400E0054
def KYO_EST_ERR : Nat := 0x400E0058
def KYO_HOLD_S : Nat := 0x400E005C
def KYO_SRC_ERR : Nat := 0x400E0060
def KYO_RTC_PPB : Nat := 0x400E0064
def KYO_ISO_EST (i : Nat) : Nat := 0x400E0100 + 0x8 * i
def KYO_ISO_BC (i : Nat) : Nat := 0x400E0104 + 0x8 * i
def TP_CFG (i : Nat) : Nat := 0x400E1000 + 0x20 * i
def TP_PERIOD (i : Nat) : Nat := 0x400E1004 + 0x20 * i
def TP_OFFSET (i : Nat) : Nat := 0x400E1008 + 0x20 * i
def TP_WIDTH (i : Nat) : Nat := 0x400E100C + 0x20 * i
def TP_COMP (i : Nat) : Nat := 0x400E1010 + 0x20 * i
def TP_STAT (i : Nat) : Nat := 0x400E1014 + 0x20 * i
def TP_LB (i : Nat) : Nat := 0x400E1018 + 0x20 * i
def TP_DOUT (i : Nat) : Nat := 0x400E101C + 0x20 * i
def TP_CAL_CMD : Nat := 0x400E1100
def TP_CAL_STAT : Nat := 0x400E1104
def TP_LBCFG : Nat := 0x400E1108
def CAP_CFG (i : Nat) : Nat := 0x400E2000 + 0x20 * i
def CAP_COMP (i : Nat) : Nat := 0x400E2004 + 0x20 * i
def CAP_NS (i : Nat) : Nat := 0x400E2008 + 0x20 * i
def CAP_SEC_LO (i : Nat) : Nat := 0x400E200C + 0x20 * i
def CAP_SEC_HI (i : Nat) : Nat := 0x400E2010 + 0x20 * i
def CAP_STAT (i : Nat) : Nat := 0x400E2014 + 0x20 * i
def TRG_CFG (i : Nat) : Nat := 0x400E2200 + 0x20 * i
def TRG_AT_SEC_LO (i : Nat) : Nat := 0x400E2204 + 0x20 * i
def TRG_AT_SEC_HI (i : Nat) : Nat := 0x400E2208 + 0x20 * i
def TRG_AT_NS (i : Nat) : Nat := 0x400E220C + 0x20 * i
def TRG_PERIOD (i : Nat) : Nat := 0x400E2210 + 0x20 * i
def TRG_CTX (i : Nat) : Nat := 0x400E2214 + 0x20 * i
def TRG_WAKE (i : Nat) : Nat := 0x400E2218 + 0x20 * i
def TRG_TAG (i : Nat) : Nat := 0x400E2500 + 0x4 * i
def TRG_STAT (i : Nat) : Nat := 0x400E221C + 0x20 * i
def CAPTRG_EVT : Nat := 0x400E2400
def NET_CTRL : Nat := 0x400F0000
def NET_STAT : Nat := 0x400F0004
def NET_VLAN (i : Nat) : Nat := 0x400F0100 + 0x4 * i
def NP_CFG (b : Nat) : Nat := 0x400F1000 + 0x1000 * b
def NP_STAT (b : Nat) : Nat := 0x400F1004 + 0x1000 * b
def NP_LAT_TX (b i : Nat) : Nat := 0x400F1010 + 0x1000 * b + 0x8 * i
def NP_LAT_RX (b i : Nat) : Nat := 0x400F1014 + 0x1000 * b + 0x8 * i
def NP_LINKDLY (b : Nat) : Nat := 0x400F1040 + 0x1000 * b
def NP3_CFG : Nat := 0x400F4000
def NP3_STAT : Nat := 0x400F4004
def NP3_LAT_TX (i : Nat) : Nat := 0x400F4010 + 0x8 * i
def NP3_LAT_RX (i : Nat) : Nat := 0x400F4014 + 0x8 * i
def NP3_LINKDLY : Nat := 0x400F4040
def NP3_PLCA : Nat := 0x400F4080
def NP3_WAKE_CFG : Nat := 0x400F4090
def NP3_WAKE_DA_LO : Nat := 0x400F4094
def NP3_WAKE_DA_HI : Nat := 0x400F4098
def NP3_WAKE_DOM : Nat := 0x400F409C
def NP3_WAKE_PAT_OFS (i : Nat) : Nat := 0x400F40A0 + 0x10 * i
def NP3_WAKE_PAT_VAL (i : Nat) : Nat := 0x400F40A4 + 0x10 * i
def NP3_WAKE_PAT_MASK (i : Nat) : Nat := 0x400F40A8 + 0x10 * i
def NP3_WAKE_STAT : Nat := 0x400F40E0
def PTPA_CTRL : Nat := 0x400F8000
def PTPA_TC_DOM : Nat := 0x400F8004
def PTPA_NTP_OFS : Nat := 0x400F8008
def PTPA_TXTS_INFO : Nat := 0x400F8010
def PTPA_TXTS_NS : Nat := 0x400F8014
def PTPA_TXTS_SEC_LO : Nat := 0x400F8018
def PTPA_TXTS_SEC_HI : Nat := 0x400F801C
def PTPA_EVT : Nat := 0x400F8020
def PTPA_NTP_SERVED : Nat := 0x400F8024
def PTPA_NTP_DROP : Nat := 0x400F8028
def PWR_VOTE : Nat := 0x40010000
def PWR_VOTE_RES : Nat := 0x40010004
def PWR_CTRL : Nat := 0x40010008
def PWR_RET : Nat := 0x4001000C
def PWR_WAKE_CFG : Nat := 0x40010010
def PWR_EVT : Nat := 0x40010200
def PWR_WAKE_DOM (i : Nat) : Nat := 0x40010014 + 0x4 * i
def PWR_WAKE_HOLD : Nat := 0x40010020
def PWR_WAKESTAT : Nat := 0x40010024
def PWR_DOM_VOTE (i : Nat) : Nat := 0x40010100 + 0x8 * i
def PWR_DOM_STAT (i : Nat) : Nat := 0x40010104 + 0x8 * i
def PRF_CTRL : Nat := 0x40020000
def PRF_CAP : Nat := 0x40020004
def PRF_BASE : Nat := 0x40020008
def PRF_TEMP : Nat := 0x4002000C
def PRF_ELANE : Nat := 0x40020010
def PRF_ESEQ : Nat := 0x40020014
def PRF_EMILL : Nat := 0x40020018
def PRF_POD : Nat := 0x4002001C
def PRF_PACK : Nat := 0x40020020
def PRF_QUIET : Nat := 0x40020024
def PRF_STAT : Nat := 0x40020040
def PRF_RATION : Nat := 0x40020044
def PRF_USED : Nat := 0x40020048
def PRF_DEFER : Nat := 0x4002004C
def PRF_EVT : Nat := 0x40020050
def RTC_SEC_LO : Nat := 0x40100000
def RTC_STG_SEC_LO : Nat := 0x40100010
def RTC_SEC_HI : Nat := 0x40100004
def RTC_STG_SEC_HI : Nat := 0x40100014
def RTC_FRAC : Nat := 0x40100008
def RTC_STG_FRAC : Nat := 0x40100018
def RTC_CMD : Nat := 0x4010001C
def RTC_STAT : Nat := 0x40100020
def RTC_TRIM : Nat := 0x40100024
def RTC_EVT : Nat := 0x40100030
def RTC_ALARM_LO : Nat := 0x40100028
def RTC_ALARM_HI : Nat := 0x4010002C
def RTC_SNAP_SEC_LO : Nat := 0x40100040
def RTC_SNAP_SEC_HI : Nat := 0x40100044
def RTC_SNAP_FRAC : Nat := 0x40100048
def RTC_SNAP_DT_NS : Nat := 0x4010004C
def RTC_SNAP_DT_SEC_LO : Nat := 0x40100050
def RTC_SNAP_DT_SEC_HI : Nat := 0x40100054
def CAL_CMD : Nat := 0x40101000
def CAL_BCT_LO : Nat := 0x40101004
def CAL_BCT_HI : Nat := 0x40101008
def CAL_DATE : Nat := 0x4010100C
def CAL_TIME : Nat := 0x40101010
def CAL_INFO : Nat := 0x40101014
def CAL_STATUS : Nat := 0x40101018
def LEDGER_STAT : Nat := 0x40102000
def LEDGER_SEQ : Nat := 0x40102004
def LEDGER_LAST : Nat := 0x40102008
def LEDGER_SUB_D (i : Nat) : Nat := 0x40102010 + 0x4 * i
def LEDGER_SUB_CMD : Nat := 0x40102020
def LEDGER_SUB_RES : Nat := 0x40102024
def OCQ_STAT : Nat := 0x40110000
def OCQ_SAFE_REQ : Nat := 0x40110004
def OCQ_SAFE_CFG : Nat := 0x40110008
def OCQ_HB : Nat := 0x40110010
def OCQ_HBCFG : Nat := 0x40110014
def OCQ_STEST_CMD : Nat := 0x40110018
def OCQ_STEST_STAT : Nat := 0x4011001C
def OCQ_STEST_CFG : Nat := 0x40110020
def FLT_STAT (i : Nat) : Nat := 0x40111000 + 0x4 * i
def FLT_LATCH (i : Nat) : Nat := 0x40111020 + 0x4 * i
def FLT_CLASS (i : Nat) : Nat := 0x40111040 + 0x4 * i
def FLT_CTRL : Nat := 0x40111080
def FLT_FIRST : Nat := 0x40111084
def FLT_CNT_SEL : Nat := 0x40111088
def FLT_CNT : Nat := 0x4011108C
def FLT_SWRAISE : Nat := 0x40111090
def FLT_INJECT : Nat := 0x40111094
def CRUMB_CFG : Nat := 0x40112000
def CRUMB_SEQ : Nat := 0x40112004
def CRUMB_STAT : Nat := 0x40112008
def CRUMB_LOST : Nat := 0x4011200C
def CRUMB_SW_D (i : Nat) : Nat := 0x40112020 + 0x4 * i
def CRUMB_SW_CMD : Nat := 0x40112040
def CRUMB_SW_RES : Nat := 0x40112044
def DMA_CTRL : Nat := 0x40120000
def DMA_STAT : Nat := 0x40120004
def DMA_ERR_ADDR_LO : Nat := 0x40120008
def DMA_ERR_ADDR_HI : Nat := 0x4012000C
def DMA_ERR_INFO : Nat := 0x40120010
def DMA_IRQ : Nat := 0x40120014
def DMA_IRQ_ERR : Nat := 0x40120018
def DMA_IEN : Nat := 0x4012001C
def DMA_DOORBELL : Nat := 0x40120020
def DMA_RGN_BASE (i : Nat) : Nat := 0x40120040 + 0x10 * i
def DMA_RGN_LIMIT (i : Nat) : Nat := 0x40120044 + 0x10 * i
def DMA_RGN_ATTR (i : Nat) : Nat := 0x40120048 + 0x10 * i
def DMA_PACE_CFG (i : Nat) : Nat := 0x40120100 + 0x10 * i
def DMA_PACE_LEVEL (i : Nat) : Nat := 0x40120104 + 0x10 * i
def DMA_PACE_ADD (i : Nat) : Nat := 0x40120108 + 0x10 * i
def DMA_BCH_CFG (i : Nat) : Nat := 0x40120400 + 0x40 * i
def DMA_BCH_SRC_LO (i : Nat) : Nat := 0x40120404 + 0x40 * i
def DMA_BCH_CUR_SRC_LO (i : Nat) : Nat := 0x40120420 + 0x40 * i
def DMA_BCH_SRC_HI (i : Nat) : Nat := 0x40120408 + 0x40 * i
def DMA_BCH_CUR_SRC_HI (i : Nat) : Nat := 0x40120424 + 0x40 * i
def DMA_BCH_DST_LO (i : Nat) : Nat := 0x4012040C + 0x40 * i
def DMA_BCH_CUR_DST_LO (i : Nat) : Nat := 0x40120428 + 0x40 * i
def DMA_BCH_DST_HI (i : Nat) : Nat := 0x40120410 + 0x40 * i
def DMA_BCH_CUR_DST_HI (i : Nat) : Nat := 0x4012042C + 0x40 * i
def DMA_BCH_COUNT (i : Nat) : Nat := 0x40120414 + 0x40 * i
def DMA_BCH_CUR_COUNT (i : Nat) : Nat := 0x40120430 + 0x40 * i
def DMA_BCH_CMD (i : Nat) : Nat := 0x40120418 + 0x40 * i
def DMA_BCH_STAT (i : Nat) : Nat := 0x4012041C + 0x40 * i
def DMA_PCH_PC (i : Nat) : Nat := 0x40120800 + 0x20 * i
def DMA_PCH_KBASE (i : Nat) : Nat := 0x40120804 + 0x20 * i
def DMA_PCH_CFG (i : Nat) : Nat := 0x40120808 + 0x20 * i
def DMA_PCH_CMD (i : Nat) : Nat := 0x4012080C + 0x20 * i
def DMA_PCH_STAT (i : Nat) : Nat := 0x40120810 + 0x20 * i
def DMA_PCH_CUR_PC (i : Nat) : Nat := 0x40120814 + 0x20 * i
def SVC_STAT : Nat := 0x40140000
def SVC_CNT : Nat := 0x40140004
def SVC_CMD : Nat := 0x40140008
def BOOT_STAT : Nat := 0x40141000
def BOOT_SLOTS : Nat := 0x40141004
def BOOT_TRIAL_REM : Nat := 0x40141008
def BOOT_HEALTH_CONFIRM : Nat := 0x4014100C
def BOOT_STRAP : Nat := 0x40141020
def BOOT_VERSION : Nat := 0x40141010
def BOOT_UID_LO : Nat := 0x40141014
def BOOT_UID_HI : Nat := 0x40141018
def BOOT_NONCE : Nat := 0x4014101C
def MON_TEMP (i : Nat) : Nat := 0x40160000 + 0x4 * i
def MON_TEMP_MAX : Nat := 0x40160020
def MON_VCORE : Nat := 0x40160040
def MON_EVT : Nat := 0x40160044
def PCIE_STAT : Nat := 0x40130000
def PCIE_WIN_BASE (i : Nat) : Nat := 0x40130010 + 0x4 * i
def PCIE_SRCMAP (i : Nat) : Nat := 0x40130100 + 0x4 * i
def HSPI_STAT : Nat := 0x40131000
def HSPI_CNT : Nat := 0x40131004
def HSPI_FRAME : Nat := 0x40131100
def HUART_BAUD : Nat := 0x40132000
def HUART_STAT : Nat := 0x40132004
def HUART_CNT : Nat := 0x40132008

end Sys2Proof.Machine.Reg

namespace Sys2Proof.Machine.F

def SYS_CHIPID_VENDOR : Fld := ⟨Reg.SYS_CHIPID, 16, 16⟩
def SYS_CHIPID_PART : Fld := ⟨Reg.SYS_CHIPID, 0, 16⟩
def SYS_REV_MAJOR : Fld := ⟨Reg.SYS_REV, 4, 4⟩
def SYS_REV_MINOR : Fld := ⟨Reg.SYS_REV, 0, 4⟩
def SYS_OFFACC_CNT_COUNT : Fld := ⟨Reg.SYS_OFFACC_CNT, 0, 32⟩
def SYS_OFFACC_ADDR_ADDR : Fld := ⟨Reg.SYS_OFFACC_ADDR, 2, 30⟩
def SYS_OFFACC_ADDR_WRITE : Fld := ⟨Reg.SYS_OFFACC_ADDR, 1, 1⟩
def SYS_RSTCAUSE_CAUSE : Fld := ⟨Reg.SYS_RSTCAUSE, 0, 3⟩
def SYS_SWRST_KEY : Fld := ⟨Reg.SYS_SWRST, 16, 16⟩
def TXN_CMD_OP (i : Nat) : Fld := ⟨Reg.TXN_CMD i, 0, 3⟩
def TXN_CMD_AT_TP0 (i : Nat) : Fld := ⟨Reg.TXN_CMD i, 3, 1⟩
def TXN_STAT_STATE (i : Nat) : Fld := ⟨Reg.TXN_STAT i, 0, 3⟩
def TXN_STAT_OWNER (i : Nat) : Fld := ⟨Reg.TXN_STAT i, 8, 6⟩
def TXN_STAT_RESULT (i : Nat) : Fld := ⟨Reg.TXN_STAT i, 16, 8⟩
def TXN_STAT_LATE (i : Nat) : Fld := ⟨Reg.TXN_STAT i, 24, 1⟩
def TXN_STAT_STEPPED (i : Nat) : Fld := ⟨Reg.TXN_STAT i, 25, 1⟩
def TXN_JCOUNT_COUNT (i : Nat) : Fld := ⟨Reg.TXN_JCOUNT i, 0, 9⟩
def TXN_AT_SEC_LO_SEC_LO (i : Nat) : Fld := ⟨Reg.TXN_AT_SEC_LO i, 0, 32⟩
def TXN_AT_SEC_HI_SEC_HI (i : Nat) : Fld := ⟨Reg.TXN_AT_SEC_HI i, 0, 16⟩
def TXN_AT_NS_NS (i : Nat) : Fld := ⟨Reg.TXN_AT_NS i, 0, 30⟩
def TXN_PEEK_ADDR_ADDR (i : Nat) : Fld := ⟨Reg.TXN_PEEK_ADDR i, 2, 30⟩
def TXN_PEEK_ADDR_HIT (i : Nat) : Fld := ⟨Reg.TXN_PEEK_ADDR i, 0, 1⟩
def TXN_PEEK_DATA_DATA (i : Nat) : Fld := ⟨Reg.TXN_PEEK_DATA i, 0, 32⟩
def TXN_CTRL_REQUIRED : Fld := ⟨Reg.TXN_CTRL, 0, 4⟩
def TXN_CTRL_LATE_POLICY : Fld := ⟨Reg.TXN_CTRL, 4, 4⟩
def TXN_TIMEOUT_MS : Fld := ⟨Reg.TXN_TIMEOUT, 0, 16⟩
def TXN_AUTOABORT_COUNT : Fld := ⟨Reg.TXN_AUTOABORT, 0, 16⟩
def PAD_CLAIM_RES_ID : Fld := ⟨Reg.PAD_CLAIM, 0, 16⟩
def PAD_CLAIM_OP : Fld := ⟨Reg.PAD_CLAIM, 16, 2⟩
def PAD_CLAIM_RES_RESULT : Fld := ⟨Reg.PAD_CLAIM_RES, 0, 3⟩
def PAD_QUERY_RES_ID : Fld := ⟨Reg.PAD_QUERY, 0, 16⟩
def PAD_QUERY_OWNER : Fld := ⟨Reg.PAD_QUERY, 16, 6⟩
def PAD_QUERY_PREEMPTED : Fld := ⟨Reg.PAD_QUERY, 22, 1⟩
def PAD_FUNC_FUNC (i : Nat) : Fld := ⟨Reg.PAD_FUNC i, 0, 4⟩
def PAD_FUNC_PULL (i : Nat) : Fld := ⟨Reg.PAD_FUNC i, 4, 2⟩
def PAD_FUNC_DRIVE (i : Nat) : Fld := ⟨Reg.PAD_FUNC i, 6, 2⟩
def PAD_FUNC_IN_EN (i : Nat) : Fld := ⟨Reg.PAD_FUNC i, 8, 1⟩
def CLK_REFCFG_A_EN : Fld := ⟨Reg.CLK_REFCFG, 0, 1⟩
def CLK_REFCFG_A_DIFF : Fld := ⟨Reg.CLK_REFCFG, 1, 1⟩
def CLK_REFCFG_A_TERM : Fld := ⟨Reg.CLK_REFCFG, 2, 1⟩
def CLK_REFCFG_B_EN : Fld := ⟨Reg.CLK_REFCFG, 4, 1⟩
def CLK_REFCFG_B_DIFF : Fld := ⟨Reg.CLK_REFCFG, 5, 1⟩
def CLK_REFCFG_B_TERM : Fld := ⟨Reg.CLK_REFCFG, 6, 1⟩
def CLK_REFCFG_PPS_EN : Fld := ⟨Reg.CLK_REFCFG, 7, 1⟩
def CLK_REFSTAT_A_OK : Fld := ⟨Reg.CLK_REFSTAT, 0, 1⟩
def CLK_REFSTAT_B_OK : Fld := ⟨Reg.CLK_REFSTAT, 1, 1⟩
def CLK_REFSTAT_PPS_OK : Fld := ⟨Reg.CLK_REFSTAT, 2, 1⟩
def CLK_MONSTAT_REFA_BAD : Fld := ⟨Reg.CLK_MONSTAT, 0, 1⟩
def CLK_MONSTAT_REFB_BAD : Fld := ⟨Reg.CLK_MONSTAT, 1, 1⟩
def CLK_MONSTAT_FIRC_BAD : Fld := ⟨Reg.CLK_MONSTAT, 2, 1⟩
def CLK_MONSTAT_LIRC_BAD : Fld := ⟨Reg.CLK_MONSTAT, 3, 1⟩
def CLK_MONSTAT_XTAL32_BAD : Fld := ⟨Reg.CLK_MONSTAT, 4, 1⟩
def CLK_STRAP_REF_SEL : Fld := ⟨Reg.CLK_STRAP, 0, 3⟩
def CLK_STRAP_REF_KHZ : Fld := ⟨Reg.CLK_STRAP, 8, 20⟩
def PLL_CTRL_EN (b : Nat) : Fld := ⟨Reg.PLL_CTRL b, 0, 1⟩
def PLL_CTRL_REFSEL (b : Nat) : Fld := ⟨Reg.PLL_CTRL b, 1, 3⟩
def PLL_CTRL_AUTO_RETURN (b : Nat) : Fld := ⟨Reg.PLL_CTRL b, 4, 1⟩
def PLL_CTRL_FAILOVER (b : Nat) : Fld := ⟨Reg.PLL_CTRL b, 5, 1⟩
def PLL_CTRL_OUTSEL (b : Nat) : Fld := ⟨Reg.PLL_CTRL b, 6, 1⟩
def PLL_NINT_INT (b : Nat) : Fld := ⟨Reg.PLL_NINT b, 0, 10⟩
def PLL_NNUM_NUM (b : Nat) : Fld := ⟨Reg.PLL_NNUM b, 0, 24⟩
def PLL_NDEN_DEN (b : Nat) : Fld := ⟨Reg.PLL_NDEN b, 0, 24⟩
def PLL_DIV_DIV0 (b : Nat) : Fld := ⟨Reg.PLL_DIV b, 0, 5⟩
def PLL_DIV_DIV1 (b : Nat) : Fld := ⟨Reg.PLL_DIV b, 8, 5⟩
def PLL_LF_KP_M (b : Nat) : Fld := ⟨Reg.PLL_LF b, 0, 8⟩
def PLL_LF_KP_E (b : Nat) : Fld := ⟨Reg.PLL_LF b, 8, 6⟩
def PLL_LF_KI_M (b : Nat) : Fld := ⟨Reg.PLL_LF b, 14, 8⟩
def PLL_LF_KI_E (b : Nat) : Fld := ⟨Reg.PLL_LF b, 22, 6⟩
def PLL_LF_P3_EN (b : Nat) : Fld := ⟨Reg.PLL_LF b, 28, 1⟩
def PLL_LF_P3_E (b : Nat) : Fld := ⟨Reg.PLL_LF b, 29, 3⟩
def PLL_SSC_MODE (b : Nat) : Fld := ⟨Reg.PLL_SSC b, 0, 2⟩
def PLL_SSC_DEPTH (b : Nat) : Fld := ⟨Reg.PLL_SSC b, 2, 6⟩
def PLL_SSC_FMOD (b : Nat) : Fld := ⟨Reg.PLL_SSC b, 8, 6⟩
def PLL_CMD_RELOCK (b : Nat) : Fld := ⟨Reg.PLL_CMD b, 0, 1⟩
def PLL_CMD_BANDCAL (b : Nat) : Fld := ⟨Reg.PLL_CMD b, 1, 1⟩
def PLL_CMD_BAND_IDX (b : Nat) : Fld := ⟨Reg.PLL_CMD b, 4, 4⟩
def PLL_STAT_STATE (b : Nat) : Fld := ⟨Reg.PLL_STAT b, 0, 3⟩
def PLL_STAT_ENTRY (b : Nat) : Fld := ⟨Reg.PLL_STAT b, 4, 4⟩
def PLL_STAT_BAND (b : Nat) : Fld := ⟨Reg.PLL_STAT b, 8, 6⟩
def PLL_STAT_PHLOCK (b : Nat) : Fld := ⟨Reg.PLL_STAT b, 16, 1⟩
def PLL_STAT_FREQOK (b : Nat) : Fld := ⟨Reg.PLL_STAT b, 17, 1⟩
def PLL_STAT_REF_OK (b : Nat) : Fld := ⟨Reg.PLL_STAT b, 18, 1⟩
def PLL_STAT_ALIGNED (b : Nat) : Fld := ⟨Reg.PLL_STAT b, 19, 1⟩
def PLL_STAT_OUT_PLL (b : Nat) : Fld := ⟨Reg.PLL_STAT b, 20, 1⟩
def PLL_STAT_NOBAND (b : Nat) : Fld := ⟨Reg.PLL_STAT b, 21, 1⟩
def PLL_STAT_CFG_ERR (b : Nat) : Fld := ⟨Reg.PLL_STAT b, 22, 1⟩
def PLL_STAT_ALIGN_ERR (b : Nat) : Fld := ⟨Reg.PLL_STAT b, 23, 1⟩
def PLL_STAT_CAL_BUSY (b : Nat) : Fld := ⟨Reg.PLL_STAT b, 24, 1⟩
def PLL_EVT_LOL (b : Nat) : Fld := ⟨Reg.PLL_EVT b, 0, 1⟩
def PLL_EVT_LOR (b : Nat) : Fld := ⟨Reg.PLL_EVT b, 1, 1⟩
def PLL_EVT_LOCKED (b : Nat) : Fld := ⟨Reg.PLL_EVT b, 2, 1⟩
def PLL_EVT_CLAMPED (b : Nat) : Fld := ⟨Reg.PLL_EVT b, 3, 1⟩
def PLL_EVT_FAILOVER (b : Nat) : Fld := ⟨Reg.PLL_EVT b, 4, 1⟩
def PLL_EVT_CAL_DONE (b : Nat) : Fld := ⟨Reg.PLL_EVT b, 5, 1⟩
def PLL_FERR_FERR (b : Nat) : Fld := ⟨Reg.PLL_FERR b, 0, 32⟩
def PLL_DCOWORD_FINE (b : Nat) : Fld := ⟨Reg.PLL_DCOWORD b, 0, 24⟩
def PLL_DCOWORD_BAND (b : Nat) : Fld := ⟨Reg.PLL_DCOWORD b, 24, 6⟩
def PLL_PHASE_RESID (b : Nat) : Fld := ⟨Reg.PLL_PHASE b, 0, 16⟩
def PLL_PHASE_VALID (b : Nat) : Fld := ⟨Reg.PLL_PHASE b, 31, 1⟩
def PLL_CAL_LO_KHZ (b : Nat) : Fld := ⟨Reg.PLL_CAL_LO b, 0, 22⟩
def PLL_CAL_HI_KHZ (b : Nat) : Fld := ⟨Reg.PLL_CAL_HI b, 0, 22⟩
def PLL_LOCKCFG_PH_THR (b : Nat) : Fld := ⟨Reg.PLL_LOCKCFG b, 0, 8⟩
def PLL_LOCKCFG_LOCK_CNT (b : Nat) : Fld := ⟨Reg.PLL_LOCKCFG b, 8, 16⟩
def PLL_LOCKCFG_QUAL_MS (b : Nat) : Fld := ⟨Reg.PLL_LOCKCFG b, 24, 8⟩
def PLL_BAND_A_FLO (b i : Nat) : Fld := ⟨Reg.PLL_BAND_A b i, 0, 22⟩
def PLL_BAND_B_FHI (b i : Nat) : Fld := ⟨Reg.PLL_BAND_B b i, 0, 22⟩
def PLL_BAND_C_BAND (b i : Nat) : Fld := ⟨Reg.PLL_BAND_C b i, 0, 6⟩
def PLL_BAND_C_CLAMP (b i : Nat) : Fld := ⟨Reg.PLL_BAND_C b i, 16, 12⟩
def PLL_BAND_C_VALID (b i : Nat) : Fld := ⟨Reg.PLL_BAND_C b i, 31, 1⟩
def RFP_CTRL_LNA_EN (b : Nat) : Fld := ⟨Reg.RFP_CTRL b, 0, 1⟩
def RFP_CTRL_CHAIN_EN (b : Nat) : Fld := ⟨Reg.RFP_CTRL b, 1, 3⟩
def RFP_CTRL_BIAS_EN (b : Nat) : Fld := ⟨Reg.RFP_CTRL b, 4, 1⟩
def RFP_TUNE_C_SER (b : Nat) : Fld := ⟨Reg.RFP_TUNE b, 0, 6⟩
def RFP_TUNE_C_SHUNT (b : Nat) : Fld := ⟨Reg.RFP_TUNE b, 8, 6⟩
def RFP_RL_RL (b : Nat) : Fld := ⟨Reg.RFP_RL b, 0, 10⟩
def RFP_RL_VALID (b : Nat) : Fld := ⟨Reg.RFP_RL b, 31, 1⟩
def RFP_RLCFG_THR (b : Nat) : Fld := ⟨Reg.RFP_RLCFG b, 0, 8⟩
def RFP_BIAS_CURRENT (b : Nat) : Fld := ⟨Reg.RFP_BIAS b, 0, 8⟩
def RFP_BIAS_OPEN (b : Nat) : Fld := ⟨Reg.RFP_BIAS b, 8, 1⟩
def RFP_BIAS_SHORT (b : Nat) : Fld := ⟨Reg.RFP_BIAS b, 9, 1⟩
def RFP_BIAS_TRIPPED (b : Nat) : Fld := ⟨Reg.RFP_BIAS b, 10, 1⟩
def RFP_BIASCFG_SHORT_MS (b : Nat) : Fld := ⟨Reg.RFP_BIASCFG b, 0, 8⟩
def RFP_EVT_RL_ALARM (b : Nat) : Fld := ⟨Reg.RFP_EVT b, 0, 1⟩
def RFP_EVT_OPEN (b : Nat) : Fld := ⟨Reg.RFP_EVT b, 1, 1⟩
def RFP_EVT_SHORT (b : Nat) : Fld := ⟨Reg.RFP_EVT b, 2, 1⟩
def RFP_EVT_TRIP (b : Nat) : Fld := ⟨Reg.RFP_EVT b, 3, 1⟩
def RFP_EVT_TUNE_DONE (b : Nat) : Fld := ⟨Reg.RFP_EVT b, 4, 1⟩
def RFP_CMD_AUTOTUNE (b : Nat) : Fld := ⟨Reg.RFP_CMD b, 0, 1⟩
def RFP_CMD_BIAS_RETRY (b : Nat) : Fld := ⟨Reg.RFP_CMD b, 1, 1⟩
def RFP_STAT_TUNE_BUSY (b : Nat) : Fld := ⟨Reg.RFP_STAT b, 0, 1⟩
def RFP_STAT_TUNE_REFUSED (b : Nat) : Fld := ⟨Reg.RFP_STAT b, 1, 1⟩
def RFP_AGC_CFG_MODE (b i : Nat) : Fld := ⟨Reg.RFP_AGC_CFG b i, 0, 2⟩
def RFP_AGC_CFG_TARGET (b i : Nat) : Fld := ⟨Reg.RFP_AGC_CFG b i, 8, 7⟩
def RFP_AGC_CFG_STEP_MAX (b i : Nat) : Fld := ⟨Reg.RFP_AGC_CFG b i, 16, 4⟩
def RFP_AGC_GAIN_GAIN (b i : Nat) : Fld := ⟨Reg.RFP_AGC_GAIN b i, 0, 7⟩
def RFP_AGC_GAIN_RAIL (b i : Nat) : Fld := ⟨Reg.RFP_AGC_GAIN b i, 7, 1⟩
def INJ_GRP_CFG_CODE (i : Nat) : Fld := ⟨Reg.INJ_GRP_CFG i, 0, 3⟩
def INJ_GRP_CFG_LEVEL (i : Nat) : Fld := ⟨Reg.INJ_GRP_CFG i, 4, 5⟩
def INJ_GRP_CFG_PORT_MASK (i : Nat) : Fld := ⟨Reg.INJ_GRP_CFG i, 12, 4⟩
def INJ_GRP_OFF_FOFF (i : Nat) : Fld := ⟨Reg.INJ_GRP_OFF i, 0, 32⟩
def INJ_CMD_OP : Fld := ⟨Reg.INJ_CMD, 0, 2⟩
def INJ_CMD_GRP_MASK : Fld := ⟨Reg.INJ_CMD, 4, 3⟩
def INJ_STAT_STATE0 : Fld := ⟨Reg.INJ_STAT, 0, 2⟩
def INJ_STAT_STATE1 : Fld := ⟨Reg.INJ_STAT, 2, 2⟩
def INJ_STAT_STATE2 : Fld := ⟨Reg.INJ_STAT, 4, 2⟩
def INJ_STAT_RESULT : Fld := ⟨Reg.INJ_STAT, 8, 2⟩
def INJ_BIAS_DELAY (i : Nat) : Fld := ⟨Reg.INJ_BIAS i, 0, 16⟩
def INJ_BIAS_PHASE (i : Nat) : Fld := ⟨Reg.INJ_BIAS i, 16, 12⟩
def INJ_BIAS_VALID (i : Nat) : Fld := ⟨Reg.INJ_BIAS i, 31, 1⟩
def ADC_LOCAL_CTRL_TDELTA : Fld := ⟨Reg.ADC_LOCAL_CTRL, 0, 6⟩
def ADC_LOCAL_CMD_CAL : Fld := ⟨Reg.ADC_LOCAL_CMD, 0, 3⟩
def ADC_LOCAL_STAT_BUSY : Fld := ⟨Reg.ADC_LOCAL_STAT, 0, 3⟩
def ADC_LOCAL_STAT_PENDING : Fld := ⟨Reg.ADC_LOCAL_STAT, 3, 3⟩
def ADC_LOCAL_STAT_NOLOCK : Fld := ⟨Reg.ADC_LOCAL_STAT, 6, 3⟩
def ADC_LOCAL_STAT_ABORT : Fld := ⟨Reg.ADC_LOCAL_STAT, 9, 3⟩
def ADC_BLANK_CFG_EN (i : Nat) : Fld := ⟨Reg.ADC_BLANK_CFG i, 0, 1⟩
def ADC_BLANK_CFG_POL (i : Nat) : Fld := ⟨Reg.ADC_BLANK_CFG i, 1, 1⟩
def ADC_BLANK_CFG_GLITCH (i : Nat) : Fld := ⟨Reg.ADC_BLANK_CFG i, 8, 8⟩
def ADC_BLANK_MASK_MASK (i : Nat) : Fld := ⟨Reg.ADC_BLANK_MASK i, 0, 12⟩
def ADC_BLANK_LEAD_LEAD (i : Nat) : Fld := ⟨Reg.ADC_BLANK_LEAD i, 0, 12⟩
def ADC_BLANK_LAG_LAG (i : Nat) : Fld := ⟨Reg.ADC_BLANK_LAG i, 0, 16⟩
def ADC_STAT_RMS (i : Nat) : Fld := ⟨Reg.ADC_STAT i, 0, 10⟩
def ADC_STAT_OVR (i : Nat) : Fld := ⟨Reg.ADC_STAT i, 16, 16⟩
def ADC_BLANKCNT_COUNT (i : Nat) : Fld := ⟨Reg.ADC_BLANKCNT i, 0, 18⟩
def CHZ_STR_CFG_EN (i : Nat) : Fld := ⟨Reg.CHZ_STR_CFG i, 0, 1⟩
def CHZ_STR_CFG_RATE (i : Nat) : Fld := ⟨Reg.CHZ_STR_CFG i, 1, 3⟩
def CHZ_STR_CFG_ADC (i : Nat) : Fld := ⟨Reg.CHZ_STR_CFG i, 4, 4⟩
def CHZ_STR_CFG_QTARGET (i : Nat) : Fld := ⟨Reg.CHZ_STR_CFG i, 16, 6⟩
def CHZ_STR_FREQ_FREQ (i : Nat) : Fld := ⟨Reg.CHZ_STR_FREQ i, 0, 32⟩
def CHZ_STR_STAT_STATE (i : Nat) : Fld := ⟨Reg.CHZ_STR_STAT i, 0, 2⟩
def CHZ_STR_STAT_CFG_ERR (i : Nat) : Fld := ⟨Reg.CHZ_STR_STAT i, 2, 1⟩
def CHZ_STR_STAT_SCALE (i : Nat) : Fld := ⟨Reg.CHZ_STR_STAT i, 8, 8⟩
def CHZ_STR_STAT_DELAY (i : Nat) : Fld := ⟨Reg.CHZ_STR_STAT i, 16, 16⟩
def SIEVE_PB_CFG_EN (i : Nat) : Fld := ⟨Reg.SIEVE_PB_CFG i, 0, 1⟩
def SIEVE_PB_CFG_THR (i : Nat) : Fld := ⟨Reg.SIEVE_PB_CFG i, 8, 6⟩
def SIEVE_PB_CFG_PRE (i : Nat) : Fld := ⟨Reg.SIEVE_PB_CFG i, 16, 6⟩
def SIEVE_PB_EXT_POST (i : Nat) : Fld := ⟨Reg.SIEVE_PB_EXT i, 0, 12⟩
def SIEVE_PB_STAT_BLANKED (i : Nat) : Fld := ⟨Reg.SIEVE_PB_STAT i, 0, 16⟩
def SIEVE_PB_STAT_SIGMA (i : Nat) : Fld := ⟨Reg.SIEVE_PB_STAT i, 16, 16⟩
def SIEVE_PB_TOTAL_COUNT (i : Nat) : Fld := ⟨Reg.SIEVE_PB_TOTAL i, 0, 32⟩
def SIEVE_NT_CFG_MODE (i : Nat) : Fld := ⟨Reg.SIEVE_NT_CFG i, 0, 2⟩
def SIEVE_NT_CFG_BW (i : Nat) : Fld := ⟨Reg.SIEVE_NT_CFG i, 4, 4⟩
def SIEVE_NT_CFG_SPAN (i : Nat) : Fld := ⟨Reg.SIEVE_NT_CFG i, 8, 8⟩
def SIEVE_NT_CFG_ENG_THR (i : Nat) : Fld := ⟨Reg.SIEVE_NT_CFG i, 16, 8⟩
def SIEVE_NT_FREQ_FREQ (i : Nat) : Fld := ⟨Reg.SIEVE_NT_FREQ i, 0, 32⟩
def SIEVE_NT_STAT_ENGAGED (i : Nat) : Fld := ⟨Reg.SIEVE_NT_STAT i, 0, 1⟩
def SIEVE_NT_STAT_TONE (i : Nat) : Fld := ⟨Reg.SIEVE_NT_STAT i, 8, 8⟩
def SIEVE_NT_CUR_FREQ (i : Nat) : Fld := ⟨Reg.SIEVE_NT_CUR i, 0, 32⟩
def RING_STR_ALLOC_BASE (i : Nat) : Fld := ⟨Reg.RING_STR_ALLOC i, 0, 7⟩
def RING_STR_ALLOC_DEPTH (i : Nat) : Fld := ⟨Reg.RING_STR_ALLOC i, 8, 5⟩
def RING_STR_STAT_STATE (i : Nat) : Fld := ⟨Reg.RING_STR_STAT i, 0, 2⟩
def RING_STR_STAT_CONFLICT (i : Nat) : Fld := ⟨Reg.RING_STR_STAT i, 2, 1⟩
def RING_STR_STAT_CFG_ERR (i : Nat) : Fld := ⟨Reg.RING_STR_STAT i, 3, 1⟩
def RING_STR_STAT_CLAIM (i : Nat) : Fld := ⟨Reg.RING_STR_STAT i, 4, 1⟩
def RING_STR_STAT_PAGES (i : Nat) : Fld := ⟨Reg.RING_STR_STAT i, 16, 5⟩
def RING_STR_LAST_SEQ_SEQ (i : Nat) : Fld := ⟨Reg.RING_STR_LAST_SEQ i, 0, 32⟩
def RING_STR_LAST_NS_NS (i : Nat) : Fld := ⟨Reg.RING_STR_LAST_NS i, 0, 30⟩
def RING_STR_LAST_SEC_LO_SEC_LO (i : Nat) : Fld := ⟨Reg.RING_STR_LAST_SEC_LO i, 0, 32⟩
def RING_STR_LAST_SEC_HI_SEC_HI (i : Nat) : Fld := ⟨Reg.RING_STR_LAST_SEC_HI i, 0, 16⟩
def RING_STR_LAST_SEC_HI_FRAC (i : Nat) : Fld := ⟨Reg.RING_STR_LAST_SEC_HI i, 16, 16⟩
def RING_STR_LAST_INFO_FLAGS (i : Nat) : Fld := ⟨Reg.RING_STR_LAST_INFO i, 0, 8⟩
def RING_STR_LAST_INFO_NOTCH (i : Nat) : Fld := ⟨Reg.RING_STR_LAST_INFO i, 8, 4⟩
def RING_STR_LAST_INFO_BLANK16 (i : Nat) : Fld := ⟨Reg.RING_STR_LAST_INFO i, 16, 16⟩
def RING_CTRL_PIN_GUARD : Fld := ⟨Reg.RING_CTRL, 0, 8⟩
def RING_CTRL_PIN_MAX : Fld := ⟨Reg.RING_CTRL, 8, 8⟩
def RING_PINSTAT_P0_BUSY : Fld := ⟨Reg.RING_PINSTAT, 0, 1⟩
def RING_PINSTAT_P0_STREAM : Fld := ⟨Reg.RING_PINSTAT, 1, 5⟩
def RING_PINSTAT_P1_BUSY : Fld := ⟨Reg.RING_PINSTAT, 8, 1⟩
def RING_PINSTAT_P1_STREAM : Fld := ⟨Reg.RING_PINSTAT, 9, 5⟩
def RING_EVT_CONFLICT : Fld := ⟨Reg.RING_EVT, 0, 1⟩
def RING_EVT_PIN_DROP : Fld := ⟨Reg.RING_EVT, 1, 1⟩
def RING_EVT_PIN_TIMEOUT : Fld := ⟨Reg.RING_EVT, 2, 1⟩
def RING_EVT_PIN_LATE : Fld := ⟨Reg.RING_EVT, 3, 1⟩
def POD_CTRL_EN (b : Nat) : Fld := ⟨Reg.POD_CTRL b, 0, 1⟩
def POD_CTRL_SEQ_EN (b : Nat) : Fld := ⟨Reg.POD_CTRL b, 1, 4⟩
def POD_STAT_STATE (b : Nat) : Fld := ⟨Reg.POD_STAT b, 0, 2⟩
def POD_STAT_LANE_OK (b : Nat) : Fld := ⟨Reg.POD_STAT b, 2, 8⟩
def POD_STAT_HUSK_OK (b : Nat) : Fld := ⟨Reg.POD_STAT b, 10, 1⟩
def POD_LOAD_SWEEP (b : Nat) : Fld := ⟨Reg.POD_LOAD b, 0, 16⟩
def POD_LOAD_SEQ (b : Nat) : Fld := ⟨Reg.POD_LOAD b, 16, 16⟩
def POD_SWEEPS_SWEEPS (b : Nat) : Fld := ⟨Reg.POD_SWEEPS b, 0, 16⟩
def POD_SWEEPS_SELFCHK (b : Nat) : Fld := ⟨Reg.POD_SWEEPS b, 16, 16⟩
def POD_MISS_COUNT (b : Nat) : Fld := ⟨Reg.POD_MISS b, 0, 32⟩
def POD_HUSK_STAT_SUSPECT (b : Nat) : Fld := ⟨Reg.POD_HUSK_STAT b, 0, 8⟩
def POD_HUSK_STAT_FAILED (b : Nat) : Fld := ⟨Reg.POD_HUSK_STAT b, 8, 8⟩
def POD_HUSK_STAT_HUSK_FAILED (b : Nat) : Fld := ⟨Reg.POD_HUSK_STAT b, 16, 1⟩
def POD_HUSK_MISM_MISM (b : Nat) : Fld := ⟨Reg.POD_HUSK_MISM b, 0, 16⟩
def POD_HUSK_MISM_RETRY_OK (b : Nat) : Fld := ⟨Reg.POD_HUSK_MISM b, 16, 16⟩
def POD_RESID_COUNT (b : Nat) : Fld := ⟨Reg.POD_RESID b, 0, 16⟩
def POD_RESID_LANES (b : Nat) : Fld := ⟨Reg.POD_RESID b, 16, 9⟩
def POD_EVT_MISS (b : Nat) : Fld := ⟨Reg.POD_EVT b, 0, 1⟩
def POD_EVT_MISMATCH (b : Nat) : Fld := ⟨Reg.POD_EVT b, 1, 1⟩
def POD_EVT_LANE_FAIL (b : Nat) : Fld := ⟨Reg.POD_EVT b, 2, 1⟩
def POD_EVT_HUSK_FAIL (b : Nat) : Fld := ⟨Reg.POD_EVT b, 3, 1⟩
def POD_EVT_RESIDUE (b : Nat) : Fld := ⟨Reg.POD_EVT b, 4, 1⟩
def POD_CMD_RETEST (b : Nat) : Fld := ⟨Reg.POD_CMD b, 0, 9⟩
def TRK_CMD_TRACK : Fld := ⟨Reg.TRK_CMD, 0, 12⟩
def TRK_CMD_OP : Fld := ⟨Reg.TRK_CMD, 12, 3⟩
def TRK_CMD_POD : Fld := ⟨Reg.TRK_CMD, 15, 3⟩
def TRK_CMD_AT_SEQ : Fld := ⟨Reg.TRK_CMD, 18, 1⟩
def TRK_START_SEQ_SEQ : Fld := ⟨Reg.TRK_START_SEQ, 0, 32⟩
def TRK_RESULT_RESULT : Fld := ⟨Reg.TRK_RESULT, 0, 4⟩
def TRK_RESULT_PENDING : Fld := ⟨Reg.TRK_RESULT, 4, 1⟩
def TRK_CFGERR_TRACK : Fld := ⟨Reg.TRK_CFGERR, 0, 12⟩
def TRK_CFGERR_REASON : Fld := ⟨Reg.TRK_CFGERR, 16, 4⟩
def TRK_ACTIVE_COUNT : Fld := ⟨Reg.TRK_ACTIVE, 0, 13⟩
def TRK_SCRUB_PASSES : Fld := ⟨Reg.TRK_SCRUB, 0, 16⟩
def TRK_SCRUB_CLEARING : Fld := ⟨Reg.TRK_SCRUB, 16, 1⟩
def TRK_ECC_CORRECTED : Fld := ⟨Reg.TRK_ECC, 0, 16⟩
def TRK_ECC_UNCORR : Fld := ⟨Reg.TRK_ECC, 16, 16⟩
def TRK_UNCORR_ADDR_ADDR : Fld := ⟨Reg.TRK_UNCORR_ADDR, 2, 30⟩
def TRK_WRBLOCK_COUNT : Fld := ⟨Reg.TRK_WRBLOCK, 0, 16⟩
def TRK_WRBLOCK_OWNER : Fld := ⟨Reg.TRK_WRBLOCK, 16, 6⟩
def TRK_WRBLOCK_ADDR_ADDR : Fld := ⟨Reg.TRK_WRBLOCK_ADDR, 2, 30⟩
def TRK_RAW_BASE_BASE : Fld := ⟨Reg.TRK_RAW_BASE, 0, 32⟩
def TRK_RAW_SIZE_RECORDS : Fld := ⟨Reg.TRK_RAW_SIZE, 0, 16⟩
def TRK_RAW_WR_INDEX : Fld := ⟨Reg.TRK_RAW_WR, 0, 16⟩
def TRK_RAW_RD_INDEX : Fld := ⟨Reg.TRK_RAW_RD, 0, 16⟩
def TRK_RAW_DROP_COUNT : Fld := ⟨Reg.TRK_RAW_DROP, 0, 32⟩
def TRK_PODCNT_COUNT (i : Nat) : Fld := ⟨Reg.TRK_PODCNT i, 0, 13⟩
def LYZ_CTRL_CTX_EN : Fld := ⟨Reg.LYZ_CTRL, 0, 8⟩
def LYZ_CTRL_TRKEV_RING : Fld := ⟨Reg.LYZ_CTRL, 8, 3⟩
def LYZ_CTRL_TRKEV_EN : Fld := ⟨Reg.LYZ_CTRL, 11, 1⟩
def LYZ_WDOG_TRK_LIM : Fld := ⟨Reg.LYZ_WDOG, 0, 8⟩
def LYZ_WDOG_CTL_LIM : Fld := ⟨Reg.LYZ_WDOG, 8, 6⟩
def LYZ_PS_FW_FW_WORDS : Fld := ⟨Reg.LYZ_PS_FW, 0, 17⟩
def LYZ_SIG_SIG : Fld := ⟨Reg.LYZ_SIG, 0, 32⟩
def LYZ_SIG_SET_SET : Fld := ⟨Reg.LYZ_SIG_SET, 0, 32⟩
def LYZ_FLT_INFO_OWNER : Fld := ⟨Reg.LYZ_FLT_INFO, 0, 6⟩
def LYZ_FLT_INFO_CODE : Fld := ⟨Reg.LYZ_FLT_INFO, 8, 8⟩
def LYZ_FLT_INFO_TRACK : Fld := ⟨Reg.LYZ_FLT_INFO, 16, 12⟩
def LYZ_FLT_INFO_VALID : Fld := ⟨Reg.LYZ_FLT_INFO, 31, 1⟩
def LYZ_FLT_ADDR_ADDR : Fld := ⟨Reg.LYZ_FLT_ADDR, 0, 32⟩
def LYZ_FLT_CNT_COUNT : Fld := ⟨Reg.LYZ_FLT_CNT, 0, 16⟩
def LYZ_CTX_QBASE_LO_BASE_LO (i : Nat) : Fld := ⟨Reg.LYZ_CTX_QBASE_LO i, 0, 32⟩
def LYZ_CTX_QBASE_HI_BASE_HI (i : Nat) : Fld := ⟨Reg.LYZ_CTX_QBASE_HI i, 0, 32⟩
def LYZ_CTX_EBASE_LO_BASE_LO (i : Nat) : Fld := ⟨Reg.LYZ_CTX_EBASE_LO i, 0, 32⟩
def LYZ_CTX_EBASE_HI_BASE_HI (i : Nat) : Fld := ⟨Reg.LYZ_CTX_EBASE_HI i, 0, 32⟩
def LYZ_CTX_QCFG_LOG2SIZE (i : Nat) : Fld := ⟨Reg.LYZ_CTX_QCFG i, 0, 4⟩
def LYZ_CTX_QCFG_HOSTMEM (i : Nat) : Fld := ⟨Reg.LYZ_CTX_QCFG i, 4, 1⟩
def LYZ_CTX_QCFG_NOSNOOP (i : Nat) : Fld := ⟨Reg.LYZ_CTX_QCFG i, 5, 1⟩
def LYZ_CTX_ECFG_LOG2SIZE (i : Nat) : Fld := ⟨Reg.LYZ_CTX_ECFG i, 0, 4⟩
def LYZ_CTX_ECFG_HOSTMEM (i : Nat) : Fld := ⟨Reg.LYZ_CTX_ECFG i, 4, 1⟩
def LYZ_CTX_ECFG_NOSNOOP (i : Nat) : Fld := ⟨Reg.LYZ_CTX_ECFG i, 5, 1⟩
def LYZ_CTX_QHEAD_INDEX (i : Nat) : Fld := ⟨Reg.LYZ_CTX_QHEAD i, 0, 12⟩
def LYZ_CTX_EHEAD_INDEX (i : Nat) : Fld := ⟨Reg.LYZ_CTX_EHEAD i, 0, 12⟩
def LYZ_CTX_QTAIL_INDEX (i : Nat) : Fld := ⟨Reg.LYZ_CTX_QTAIL i, 0, 12⟩
def LYZ_CTX_ETAIL_INDEX (i : Nat) : Fld := ⟨Reg.LYZ_CTX_ETAIL i, 0, 12⟩
def LYZ_CTX_STAT_STATE (i : Nat) : Fld := ⟨Reg.LYZ_CTX_STAT i, 0, 3⟩
def LYZ_CTX_STAT_TAG (i : Nat) : Fld := ⟨Reg.LYZ_CTX_STAT i, 8, 16⟩
def LYZ_CTX_STAT_FAULT (i : Nat) : Fld := ⟨Reg.LYZ_CTX_STAT i, 24, 8⟩
def LYZ_CTX_CMD_OP (i : Nat) : Fld := ⟨Reg.LYZ_CTX_CMD i, 0, 2⟩
def LYZ_CTX_EVDROP_COUNT (i : Nat) : Fld := ⟨Reg.LYZ_CTX_EVDROP i, 0, 16⟩
def MILL_CTRL_EN : Fld := ⟨Reg.MILL_CTRL, 0, 1⟩
def MILL_CTRL_UNIT_EN : Fld := ⟨Reg.MILL_CTRL, 1, 4⟩
def MILL_STAT_STATE : Fld := ⟨Reg.MILL_STAT, 0, 2⟩
def MILL_STAT_UNIT_BUSY : Fld := ⟨Reg.MILL_STAT, 2, 4⟩
def MILL_STAT_INFLIGHT : Fld := ⟨Reg.MILL_STAT, 6, 3⟩
def MILL_STAT_CAPTURES : Fld := ⟨Reg.MILL_STAT, 9, 2⟩
def MILL_STAT_HELD : Fld := ⟨Reg.MILL_STAT, 11, 1⟩
def MILL_EVT_DONE : Fld := ⟨Reg.MILL_EVT, 0, 1⟩
def MILL_EVT_HIT : Fld := ⟨Reg.MILL_EVT, 1, 1⟩
def MILL_EVT_DROP : Fld := ⟨Reg.MILL_EVT, 2, 1⟩
def MILL_EVT_CFG_ERR : Fld := ⟨Reg.MILL_EVT, 3, 1⟩
def MILL_EVT_SNAP : Fld := ⟨Reg.MILL_EVT, 4, 1⟩
def MILL_CELLS_COUNT : Fld := ⟨Reg.MILL_CELLS, 0, 32⟩
def MILL_PLAN_BASE_BASE : Fld := ⟨Reg.MILL_PLAN_BASE, 0, 32⟩
def MILL_HIT_BASE_BASE : Fld := ⟨Reg.MILL_HIT_BASE, 0, 32⟩
def MILL_PLAN_CFG_LOG2SIZE : Fld := ⟨Reg.MILL_PLAN_CFG, 0, 4⟩
def MILL_HIT_CFG_LOG2SIZE : Fld := ⟨Reg.MILL_HIT_CFG, 0, 4⟩
def MILL_PLAN_HEAD_INDEX : Fld := ⟨Reg.MILL_PLAN_HEAD, 0, 10⟩
def MILL_HIT_WR_INDEX : Fld := ⟨Reg.MILL_HIT_WR, 0, 10⟩
def MILL_PLAN_TAIL_INDEX : Fld := ⟨Reg.MILL_PLAN_TAIL, 0, 10⟩
def MILL_HIT_RD_INDEX : Fld := ⟨Reg.MILL_HIT_RD, 0, 10⟩
def MILL_HIT_DROP_COUNT : Fld := ⟨Reg.MILL_HIT_DROP, 0, 16⟩
def KYO_CTRL_STEP_ALLOW : Fld := ⟨Reg.KYO_CTRL, 0, 1⟩
def KYO_CTRL_STEP_BACK_ALLOW : Fld := ⟨Reg.KYO_CTRL, 1, 1⟩
def KYO_CTRL_SQUELCH : Fld := ⟨Reg.KYO_CTRL, 2, 1⟩
def KYO_STATE_STATE : Fld := ⟨Reg.KYO_STATE, 0, 3⟩
def KYO_STATE_SOL : Fld := ⟨Reg.KYO_STATE, 4, 3⟩
def KYO_STATE_SPLL_BYP : Fld := ⟨Reg.KYO_STATE, 7, 1⟩
def KYO_STATE_STEP_PEND : Fld := ⟨Reg.KYO_STATE, 8, 1⟩
def KYO_STATE_SUSPECT : Fld := ⟨Reg.KYO_STATE, 9, 1⟩
def KYO_STATE_SLEWING : Fld := ⟨Reg.KYO_STATE, 10, 1⟩
def KYO_CMD_OP : Fld := ⟨Reg.KYO_CMD, 0, 3⟩
def KYO_CMD_SOL : Fld := ⟨Reg.KYO_CMD, 4, 3⟩
def KYO_CMD_VALUE : Fld := ⟨Reg.KYO_CMD, 7, 1⟩
def KYO_EVT_HOLDOVER : Fld := ⟨Reg.KYO_EVT, 0, 1⟩
def KYO_EVT_BUDGET : Fld := ⟨Reg.KYO_EVT, 1, 1⟩
def KYO_EVT_STEPPED : Fld := ⟨Reg.KYO_EVT, 2, 1⟩
def KYO_EVT_STEP_REFUSED : Fld := ⟨Reg.KYO_EVT, 3, 1⟩
def KYO_EVT_STEP_CANCEL : Fld := ⟨Reg.KYO_EVT, 4, 1⟩
def KYO_EVT_MASTER_BACK : Fld := ⟨Reg.KYO_EVT, 5, 1⟩
def KYO_EVT_REBUILT : Fld := ⟨Reg.KYO_EVT, 6, 1⟩
def KYO_EVT_LOCKED : Fld := ⟨Reg.KYO_EVT, 7, 1⟩
def KYO_DT_NS_NS : Fld := ⟨Reg.KYO_DT_NS, 0, 30⟩
def KYO_DT_SEC_LO_SEC_LO : Fld := ⟨Reg.KYO_DT_SEC_LO, 0, 32⟩
def KYO_DT_SEC_HI_SEC_HI : Fld := ⟨Reg.KYO_DT_SEC_HI, 0, 16⟩
def KYO_DT_SEC_HI_FRAC : Fld := ⟨Reg.KYO_DT_SEC_HI, 16, 16⟩
def KYO_TS32_TS32 : Fld := ⟨Reg.KYO_TS32, 0, 32⟩
def KYO_MONO_LO_MONO : Fld := ⟨Reg.KYO_MONO_LO, 0, 32⟩
def KYO_MONO_HI_MONO : Fld := ⟨Reg.KYO_MONO_HI, 0, 32⟩
def KYO_ADDEND_LO_INT_LO : Fld := ⟨Reg.KYO_ADDEND_LO, 0, 32⟩
def KYO_ADDEND_HI_INT_HI : Fld := ⟨Reg.KYO_ADDEND_HI, 0, 4⟩
def KYO_ADDEND_HI_EXT : Fld := ⟨Reg.KYO_ADDEND_HI, 16, 16⟩
def KYO_SLEW_SLEW : Fld := ⟨Reg.KYO_SLEW, 0, 32⟩
def KYO_SLEW_REM_REM : Fld := ⟨Reg.KYO_SLEW_REM, 0, 32⟩
def KYO_SLEW_MAX_MAX : Fld := ⟨Reg.KYO_SLEW_MAX, 0, 16⟩
def KYO_STEP_THRESH_THRESH : Fld := ⟨Reg.KYO_STEP_THRESH, 0, 32⟩
def KYO_STEP_SEC_SEC : Fld := ⟨Reg.KYO_STEP_SEC, 0, 32⟩
def KYO_STEP_NS_NS : Fld := ⟨Reg.KYO_STEP_NS, 0, 32⟩
def KYO_HOLD_BUDGET_NS : Fld := ⟨Reg.KYO_HOLD_BUDGET, 0, 24⟩
def KYO_HOLD_A1_A1 : Fld := ⟨Reg.KYO_HOLD_A1, 0, 32⟩
def KYO_HOLD_A2_A2 : Fld := ⟨Reg.KYO_HOLD_A2, 0, 32⟩
def KYO_HOLD_E0_E0 : Fld := ⟨Reg.KYO_HOLD_E0, 0, 32⟩
def KYO_EST_ERR_EST_ERR : Fld := ⟨Reg.KYO_EST_ERR, 0, 32⟩
def KYO_HOLD_S_HOLD_S : Fld := ⟨Reg.KYO_HOLD_S, 0, 32⟩
def KYO_SRC_ERR_SRC_ERR : Fld := ⟨Reg.KYO_SRC_ERR, 0, 32⟩
def KYO_RTC_PPB_PPB : Fld := ⟨Reg.KYO_RTC_PPB, 0, 16⟩
def KYO_ISO_EST_OFFSET (i : Nat) : Fld := ⟨Reg.KYO_ISO_EST i, 0, 32⟩
def KYO_ISO_BC_OFFSET (i : Nat) : Fld := ⟨Reg.KYO_ISO_BC i, 0, 32⟩
def TP_CFG_EN (i : Nat) : Fld := ⟨Reg.TP_CFG i, 0, 1⟩
def TP_CFG_POL (i : Nat) : Fld := ⟨Reg.TP_CFG i, 1, 1⟩
def TP_PERIOD_PERIOD (i : Nat) : Fld := ⟨Reg.TP_PERIOD i, 0, 30⟩
def TP_OFFSET_OFFSET (i : Nat) : Fld := ⟨Reg.TP_OFFSET i, 0, 30⟩
def TP_WIDTH_WIDTH (i : Nat) : Fld := ⟨Reg.TP_WIDTH i, 0, 30⟩
def TP_COMP_COMP (i : Nat) : Fld := ⟨Reg.TP_COMP i, 0, 32⟩
def TP_STAT_QERR (i : Nat) : Fld := ⟨Reg.TP_STAT i, 0, 16⟩
def TP_STAT_CFG_ERR (i : Nat) : Fld := ⟨Reg.TP_STAT i, 16, 1⟩
def TP_STAT_SQUELCHED (i : Nat) : Fld := ⟨Reg.TP_STAT i, 17, 1⟩
def TP_STAT_ACTIVE (i : Nat) : Fld := ⟨Reg.TP_STAT i, 18, 1⟩
def TP_STAT_SKIP (i : Nat) : Fld := ⟨Reg.TP_STAT i, 24, 8⟩
def TP_LB_LB_ERR (i : Nat) : Fld := ⟨Reg.TP_LB i, 0, 16⟩
def TP_LB_MISM (i : Nat) : Fld := ⟨Reg.TP_LB i, 16, 8⟩
def TP_DOUT_D_OUT (i : Nat) : Fld := ⟨Reg.TP_DOUT i, 0, 16⟩
def TP_CAL_CMD_START : Fld := ⟨Reg.TP_CAL_CMD, 0, 1⟩
def TP_CAL_STAT_BUSY : Fld := ⟨Reg.TP_CAL_STAT, 0, 1⟩
def TP_CAL_STAT_DONE : Fld := ⟨Reg.TP_CAL_STAT, 1, 1⟩
def TP_CAL_STAT_FAIL : Fld := ⟨Reg.TP_CAL_STAT, 2, 1⟩
def TP_CAL_STAT_COUNT : Fld := ⟨Reg.TP_CAL_STAT, 16, 16⟩
def TP_LBCFG_TOL : Fld := ⟨Reg.TP_LBCFG, 0, 16⟩
def TP_LBCFG_LB_EN : Fld := ⟨Reg.TP_LBCFG, 16, 1⟩
def CAP_CFG_EN (i : Nat) : Fld := ⟨Reg.CAP_CFG i, 0, 1⟩
def CAP_CFG_EDGE (i : Nat) : Fld := ⟨Reg.CAP_CFG i, 1, 2⟩
def CAP_COMP_COMP (i : Nat) : Fld := ⟨Reg.CAP_COMP i, 0, 32⟩
def CAP_NS_NS (i : Nat) : Fld := ⟨Reg.CAP_NS i, 0, 30⟩
def CAP_NS_VALID (i : Nat) : Fld := ⟨Reg.CAP_NS i, 31, 1⟩
def CAP_SEC_LO_SEC_LO (i : Nat) : Fld := ⟨Reg.CAP_SEC_LO i, 0, 32⟩
def CAP_SEC_HI_SEC_HI (i : Nat) : Fld := ⟨Reg.CAP_SEC_HI i, 0, 16⟩
def CAP_SEC_HI_FRAC (i : Nat) : Fld := ⟨Reg.CAP_SEC_HI i, 16, 16⟩
def CAP_STAT_LEVEL (i : Nat) : Fld := ⟨Reg.CAP_STAT i, 0, 5⟩
def CAP_STAT_RISING (i : Nat) : Fld := ⟨Reg.CAP_STAT i, 5, 1⟩
def CAP_STAT_BYP (i : Nat) : Fld := ⟨Reg.CAP_STAT i, 6, 1⟩
def CAP_STAT_OVF (i : Nat) : Fld := ⟨Reg.CAP_STAT i, 16, 16⟩
def TRG_CFG_ARM (i : Nat) : Fld := ⟨Reg.TRG_CFG i, 0, 1⟩
def TRG_CFG_LATE (i : Nat) : Fld := ⟨Reg.TRG_CFG i, 1, 1⟩
def TRG_CFG_PIN (i : Nat) : Fld := ⟨Reg.TRG_CFG i, 2, 1⟩
def TRG_CFG_SNAP (i : Nat) : Fld := ⟨Reg.TRG_CFG i, 3, 1⟩
def TRG_CFG_DMA (i : Nat) : Fld := ⟨Reg.TRG_CFG i, 4, 1⟩
def TRG_CFG_CTX (i : Nat) : Fld := ⟨Reg.TRG_CFG i, 5, 1⟩
def TRG_CFG_WAKE (i : Nat) : Fld := ⟨Reg.TRG_CFG i, 6, 1⟩
def TRG_CFG_STREAM (i : Nat) : Fld := ⟨Reg.TRG_CFG i, 8, 5⟩
def TRG_CFG_DMACH (i : Nat) : Fld := ⟨Reg.TRG_CFG i, 13, 5⟩
def TRG_CFG_CONTEXT (i : Nat) : Fld := ⟨Reg.TRG_CFG i, 18, 3⟩
def TRG_CFG_PIN_W (i : Nat) : Fld := ⟨Reg.TRG_CFG i, 24, 8⟩
def TRG_AT_SEC_LO_SEC_LO (i : Nat) : Fld := ⟨Reg.TRG_AT_SEC_LO i, 0, 32⟩
def TRG_AT_SEC_HI_SEC_HI (i : Nat) : Fld := ⟨Reg.TRG_AT_SEC_HI i, 0, 16⟩
def TRG_AT_NS_NS (i : Nat) : Fld := ⟨Reg.TRG_AT_NS i, 0, 30⟩
def TRG_PERIOD_PERIOD (i : Nat) : Fld := ⟨Reg.TRG_PERIOD i, 0, 32⟩
def TRG_CTX_INDEX (i : Nat) : Fld := ⟨Reg.TRG_CTX i, 0, 17⟩
def TRG_WAKE_DOMAINS (i : Nat) : Fld := ⟨Reg.TRG_WAKE i, 0, 19⟩
def TRG_TAG_TAG (i : Nat) : Fld := ⟨Reg.TRG_TAG i, 0, 16⟩
def TRG_STAT_STATE (i : Nat) : Fld := ⟨Reg.TRG_STAT i, 0, 2⟩
def TRG_STAT_MISSED (i : Nat) : Fld := ⟨Reg.TRG_STAT i, 2, 1⟩
def TRG_STAT_LATE (i : Nat) : Fld := ⟨Reg.TRG_STAT i, 3, 1⟩
def TRG_STAT_STEPPED (i : Nat) : Fld := ⟨Reg.TRG_STAT i, 4, 1⟩
def TRG_STAT_REFUSED (i : Nat) : Fld := ⟨Reg.TRG_STAT i, 5, 1⟩
def TRG_STAT_SKIPPED (i : Nat) : Fld := ⟨Reg.TRG_STAT i, 16, 16⟩
def CAPTRG_EVT_CAP : Fld := ⟨Reg.CAPTRG_EVT, 0, 8⟩
def CAPTRG_EVT_TRG : Fld := ⟨Reg.CAPTRG_EVT, 8, 16⟩
def CAPTRG_EVT_CAP_OVF : Fld := ⟨Reg.CAPTRG_EVT, 24, 1⟩
def CAPTRG_EVT_TRG_MISSED : Fld := ⟨Reg.CAPTRG_EVT, 25, 1⟩
def NET_CTRL_EN : Fld := ⟨Reg.NET_CTRL, 0, 1⟩
def NET_CTRL_LEARN : Fld := ⟨Reg.NET_CTRL, 1, 1⟩
def NET_CTRL_AGE_S : Fld := ⟨Reg.NET_CTRL, 16, 16⟩
def NET_STAT_NOBUF : Fld := ⟨Reg.NET_STAT, 0, 16⟩
def NET_STAT_NOVLAN : Fld := ⟨Reg.NET_STAT, 16, 16⟩
def NET_VLAN_VID (i : Nat) : Fld := ⟨Reg.NET_VLAN i, 0, 12⟩
def NET_VLAN_MEMBER (i : Nat) : Fld := ⟨Reg.NET_VLAN i, 12, 5⟩
def NET_VLAN_UNTAG (i : Nat) : Fld := ⟨Reg.NET_VLAN i, 17, 5⟩
def NET_VLAN_VALID (i : Nat) : Fld := ⟨Reg.NET_VLAN i, 31, 1⟩
def NP_CFG_MODE (b : Nat) : Fld := ⟨Reg.NP_CFG b, 0, 3⟩
def NP_CFG_SPEED (b : Nat) : Fld := ⟨Reg.NP_CFG b, 3, 2⟩
def NP_CFG_PVID (b : Nat) : Fld := ⟨Reg.NP_CFG b, 16, 12⟩
def NP_STAT_LINK (b : Nat) : Fld := ⟨Reg.NP_STAT b, 0, 1⟩
def NP_STAT_S (b : Nat) : Fld := ⟨Reg.NP_STAT b, 1, 2⟩
def NP_STAT_CFG_ERR (b : Nat) : Fld := ⟨Reg.NP_STAT b, 3, 1⟩
def NP_LAT_TX_PS (b i : Nat) : Fld := ⟨Reg.NP_LAT_TX b i, 0, 24⟩
def NP_LAT_RX_PS (b i : Nat) : Fld := ⟨Reg.NP_LAT_RX b i, 0, 24⟩
def NP_LINKDLY_PS (b : Nat) : Fld := ⟨Reg.NP_LINKDLY b, 0, 32⟩
def NP3_CFG_MODE : Fld := ⟨Reg.NP3_CFG, 0, 3⟩
def NP3_CFG_SPEED : Fld := ⟨Reg.NP3_CFG, 3, 2⟩
def NP3_CFG_PVID : Fld := ⟨Reg.NP3_CFG, 16, 12⟩
def NP3_STAT_LINK : Fld := ⟨Reg.NP3_STAT, 0, 1⟩
def NP3_STAT_S : Fld := ⟨Reg.NP3_STAT, 1, 2⟩
def NP3_STAT_CFG_ERR : Fld := ⟨Reg.NP3_STAT, 3, 1⟩
def NP3_STAT_PLCA_OK : Fld := ⟨Reg.NP3_STAT, 4, 1⟩
def NP3_LAT_TX_PS (i : Nat) : Fld := ⟨Reg.NP3_LAT_TX i, 0, 24⟩
def NP3_LAT_RX_PS (i : Nat) : Fld := ⟨Reg.NP3_LAT_RX i, 0, 24⟩
def NP3_LINKDLY_PS : Fld := ⟨Reg.NP3_LINKDLY, 0, 32⟩
def NP3_PLCA_NODE_ID : Fld := ⟨Reg.NP3_PLCA, 0, 8⟩
def NP3_PLCA_NODE_CNT : Fld := ⟨Reg.NP3_PLCA, 8, 8⟩
def NP3_PLCA_TO_TIMER : Fld := ⟨Reg.NP3_PLCA, 16, 8⟩
def NP3_WAKE_CFG_EN : Fld := ⟨Reg.NP3_WAKE_CFG, 0, 1⟩
def NP3_WAKE_CFG_DA_EN : Fld := ⟨Reg.NP3_WAKE_CFG, 1, 1⟩
def NP3_WAKE_CFG_ETYPE_EN : Fld := ⟨Reg.NP3_WAKE_CFG, 2, 1⟩
def NP3_WAKE_CFG_PAT_EN : Fld := ⟨Reg.NP3_WAKE_CFG, 3, 4⟩
def NP3_WAKE_CFG_ETYPE : Fld := ⟨Reg.NP3_WAKE_CFG, 16, 16⟩
def NP3_WAKE_DA_LO_DA_LO : Fld := ⟨Reg.NP3_WAKE_DA_LO, 0, 32⟩
def NP3_WAKE_DA_HI_DA_HI : Fld := ⟨Reg.NP3_WAKE_DA_HI, 0, 16⟩
def NP3_WAKE_DOM_DOMAINS : Fld := ⟨Reg.NP3_WAKE_DOM, 0, 19⟩
def NP3_WAKE_PAT_OFS_OFS (i : Nat) : Fld := ⟨Reg.NP3_WAKE_PAT_OFS i, 0, 7⟩
def NP3_WAKE_PAT_VAL_VAL (i : Nat) : Fld := ⟨Reg.NP3_WAKE_PAT_VAL i, 0, 32⟩
def NP3_WAKE_PAT_MASK_MASK (i : Nat) : Fld := ⟨Reg.NP3_WAKE_PAT_MASK i, 0, 32⟩
def NP3_WAKE_STAT_HELD : Fld := ⟨Reg.NP3_WAKE_STAT, 0, 1⟩
def NP3_WAKE_STAT_LOST : Fld := ⟨Reg.NP3_WAKE_STAT, 8, 8⟩
def NP3_WAKE_STAT_DROPPED : Fld := ⟨Reg.NP3_WAKE_STAT, 16, 16⟩
def PTPA_CTRL_EN : Fld := ⟨Reg.PTPA_CTRL, 0, 1⟩
def PTPA_CTRL_TC_EN : Fld := ⟨Reg.PTPA_CTRL, 1, 1⟩
def PTPA_CTRL_TC_P2P : Fld := ⟨Reg.PTPA_CTRL, 2, 1⟩
def PTPA_CTRL_TC_PORTS : Fld := ⟨Reg.PTPA_CTRL, 4, 4⟩
def PTPA_TC_DOM_DOM0 : Fld := ⟨Reg.PTPA_TC_DOM, 0, 8⟩
def PTPA_TC_DOM_DOM1 : Fld := ⟨Reg.PTPA_TC_DOM, 8, 8⟩
def PTPA_TC_DOM_DOM2 : Fld := ⟨Reg.PTPA_TC_DOM, 16, 8⟩
def PTPA_TC_DOM_DOM3 : Fld := ⟨Reg.PTPA_TC_DOM, 24, 8⟩
def PTPA_NTP_OFS_OFS : Fld := ⟨Reg.PTPA_NTP_OFS, 0, 32⟩
def PTPA_TXTS_INFO_SEQ_ID : Fld := ⟨Reg.PTPA_TXTS_INFO, 0, 16⟩
def PTPA_TXTS_INFO_PORT : Fld := ⟨Reg.PTPA_TXTS_INFO, 16, 3⟩
def PTPA_TXTS_INFO_MSGTYPE : Fld := ⟨Reg.PTPA_TXTS_INFO, 20, 4⟩
def PTPA_TXTS_INFO_VALID : Fld := ⟨Reg.PTPA_TXTS_INFO, 31, 1⟩
def PTPA_TXTS_NS_NS : Fld := ⟨Reg.PTPA_TXTS_NS, 0, 30⟩
def PTPA_TXTS_SEC_LO_SEC_LO : Fld := ⟨Reg.PTPA_TXTS_SEC_LO, 0, 32⟩
def PTPA_TXTS_SEC_HI_SEC_HI : Fld := ⟨Reg.PTPA_TXTS_SEC_HI, 0, 16⟩
def PTPA_TXTS_SEC_HI_FRAC : Fld := ⟨Reg.PTPA_TXTS_SEC_HI, 16, 16⟩
def PTPA_EVT_TXTS_OVF : Fld := ⟨Reg.PTPA_EVT, 0, 1⟩
def PTPA_EVT_CF_SAT : Fld := ⟨Reg.PTPA_EVT, 1, 1⟩
def PTPA_EVT_UC_REFUSED : Fld := ⟨Reg.PTPA_EVT, 2, 1⟩
def PTPA_NTP_SERVED_COUNT : Fld := ⟨Reg.PTPA_NTP_SERVED, 0, 32⟩
def PTPA_NTP_DROP_COUNT : Fld := ⟨Reg.PTPA_NTP_DROP, 0, 32⟩
def PWR_VOTE_DOMAINS : Fld := ⟨Reg.PWR_VOTE, 0, 19⟩
def PWR_VOTE_OP : Fld := ⟨Reg.PWR_VOTE, 30, 2⟩
def PWR_VOTE_RES_NO_CLIENT : Fld := ⟨Reg.PWR_VOTE_RES, 0, 1⟩
def PWR_CTRL_POD_HOLD : Fld := ⟨Reg.PWR_CTRL, 0, 1⟩
def PWR_CTRL_MILL_HOLD : Fld := ⟨Reg.PWR_CTRL, 1, 1⟩
def PWR_CTRL_DRAIN_MAX : Fld := ⟨Reg.PWR_CTRL, 8, 8⟩
def PWR_RET_BANKS : Fld := ⟨Reg.PWR_RET, 0, 8⟩
def PWR_WAKE_CFG_PIN : Fld := ⟨Reg.PWR_WAKE_CFG, 0, 1⟩
def PWR_WAKE_CFG_RTC : Fld := ⟨Reg.PWR_WAKE_CFG, 1, 1⟩
def PWR_WAKE_CFG_HOST : Fld := ⟨Reg.PWR_WAKE_CFG, 2, 1⟩
def PWR_EVT_DRAIN_TIMEOUT : Fld := ⟨Reg.PWR_EVT, 0, 1⟩
def PWR_EVT_NO_CLIENT : Fld := ⟨Reg.PWR_EVT, 1, 1⟩
def PWR_EVT_WAKE : Fld := ⟨Reg.PWR_EVT, 2, 1⟩
def PWR_WAKE_DOM_DOMAINS (i : Nat) : Fld := ⟨Reg.PWR_WAKE_DOM i, 0, 19⟩
def PWR_WAKE_HOLD_DOMAINS : Fld := ⟨Reg.PWR_WAKE_HOLD, 0, 19⟩
def PWR_WAKESTAT_CAUSE : Fld := ⟨Reg.PWR_WAKESTAT, 0, 3⟩
def PWR_WAKESTAT_RESUMED : Fld := ⟨Reg.PWR_WAKESTAT, 3, 1⟩
def PWR_DOM_VOTE_VOTES (i : Nat) : Fld := ⟨Reg.PWR_DOM_VOTE i, 0, 32⟩
def PWR_DOM_STAT_STATE (i : Nat) : Fld := ⟨Reg.PWR_DOM_STAT i, 0, 2⟩
def PWR_DOM_STAT_IMPLIED (i : Nat) : Fld := ⟨Reg.PWR_DOM_STAT i, 2, 1⟩
def PWR_DOM_STAT_FORCED (i : Nat) : Fld := ⟨Reg.PWR_DOM_STAT i, 3, 1⟩
def PWR_DOM_STAT_DRAIN_TO (i : Nat) : Fld := ⟨Reg.PWR_DOM_STAT i, 4, 1⟩
def PRF_CTRL_EN : Fld := ⟨Reg.PRF_CTRL, 0, 1⟩
def PRF_CTRL_MILL_PRIO : Fld := ⟨Reg.PRF_CTRL, 1, 2⟩
def PRF_CTRL_PACK_EN : Fld := ⟨Reg.PRF_CTRL, 3, 1⟩
def PRF_CAP_MW : Fld := ⟨Reg.PRF_CAP, 0, 13⟩
def PRF_BASE_MW : Fld := ⟨Reg.PRF_BASE, 0, 13⟩
def PRF_TEMP_T_SOFT : Fld := ⟨Reg.PRF_TEMP, 0, 8⟩
def PRF_TEMP_T_HARD : Fld := ⟨Reg.PRF_TEMP, 8, 8⟩
def PRF_TEMP_T_CRIT : Fld := ⟨Reg.PRF_TEMP, 16, 8⟩
def PRF_TEMP_DERATE_MIN : Fld := ⟨Reg.PRF_TEMP, 24, 8⟩
def PRF_ELANE_FJ : Fld := ⟨Reg.PRF_ELANE, 0, 24⟩
def PRF_ESEQ_FJ : Fld := ⟨Reg.PRF_ESEQ, 0, 24⟩
def PRF_EMILL_FJ : Fld := ⟨Reg.PRF_EMILL, 0, 24⟩
def PRF_POD_UTIL_MAX : Fld := ⟨Reg.PRF_POD, 0, 8⟩
def PRF_POD_PACK_LO : Fld := ⟨Reg.PRF_POD, 8, 8⟩
def PRF_POD_PACK_HI : Fld := ⟨Reg.PRF_POD, 16, 8⟩
def PRF_PACK_PERIOD_MS : Fld := ⟨Reg.PRF_PACK, 0, 16⟩
def PRF_QUIET_GAP_MS : Fld := ⟨Reg.PRF_QUIET, 0, 8⟩
def PRF_QUIET_MAX_S : Fld := ⟨Reg.PRF_QUIET, 8, 8⟩
def PRF_STAT_TEMP : Fld := ⟨Reg.PRF_STAT, 0, 8⟩
def PRF_STAT_FACTOR : Fld := ⟨Reg.PRF_STAT, 8, 8⟩
def PRF_STAT_PODS_VOTED : Fld := ⟨Reg.PRF_STAT, 16, 6⟩
def PRF_STAT_P0_OVER : Fld := ⟨Reg.PRF_STAT, 22, 1⟩
def PRF_STAT_BASE_OVER : Fld := ⟨Reg.PRF_STAT, 23, 1⟩
def PRF_STAT_CRIT : Fld := ⟨Reg.PRF_STAT, 24, 1⟩
def PRF_STAT_MILL_HELD : Fld := ⟨Reg.PRF_STAT, 25, 1⟩
def PRF_RATION_NJ : Fld := ⟨Reg.PRF_RATION, 0, 24⟩
def PRF_USED_NJ : Fld := ⟨Reg.PRF_USED, 0, 24⟩
def PRF_DEFER_LAST : Fld := ⟨Reg.PRF_DEFER, 0, 16⟩
def PRF_DEFER_TOTAL : Fld := ⟨Reg.PRF_DEFER, 16, 16⟩
def PRF_EVT_P0_OVER : Fld := ⟨Reg.PRF_EVT, 0, 1⟩
def PRF_EVT_CRIT : Fld := ⟨Reg.PRF_EVT, 1, 1⟩
def PRF_EVT_PACK : Fld := ⟨Reg.PRF_EVT, 2, 1⟩
def PRF_EVT_QUIET_GRANT : Fld := ⟨Reg.PRF_EVT, 3, 1⟩
def PRF_EVT_QUIET_FORCED : Fld := ⟨Reg.PRF_EVT, 4, 1⟩
def PRF_EVT_BASE_OVER : Fld := ⟨Reg.PRF_EVT, 5, 1⟩
def RTC_SEC_LO_SEC_LO : Fld := ⟨Reg.RTC_SEC_LO, 0, 32⟩
def RTC_STG_SEC_LO_SEC_LO : Fld := ⟨Reg.RTC_STG_SEC_LO, 0, 32⟩
def RTC_SEC_HI_SEC_HI : Fld := ⟨Reg.RTC_SEC_HI, 0, 16⟩
def RTC_STG_SEC_HI_SEC_HI : Fld := ⟨Reg.RTC_STG_SEC_HI, 0, 16⟩
def RTC_FRAC_FRAC : Fld := ⟨Reg.RTC_FRAC, 0, 32⟩
def RTC_STG_FRAC_FRAC : Fld := ⟨Reg.RTC_STG_FRAC, 0, 32⟩
def RTC_CMD_APPLY : Fld := ⟨Reg.RTC_CMD, 0, 1⟩
def RTC_CMD_ALIGN : Fld := ⟨Reg.RTC_CMD, 1, 1⟩
def RTC_CMD_SNAP : Fld := ⟨Reg.RTC_CMD, 2, 1⟩
def RTC_STAT_SET : Fld := ⟨Reg.RTC_STAT, 0, 1⟩
def RTC_STAT_PENDING : Fld := ⟨Reg.RTC_STAT, 1, 1⟩
def RTC_STAT_OSC_FAIL : Fld := ⟨Reg.RTC_STAT, 2, 1⟩
def RTC_STAT_VBAT_LOST : Fld := ⟨Reg.RTC_STAT, 3, 1⟩
def RTC_STAT_SNAP_BUSY : Fld := ⟨Reg.RTC_STAT, 4, 1⟩
def RTC_TRIM_N : Fld := ⟨Reg.RTC_TRIM, 0, 16⟩
def RTC_TRIM_W : Fld := ⟨Reg.RTC_TRIM, 16, 5⟩
def RTC_TRIM_DIR : Fld := ⟨Reg.RTC_TRIM, 21, 1⟩
def RTC_EVT_ALARM : Fld := ⟨Reg.RTC_EVT, 0, 1⟩
def RTC_EVT_ALARM_LATE : Fld := ⟨Reg.RTC_EVT, 1, 1⟩
def RTC_EVT_APPLIED : Fld := ⟨Reg.RTC_EVT, 2, 1⟩
def RTC_EVT_ALIGN_FAIL : Fld := ⟨Reg.RTC_EVT, 3, 1⟩
def RTC_EVT_OSC_FAIL : Fld := ⟨Reg.RTC_EVT, 4, 1⟩
def RTC_EVT_SNAP_DONE : Fld := ⟨Reg.RTC_EVT, 5, 1⟩
def RTC_ALARM_LO_SEC_LO : Fld := ⟨Reg.RTC_ALARM_LO, 0, 32⟩
def RTC_ALARM_HI_SEC_HI : Fld := ⟨Reg.RTC_ALARM_HI, 0, 16⟩
def RTC_ALARM_HI_ARM : Fld := ⟨Reg.RTC_ALARM_HI, 31, 1⟩
def RTC_SNAP_SEC_LO_SEC_LO : Fld := ⟨Reg.RTC_SNAP_SEC_LO, 0, 32⟩
def RTC_SNAP_SEC_HI_SEC_HI : Fld := ⟨Reg.RTC_SNAP_SEC_HI, 0, 16⟩
def RTC_SNAP_FRAC_FRAC : Fld := ⟨Reg.RTC_SNAP_FRAC, 0, 32⟩
def RTC_SNAP_DT_NS_DT_NS : Fld := ⟨Reg.RTC_SNAP_DT_NS, 0, 30⟩
def RTC_SNAP_DT_SEC_LO_DT_SEC_LO : Fld := ⟨Reg.RTC_SNAP_DT_SEC_LO, 0, 32⟩
def RTC_SNAP_DT_SEC_HI_DT_SEC_HI : Fld := ⟨Reg.RTC_SNAP_DT_SEC_HI, 0, 16⟩
def RTC_SNAP_DT_SEC_HI_DT_VALID : Fld := ⟨Reg.RTC_SNAP_DT_SEC_HI, 31, 1⟩
def CAL_CMD_OP : Fld := ⟨Reg.CAL_CMD, 0, 2⟩
def CAL_BCT_LO_BCT_LO : Fld := ⟨Reg.CAL_BCT_LO, 0, 32⟩
def CAL_BCT_HI_BCT_HI : Fld := ⟨Reg.CAL_BCT_HI, 0, 16⟩
def CAL_DATE_DAY : Fld := ⟨Reg.CAL_DATE, 0, 5⟩
def CAL_DATE_MONTH : Fld := ⟨Reg.CAL_DATE, 8, 4⟩
def CAL_DATE_YEAR : Fld := ⟨Reg.CAL_DATE, 16, 12⟩
def CAL_TIME_SEC : Fld := ⟨Reg.CAL_TIME, 0, 6⟩
def CAL_TIME_MIN : Fld := ⟨Reg.CAL_TIME, 8, 6⟩
def CAL_TIME_HOUR : Fld := ⟨Reg.CAL_TIME, 16, 5⟩
def CAL_TIME_DOW : Fld := ⟨Reg.CAL_TIME, 24, 3⟩
def CAL_INFO_YDAY : Fld := ⟨Reg.CAL_INFO, 0, 9⟩
def CAL_INFO_DAT : Fld := ⟨Reg.CAL_INFO, 16, 8⟩
def CAL_INFO_LEAP : Fld := ⟨Reg.CAL_INFO, 24, 1⟩
def CAL_STATUS_BUSY : Fld := ⟨Reg.CAL_STATUS, 0, 1⟩
def CAL_STATUS_DONE : Fld := ⟨Reg.CAL_STATUS, 1, 1⟩
def CAL_STATUS_INVALID : Fld := ⟨Reg.CAL_STATUS, 2, 1⟩
def CAL_STATUS_REASON : Fld := ⟨Reg.CAL_STATUS, 4, 4⟩
def LEDGER_STAT_ACTIVE : Fld := ⟨Reg.LEDGER_STAT, 0, 1⟩
def LEDGER_STAT_PENDING : Fld := ⟨Reg.LEDGER_STAT, 1, 1⟩
def LEDGER_STAT_BUSY : Fld := ⟨Reg.LEDGER_STAT, 2, 1⟩
def LEDGER_STAT_ERR : Fld := ⟨Reg.LEDGER_STAT, 3, 1⟩
def LEDGER_SEQ_SEQ : Fld := ⟨Reg.LEDGER_SEQ, 0, 32⟩
def LEDGER_LAST_LAST : Fld := ⟨Reg.LEDGER_LAST, 0, 32⟩
def LEDGER_SUB_D_D (i : Nat) : Fld := ⟨Reg.LEDGER_SUB_D i, 0, 32⟩
def LEDGER_SUB_CMD_TYPE : Fld := ⟨Reg.LEDGER_SUB_CMD, 0, 4⟩
def LEDGER_SUB_RES_RESULT : Fld := ⟨Reg.LEDGER_SUB_RES, 0, 2⟩
def OCQ_STAT_RUN : Fld := ⟨Reg.OCQ_STAT, 0, 1⟩
def OCQ_STAT_SAFE : Fld := ⟨Reg.OCQ_STAT, 1, 1⟩
def OCQ_STAT_FATAL : Fld := ⟨Reg.OCQ_STAT, 2, 1⟩
def OCQ_STAT_HOLD : Fld := ⟨Reg.OCQ_STAT, 3, 1⟩
def OCQ_STAT_EXIT_RES : Fld := ⟨Reg.OCQ_STAT, 4, 2⟩
def OCQ_STAT_CAUSE : Fld := ⟨Reg.OCQ_STAT, 8, 8⟩
def OCQ_STAT_ENTRIES : Fld := ⟨Reg.OCQ_STAT, 16, 16⟩
def OCQ_SAFE_REQ_OP : Fld := ⟨Reg.OCQ_SAFE_REQ, 0, 2⟩
def OCQ_SAFE_REQ_KEY : Fld := ⟨Reg.OCQ_SAFE_REQ, 16, 16⟩
def OCQ_SAFE_CFG_HOLD_S : Fld := ⟨Reg.OCQ_SAFE_CFG, 0, 8⟩
def OCQ_SAFE_CFG_AUTO_EXIT : Fld := ⟨Reg.OCQ_SAFE_CFG, 8, 1⟩
def OCQ_HB_COUNT : Fld := ⟨Reg.OCQ_HB, 0, 32⟩
def OCQ_HBCFG_PERIOD_MS : Fld := ⟨Reg.OCQ_HBCFG, 0, 8⟩
def OCQ_HBCFG_MISS : Fld := ⟨Reg.OCQ_HBCFG, 8, 4⟩
def OCQ_STEST_CMD_START : Fld := ⟨Reg.OCQ_STEST_CMD, 0, 1⟩
def OCQ_STEST_STAT_BUSY : Fld := ⟨Reg.OCQ_STEST_STAT, 0, 1⟩
def OCQ_STEST_STAT_PASS : Fld := ⟨Reg.OCQ_STEST_STAT, 1, 1⟩
def OCQ_STEST_STAT_FAIL : Fld := ⟨Reg.OCQ_STEST_STAT, 2, 1⟩
def OCQ_STEST_STAT_FAIL_SRC : Fld := ⟨Reg.OCQ_STEST_STAT, 8, 8⟩
def OCQ_STEST_STAT_RUNS : Fld := ⟨Reg.OCQ_STEST_STAT, 16, 16⟩
def OCQ_STEST_CFG_PERIOD_MIN : Fld := ⟨Reg.OCQ_STEST_CFG, 0, 8⟩
def FLT_STAT_ACTIVE (i : Nat) : Fld := ⟨Reg.FLT_STAT i, 0, 32⟩
def FLT_LATCH_LATCH (i : Nat) : Fld := ⟨Reg.FLT_LATCH i, 0, 32⟩
def FLT_CLASS_CLASS (i : Nat) : Fld := ⟨Reg.FLT_CLASS i, 0, 32⟩
def FLT_CTRL_LOCK : Fld := ⟨Reg.FLT_CTRL, 0, 1⟩
def FLT_CTRL_ERRN_MODE : Fld := ⟨Reg.FLT_CTRL, 1, 1⟩
def FLT_CTRL_ERRN_B : Fld := ⟨Reg.FLT_CTRL, 2, 1⟩
def FLT_CTRL_ERRN_LEVEL : Fld := ⟨Reg.FLT_CTRL, 8, 1⟩
def FLT_CTRL_TOGGLING : Fld := ⟨Reg.FLT_CTRL, 9, 1⟩
def FLT_FIRST_SRC : Fld := ⟨Reg.FLT_FIRST, 0, 8⟩
def FLT_FIRST_CLASS : Fld := ⟨Reg.FLT_FIRST, 8, 2⟩
def FLT_FIRST_VALID : Fld := ⟨Reg.FLT_FIRST, 31, 1⟩
def FLT_CNT_SEL_SRC : Fld := ⟨Reg.FLT_CNT_SEL, 0, 8⟩
def FLT_CNT_COUNT : Fld := ⟨Reg.FLT_CNT, 0, 16⟩
def FLT_SWRAISE_SRC : Fld := ⟨Reg.FLT_SWRAISE, 0, 8⟩
def FLT_SWRAISE_RAISE : Fld := ⟨Reg.FLT_SWRAISE, 8, 1⟩
def FLT_INJECT_SRC : Fld := ⟨Reg.FLT_INJECT, 0, 8⟩
def FLT_INJECT_GO : Fld := ⟨Reg.FLT_INJECT, 8, 1⟩
def CRUMB_CFG_HOLD_MS : Fld := ⟨Reg.CRUMB_CFG, 0, 8⟩
def CRUMB_SEQ_SEQ : Fld := ⟨Reg.CRUMB_SEQ, 0, 32⟩
def CRUMB_STAT_LEVEL : Fld := ⟨Reg.CRUMB_STAT, 0, 6⟩
def CRUMB_STAT_BUSY : Fld := ⟨Reg.CRUMB_STAT, 6, 1⟩
def CRUMB_STAT_SCAN : Fld := ⟨Reg.CRUMB_STAT, 7, 1⟩
def CRUMB_STAT_EMPTY : Fld := ⟨Reg.CRUMB_STAT, 8, 1⟩
def CRUMB_STAT_PF : Fld := ⟨Reg.CRUMB_STAT, 9, 1⟩
def CRUMB_LOST_LOST : Fld := ⟨Reg.CRUMB_LOST, 0, 32⟩
def CRUMB_SW_D_DATA (i : Nat) : Fld := ⟨Reg.CRUMB_SW_D i, 0, 32⟩
def CRUMB_SW_CMD_TYPE : Fld := ⟨Reg.CRUMB_SW_CMD, 0, 8⟩
def CRUMB_SW_RES_RESULT : Fld := ⟨Reg.CRUMB_SW_RES, 0, 2⟩
def DMA_CTRL_HOST_EN : Fld := ⟨Reg.DMA_CTRL, 1, 1⟩
def DMA_STAT_HALT_BUSERR : Fld := ⟨Reg.DMA_STAT, 0, 1⟩
def DMA_STAT_RD_OUT : Fld := ⟨Reg.DMA_STAT, 8, 5⟩
def DMA_STAT_SLOTS : Fld := ⟨Reg.DMA_STAT, 16, 9⟩
def DMA_ERR_ADDR_LO_ADDR : Fld := ⟨Reg.DMA_ERR_ADDR_LO, 0, 32⟩
def DMA_ERR_ADDR_HI_ADDR : Fld := ⟨Reg.DMA_ERR_ADDR_HI, 0, 32⟩
def DMA_ERR_INFO_WRITE : Fld := ⟨Reg.DMA_ERR_INFO, 0, 1⟩
def DMA_ERR_INFO_PCIE : Fld := ⟨Reg.DMA_ERR_INFO, 1, 1⟩
def DMA_ERR_INFO_FETCH : Fld := ⟨Reg.DMA_ERR_INFO, 2, 1⟩
def DMA_ERR_INFO_CHAN_VALID : Fld := ⟨Reg.DMA_ERR_INFO, 3, 1⟩
def DMA_ERR_INFO_CHAN : Fld := ⟨Reg.DMA_ERR_INFO, 4, 5⟩
def DMA_ERR_INFO_COUNT : Fld := ⟨Reg.DMA_ERR_INFO, 16, 16⟩
def DMA_IRQ_CH : Fld := ⟨Reg.DMA_IRQ, 0, 24⟩
def DMA_IRQ_ERR_CH : Fld := ⟨Reg.DMA_IRQ_ERR, 0, 24⟩
def DMA_IEN_CH : Fld := ⟨Reg.DMA_IEN, 0, 24⟩
def DMA_DOORBELL_PCH : Fld := ⟨Reg.DMA_DOORBELL, 0, 8⟩
def DMA_RGN_BASE_BASE (i : Nat) : Fld := ⟨Reg.DMA_RGN_BASE i, 12, 20⟩
def DMA_RGN_LIMIT_LIMIT (i : Nat) : Fld := ⟨Reg.DMA_RGN_LIMIT i, 12, 20⟩
def DMA_RGN_ATTR_PERM (i : Nat) : Fld := ⟨Reg.DMA_RGN_ATTR i, 0, 4⟩
def DMA_RGN_ATTR_VALID (i : Nat) : Fld := ⟨Reg.DMA_RGN_ATTR i, 31, 1⟩
def DMA_PACE_CFG_SEL (i : Nat) : Fld := ⟨Reg.DMA_PACE_CFG i, 0, 4⟩
def DMA_PACE_CFG_LO (i : Nat) : Fld := ⟨Reg.DMA_PACE_CFG i, 8, 12⟩
def DMA_PACE_CFG_HI (i : Nat) : Fld := ⟨Reg.DMA_PACE_CFG i, 20, 12⟩
def DMA_PACE_LEVEL_LEVEL (i : Nat) : Fld := ⟨Reg.DMA_PACE_LEVEL i, 0, 24⟩
def DMA_PACE_LEVEL_READY (i : Nat) : Fld := ⟨Reg.DMA_PACE_LEVEL i, 31, 1⟩
def DMA_PACE_ADD_ADD (i : Nat) : Fld := ⟨Reg.DMA_PACE_ADD i, 0, 24⟩
def DMA_BCH_CFG_SIZE (i : Nat) : Fld := ⟨Reg.DMA_BCH_CFG i, 0, 2⟩
def DMA_BCH_CFG_SWAP (i : Nat) : Fld := ⟨Reg.DMA_BCH_CFG i, 2, 2⟩
def DMA_BCH_CFG_SRC_FIX (i : Nat) : Fld := ⟨Reg.DMA_BCH_CFG i, 4, 1⟩
def DMA_BCH_CFG_DST_FIX (i : Nat) : Fld := ⟨Reg.DMA_BCH_CFG i, 5, 1⟩
def DMA_BCH_CFG_SRC_PCIE (i : Nat) : Fld := ⟨Reg.DMA_BCH_CFG i, 6, 1⟩
def DMA_BCH_CFG_DST_PCIE (i : Nat) : Fld := ⟨Reg.DMA_BCH_CFG i, 7, 1⟩
def DMA_BCH_CFG_NOSNOOP (i : Nat) : Fld := ⟨Reg.DMA_BCH_CFG i, 8, 1⟩
def DMA_BCH_CFG_PACE_EN (i : Nat) : Fld := ⟨Reg.DMA_BCH_CFG i, 9, 1⟩
def DMA_BCH_CFG_PACE_SRC (i : Nat) : Fld := ⟨Reg.DMA_BCH_CFG i, 10, 4⟩
def DMA_BCH_CFG_PRIO (i : Nat) : Fld := ⟨Reg.DMA_BCH_CFG i, 14, 1⟩
def DMA_BCH_SRC_LO_ADDR (i : Nat) : Fld := ⟨Reg.DMA_BCH_SRC_LO i, 0, 32⟩
def DMA_BCH_CUR_SRC_LO_ADDR (i : Nat) : Fld := ⟨Reg.DMA_BCH_CUR_SRC_LO i, 0, 32⟩
def DMA_BCH_SRC_HI_ADDR (i : Nat) : Fld := ⟨Reg.DMA_BCH_SRC_HI i, 0, 32⟩
def DMA_BCH_CUR_SRC_HI_ADDR (i : Nat) : Fld := ⟨Reg.DMA_BCH_CUR_SRC_HI i, 0, 32⟩
def DMA_BCH_DST_LO_ADDR (i : Nat) : Fld := ⟨Reg.DMA_BCH_DST_LO i, 0, 32⟩
def DMA_BCH_CUR_DST_LO_ADDR (i : Nat) : Fld := ⟨Reg.DMA_BCH_CUR_DST_LO i, 0, 32⟩
def DMA_BCH_DST_HI_ADDR (i : Nat) : Fld := ⟨Reg.DMA_BCH_DST_HI i, 0, 32⟩
def DMA_BCH_CUR_DST_HI_ADDR (i : Nat) : Fld := ⟨Reg.DMA_BCH_CUR_DST_HI i, 0, 32⟩
def DMA_BCH_COUNT_COUNT (i : Nat) : Fld := ⟨Reg.DMA_BCH_COUNT i, 0, 24⟩
def DMA_BCH_CUR_COUNT_COUNT (i : Nat) : Fld := ⟨Reg.DMA_BCH_CUR_COUNT i, 0, 24⟩
def DMA_BCH_CMD_OP (i : Nat) : Fld := ⟨Reg.DMA_BCH_CMD i, 0, 4⟩
def DMA_BCH_STAT_STATE (i : Nat) : Fld := ⟨Reg.DMA_BCH_STAT i, 0, 3⟩
def DMA_BCH_STAT_ERR (i : Nat) : Fld := ⟨Reg.DMA_BCH_STAT i, 4, 4⟩
def DMA_BCH_STAT_START_IGN (i : Nat) : Fld := ⟨Reg.DMA_BCH_STAT i, 8, 1⟩
def DMA_BCH_STAT_OWNER (i : Nat) : Fld := ⟨Reg.DMA_BCH_STAT i, 16, 6⟩
def DMA_PCH_PC_PC (i : Nat) : Fld := ⟨Reg.DMA_PCH_PC i, 2, 30⟩
def DMA_PCH_KBASE_KBASE (i : Nat) : Fld := ⟨Reg.DMA_PCH_KBASE i, 9, 23⟩
def DMA_PCH_CFG_PACE_EN (i : Nat) : Fld := ⟨Reg.DMA_PCH_CFG i, 0, 1⟩
def DMA_PCH_CFG_PACE_SRC (i : Nat) : Fld := ⟨Reg.DMA_PCH_CFG i, 1, 4⟩
def DMA_PCH_CFG_PRIO (i : Nat) : Fld := ⟨Reg.DMA_PCH_CFG i, 5, 1⟩
def DMA_PCH_CMD_OP (i : Nat) : Fld := ⟨Reg.DMA_PCH_CMD i, 0, 4⟩
def DMA_PCH_STAT_STATE (i : Nat) : Fld := ⟨Reg.DMA_PCH_STAT i, 0, 4⟩
def DMA_PCH_STAT_ERR (i : Nat) : Fld := ⟨Reg.DMA_PCH_STAT i, 4, 4⟩
def DMA_PCH_STAT_FAULT (i : Nat) : Fld := ⟨Reg.DMA_PCH_STAT i, 8, 8⟩
def DMA_PCH_STAT_DB_PEND (i : Nat) : Fld := ⟨Reg.DMA_PCH_STAT i, 16, 1⟩
def DMA_PCH_STAT_START_IGN (i : Nat) : Fld := ⟨Reg.DMA_PCH_STAT i, 17, 1⟩
def DMA_PCH_CUR_PC_CUR_PC (i : Nat) : Fld := ⟨Reg.DMA_PCH_CUR_PC i, 2, 30⟩
def SVC_STAT_LOCKED : Fld := ⟨Reg.SVC_STAT, 0, 1⟩
def SVC_STAT_HOLDER : Fld := ⟨Reg.SVC_STAT, 1, 2⟩
def SVC_STAT_BAUD : Fld := ⟨Reg.SVC_STAT, 4, 4⟩
def SVC_STAT_IDLE_S : Fld := ⟨Reg.SVC_STAT, 8, 8⟩
def SVC_CNT_FRAMES : Fld := ⟨Reg.SVC_CNT, 0, 16⟩
def SVC_CNT_DROPPED : Fld := ⟨Reg.SVC_CNT, 16, 16⟩
def SVC_CMD_RELEASE : Fld := ⟨Reg.SVC_CMD, 0, 1⟩
def BOOT_STAT_SOURCE : Fld := ⟨Reg.BOOT_STAT, 0, 2⟩
def BOOT_STAT_ACTIVE : Fld := ⟨Reg.BOOT_STAT, 2, 2⟩
def BOOT_STAT_TRIAL : Fld := ⟨Reg.BOOT_STAT, 4, 1⟩
def BOOT_STAT_TRIAL_BOOTS : Fld := ⟨Reg.BOOT_STAT, 5, 2⟩
def BOOT_STAT_REASON : Fld := ⟨Reg.BOOT_STAT, 8, 8⟩
def BOOT_STAT_PREV : Fld := ⟨Reg.BOOT_STAT, 16, 2⟩
def BOOT_STAT_DBG : Fld := ⟨Reg.BOOT_STAT, 18, 2⟩
def BOOT_SLOTS_SLOT_A : Fld := ⟨Reg.BOOT_SLOTS, 0, 3⟩
def BOOT_SLOTS_SLOT_B : Fld := ⟨Reg.BOOT_SLOTS, 4, 3⟩
def BOOT_TRIAL_REM_SEC : Fld := ⟨Reg.BOOT_TRIAL_REM, 0, 16⟩
def BOOT_HEALTH_CONFIRM_RESULT : Fld := ⟨Reg.BOOT_HEALTH_CONFIRM, 0, 2⟩
def BOOT_HEALTH_CONFIRM_KEY : Fld := ⟨Reg.BOOT_HEALTH_CONFIRM, 16, 16⟩
def BOOT_STRAP_BOOT_SEL : Fld := ⟨Reg.BOOT_STRAP, 0, 2⟩
def BOOT_STRAP_HOSTIF_SEL : Fld := ⟨Reg.BOOT_STRAP, 2, 2⟩
def BOOT_VERSION_VERSION : Fld := ⟨Reg.BOOT_VERSION, 0, 32⟩
def BOOT_UID_LO_UID : Fld := ⟨Reg.BOOT_UID_LO, 0, 32⟩
def BOOT_UID_HI_UID : Fld := ⟨Reg.BOOT_UID_HI, 0, 32⟩
def BOOT_NONCE_NONCE : Fld := ⟨Reg.BOOT_NONCE, 0, 32⟩
def MON_TEMP_TEMP (i : Nat) : Fld := ⟨Reg.MON_TEMP i, 0, 12⟩
def MON_TEMP_VALID (i : Nat) : Fld := ⟨Reg.MON_TEMP i, 31, 1⟩
def MON_TEMP_MAX_TEMP : Fld := ⟨Reg.MON_TEMP_MAX, 0, 12⟩
def MON_TEMP_MAX_SENSOR : Fld := ⟨Reg.MON_TEMP_MAX, 16, 3⟩
def MON_VCORE_VCORE : Fld := ⟨Reg.MON_VCORE, 0, 12⟩
def MON_VCORE_VCAL : Fld := ⟨Reg.MON_VCORE, 16, 12⟩
def MON_VCORE_DRIFT : Fld := ⟨Reg.MON_VCORE, 31, 1⟩
def MON_EVT_DRIFT : Fld := ⟨Reg.MON_EVT, 0, 1⟩
def MON_EVT_DISAGREE : Fld := ⟨Reg.MON_EVT, 1, 1⟩
def PCIE_STAT_LINK : Fld := ⟨Reg.PCIE_STAT, 0, 1⟩
def PCIE_STAT_SPEED : Fld := ⟨Reg.PCIE_STAT, 1, 2⟩
def PCIE_STAT_WIDTH : Fld := ⟨Reg.PCIE_STAT, 3, 2⟩
def PCIE_WIN_BASE_BASE (i : Nat) : Fld := ⟨Reg.PCIE_WIN_BASE i, 20, 12⟩
def PCIE_SRCMAP_VEC (i : Nat) : Fld := ⟨Reg.PCIE_SRCMAP i, 0, 5⟩
def PCIE_SRCMAP_EN (i : Nat) : Fld := ⟨Reg.PCIE_SRCMAP i, 31, 1⟩
def HSPI_STAT_OUT_LEVEL : Fld := ⟨Reg.HSPI_STAT, 0, 11⟩
def HSPI_STAT_IN_LEVEL : Fld := ⟨Reg.HSPI_STAT, 16, 11⟩
def HSPI_CNT_CRC_ERR : Fld := ⟨Reg.HSPI_CNT, 0, 16⟩
def HSPI_CNT_OFF_BLOCK : Fld := ⟨Reg.HSPI_CNT, 16, 16⟩
def HSPI_FRAME_DATA : Fld := ⟨Reg.HSPI_FRAME, 0, 32⟩
def HUART_BAUD_BAUD : Fld := ⟨Reg.HUART_BAUD, 0, 24⟩
def HUART_STAT_LEVEL : Fld := ⟨Reg.HUART_STAT, 0, 12⟩
def HUART_CNT_CRC_ERR : Fld := ⟨Reg.HUART_CNT, 0, 16⟩
def HUART_CNT_OVERRUN : Fld := ⟨Reg.HUART_CNT, 16, 16⟩

end Sys2Proof.Machine.F
end

