-- ==== Sys2Proof/Machine/RegTable.lean ====
section
/-! DEFINITION. The register tables (R414): for every block its base, power domain and transaction domain, and for every
register its offset, how often it repeats, and each field's bits, access code (R8) and reset value. -/

namespace Sys2Proof.Machine

/-- A field of a register table; the reset value of repeat `i` is `reset + step * i`. -/
structure FieldRow where
  lo : Nat
  w : Nat
  acc : Acc
  reset : Nat
  step : Nat := 0
  deriving DecidableEq, Repr

/-- A register of a block, repeated `count` times at `stride`. -/
structure RegRow where
  name : String
  off : Nat
  stride : Nat
  count : Nat
  fields : List FieldRow
  deriving DecidableEq, Repr

/-- A register block: its base, its power domain (R20) and its transaction domain (R32). -/
structure BlockRow where
  name : String
  base : Nat
  pd : Nat
  td : Option Nat
  regs : List RegRow
  deriving DecidableEq, Repr

namespace Rows

def rw (lo w reset : Nat) (step : Nat := 0) : FieldRow := ⟨lo, w, .rw, reset, step⟩
def ro (lo w reset : Nat) (step : Nat := 0) : FieldRow := ⟨lo, w, .ro, reset, step⟩
def wo (lo w reset : Nat) : FieldRow := ⟨lo, w, .wo, reset, 0⟩
def w1c (lo w reset : Nat) : FieldRow := ⟨lo, w, .w1c, reset, 0⟩
def w1s (lo w reset : Nat) : FieldRow := ⟨lo, w, .w1s, reset, 0⟩
def rwt (lo w reset : Nat) : FieldRow := ⟨lo, w, .rwt, reset, 0⟩

def sysRegs : List RegRow :=
  [ ⟨"SYS_CHIPID", 0x0, 0x0, 1, [ro 16 16 0x4252, ro 0 16 0x4800]⟩,
    ⟨"SYS_REV", 0x4, 0x0, 1, [ro 4 4 10, ro 0 4 1]⟩,
    ⟨"SYS_OFFACC_CNT", 0x20, 0x0, 1, [w1c 0 32 0]⟩,
    ⟨"SYS_OFFACC_ADDR", 0x24, 0x0, 1, [ro 2 30 0, ro 1 1 0]⟩,
    ⟨"SYS_RSTCAUSE", 0x8, 0x0, 1, [ro 0 3 0]⟩,
    ⟨"SYS_SWRST", 0xc, 0x0, 1, [wo 16 16 0]⟩ ]

def pwrRegs : List RegRow :=
  [ ⟨"PWR_VOTE", 0x0, 0x0, 1, [wo 0 19 0, wo 30 2 0]⟩,
    ⟨"PWR_VOTE_RES", 0x4, 0x0, 1, [ro 0 1 0]⟩,
    ⟨"PWR_CTRL", 0x8, 0x0, 1, [rw 0 1 1, rw 1 1 0, rw 8 8 20]⟩,
    ⟨"PWR_RET", 0xc, 0x0, 1, [rw 0 8 0]⟩,
    ⟨"PWR_WAKE_CFG", 0x10, 0x0, 1, [rw 0 1 0, rw 1 1 0, rw 2 1 1]⟩,
    ⟨"PWR_EVT", 0x200, 0x0, 1, [w1c 0 1 0, w1c 1 1 0, w1c 2 1 0]⟩,
    ⟨"PWR_WAKE_DOM", 0x14, 0x4, 2, [rw 0 19 2]⟩,
    ⟨"PWR_WAKE_DOM2", 0x1c, 0x0, 1, [rw 0 19 0x20002]⟩,
    ⟨"PWR_WAKE_HOLD", 0x20, 0x0, 1, [w1c 0 19 0]⟩,
    ⟨"PWR_WAKESTAT", 0x24, 0x0, 1, [ro 0 3 0, ro 3 1 0]⟩,
    ⟨"PWR_DOM_VOTE", 0x100, 0x8, 19, [ro 0 32 0]⟩,
    ⟨"PWR_DOM_STAT", 0x104, 0x8, 1, [ro 0 2 2, ro 2 1 0, ro 3 1 0, w1c 4 1 0]⟩,
    ⟨"PWR_DOM_STAT", 0x10c, 0x8, 18, [ro 0 2 0, ro 2 1 0, ro 3 1 0, w1c 4 1 0]⟩ ]

def prfRegs : List RegRow :=
  [ ⟨"PRF_CTRL", 0x0, 0x0, 1, [rw 0 1 1, rw 1 2 1, rw 3 1 0]⟩,
    ⟨"PRF_CAP", 0x4, 0x0, 1, [rw 0 13 0x1770]⟩,
    ⟨"PRF_BASE", 0x8, 0x0, 1, [rw 0 13 0]⟩,
    ⟨"PRF_TEMP", 0xc, 0x0, 1, [rw 0 8 95, rw 8 8 115, rw 16 8 120, rw 24 8 128]⟩,
    ⟨"PRF_ELANE", 0x10, 0x0, 1, [rw 0 24 0x11620]⟩,
    ⟨"PRF_ESEQ", 0x14, 0x0, 1, [rw 0 24 0x319c]⟩,
    ⟨"PRF_EMILL", 0x18, 0x0, 1, [rw 0 24 0x50b68]⟩,
    ⟨"PRF_POD", 0x1c, 0x0, 1, [rw 0 8 90, rw 8 8 60, rw 16 8 80]⟩,
    ⟨"PRF_PACK", 0x20, 0x0, 1, [rw 0 16 0x3e8]⟩,
    ⟨"PRF_QUIET", 0x24, 0x0, 1, [rw 0 8 100, rw 8 8 10]⟩,
    ⟨"PRF_STAT", 0x40, 0x0, 1, [ro 0 8 0, ro 8 8 0, ro 16 6 0, ro 22 1 0, ro 23 1 0, ro 24 1 0, ro 25 1 0]⟩,
    ⟨"PRF_RATION", 0x44, 0x0, 1, [ro 0 24 0]⟩,
    ⟨"PRF_USED", 0x48, 0x0, 1, [ro 0 24 0]⟩,
    ⟨"PRF_DEFER", 0x4c, 0x0, 1, [ro 0 16 0, w1c 16 16 0]⟩,
    ⟨"PRF_EVT", 0x50, 0x0, 1, [w1c 0 1 0, w1c 1 1 0, w1c 2 1 0, w1c 3 1 0, w1c 4 1 0, w1c 5 1 0]⟩ ]

def clkRegs : List RegRow :=
  [ ⟨"CLK_REFCFG", 0x0, 0x0, 1, [rwt 0 1 1, rwt 1 1 0, rwt 2 1 0, rwt 4 1 0, rwt 5 1 0, rwt 6 1 0, rwt 7 1 0]⟩,
    ⟨"CLK_REFSTAT", 0x4, 0x0, 1, [ro 0 1 0, ro 1 1 0, ro 2 1 0]⟩,
    ⟨"CLK_MONSTAT", 0x8, 0x0, 1, [w1c 0 1 0, w1c 1 1 0, w1c 2 1 0, w1c 3 1 0, w1c 4 1 0]⟩,
    ⟨"CLK_STRAP", 0xc, 0x0, 1, [ro 0 3 0, ro 8 20 0x2710]⟩ ]

/-- OUTSEL, a DIV0 that takes a write and SSC are CPLL's alone: elsewhere OUTSEL and SSC are reserved and DIV0 is fixed (R7, R69).
A CDIV outside 2–16 is stored and read back as written (log 147). -/
def pllRegs (cpll : Bool) (div0 div1 : Nat) : List RegRow :=
  [ ⟨"PLL_CTRL", 0x0, 0x0, 1, [rwt 0 1 0, rwt 1 3 0, rwt 4 1 1, rwt 5 1 0] ++ (if cpll then [rwt 6 1 0] else [])⟩,
    ⟨"PLL_NINT", 0x4, 0x0, 1, [rwt 0 10 0]⟩,
    ⟨"PLL_NNUM", 0x8, 0x0, 1, [rwt 0 24 0]⟩,
    ⟨"PLL_NDEN", 0xc, 0x0, 1, [rwt 0 24 0]⟩,
    ⟨"PLL_DIV", 0x10, 0x0, 1, [if cpll then rwt 0 5 div0 else ro 0 5 div0, ro 8 5 div1]⟩,
    ⟨"PLL_LF", 0x14, 0x0, 1, [rwt 0 8 0, rwt 8 6 0, rwt 14 8 0, rwt 22 6 0, rwt 28 1 0, rwt 29 3 0]⟩,
    ⟨"PLL_SSC", 0x18, 0x0, 1, if cpll then [rwt 0 2 0, rwt 2 6 0, rwt 8 6 30] else []⟩,
    ⟨"PLL_CMD", 0x1c, 0x0, 1, [wo 0 1 0, wo 1 1 0, wo 4 4 0]⟩,
    ⟨"PLL_STAT", 0x20, 0x0, 1, [ro 0 3 0, ro 4 4 0, ro 8 6 0, ro 16 1 0, ro 17 1 0, ro 18 1 0, ro 19 1 0, ro 20 1 0, ro 21 1 0, ro 22 1 0, ro 23 1 0, ro 24 1 0]⟩,
    ⟨"PLL_EVT", 0x24, 0x0, 1, [w1c 0 1 0, w1c 1 1 0, w1c 2 1 0, w1c 3 1 0, w1c 4 1 0, w1c 5 1 0]⟩,
    ⟨"PLL_FERR", 0x28, 0x0, 1, [ro 0 32 0]⟩,
    ⟨"PLL_DCOWORD", 0x2c, 0x0, 1, [ro 0 24 0, ro 24 6 0]⟩,
    ⟨"PLL_PHASE", 0x30, 0x0, 1, [ro 0 16 0, ro 31 1 0]⟩,
    ⟨"PLL_CAL_LO", 0x34, 0x0, 1, [ro 0 22 0]⟩,
    ⟨"PLL_CAL_HI", 0x38, 0x0, 1, [ro 0 22 0]⟩,
    ⟨"PLL_LOCKCFG", 0x3c, 0x0, 1, [rwt 0 8 20, rwt 8 16 0x400, rwt 24 8 10]⟩ ] ++
  [ ⟨"PLL_BAND_A", 0x100, 0x10, 16, [rwt 0 22 0]⟩,
    ⟨"PLL_BAND_B", 0x104, 0x10, 16, [rwt 0 22 0]⟩,
    ⟨"PLL_BAND_C", 0x108, 0x10, 16, [rwt 0 6 0, rwt 16 12 0, rwt 31 1 0]⟩ ]

def rfpRegs : List RegRow :=
  [ ⟨"RFP_CTRL", 0x0, 0x0, 1, [rwt 0 1 0, rwt 1 3 0, rwt 4 1 0]⟩,
    ⟨"RFP_TUNE", 0x4, 0x0, 1, [rwt 0 6 32, rwt 8 6 32]⟩,
    ⟨"RFP_RL", 0x8, 0x0, 1, [ro 0 10 0, ro 31 1 0]⟩,
    ⟨"RFP_RLCFG", 0xc, 0x0, 1, [rwt 0 8 60]⟩,
    ⟨"RFP_BIAS", 0x10, 0x0, 1, [ro 0 8 0, ro 8 1 0, ro 9 1 0, ro 10 1 0]⟩,
    ⟨"RFP_BIASCFG", 0x14, 0x0, 1, [rwt 0 8 10]⟩,
    ⟨"RFP_EVT", 0x18, 0x0, 1, [w1c 0 1 0, w1c 1 1 0, w1c 2 1 0, w1c 3 1 0, w1c 4 1 0]⟩,
    ⟨"RFP_CMD", 0x1c, 0x0, 1, [wo 0 1 0, wo 1 1 0]⟩,
    ⟨"RFP_STAT", 0x20, 0x0, 1, [ro 0 1 0, w1c 1 1 0]⟩,
    ⟨"RFP_AGC_CFG", 0x40, 0x8, 3, [rwt 0 2 0, rwt 8 7 24, rwt 16 4 2]⟩,
    ⟨"RFP_AGC_GAIN", 0x44, 0x8, 3, [rwt 0 7 80, ro 7 1 0]⟩ ]

def injRegs : List RegRow :=
  [ ⟨"INJ_GRP_CFG", 0x0, 0x10, 3, [rwt 0 3 0, rwt 4 5 10, rwt 12 4 15]⟩,
    ⟨"INJ_GRP_OFF", 0x4, 0x10, 3, [rwt 0 32 0x38000000]⟩,
    ⟨"INJ_CMD", 0x40, 0x0, 1, [wo 0 2 0, wo 4 3 0]⟩,
    ⟨"INJ_STAT", 0x44, 0x0, 1, [ro 0 2 0, ro 2 2 0, ro 4 2 0, ro 8 2 0]⟩,
    ⟨"INJ_BIAS", 0x80, 0x4, 12, [ro 0 16 0, ro 16 12 0, ro 31 1 0]⟩ ]

def adcRegs : List RegRow :=
  [ ⟨"ADC_LOCAL_CTRL", 0x0, 0x0, 1, [rwt 0 6 20]⟩,
    ⟨"ADC_LOCAL_CMD", 0x4, 0x0, 1, [wo 0 3 0]⟩,
    ⟨"ADC_LOCAL_STAT", 0x8, 0x0, 1, [ro 0 3 0, ro 3 3 0, w1c 6 3 0, w1c 9 3 0]⟩,
    ⟨"ADC_BLANK_CFG", 0x20, 0x10, 4, [rwt 0 1 0, rwt 1 1 0, rwt 8 8 2]⟩,
    ⟨"ADC_BLANK_MASK", 0x24, 0x10, 4, [rwt 0 12 0]⟩,
    ⟨"ADC_BLANK_LEAD", 0x28, 0x10, 4, [rwt 0 12 0]⟩,
    ⟨"ADC_BLANK_LAG", 0x2c, 0x10, 4, [rwt 0 16 0]⟩,
    ⟨"ADC_STAT", 0x100, 0x10, 12, [ro 0 10 0, w1c 16 16 0]⟩,
    ⟨"ADC_BLANKCNT", 0x104, 0x10, 12, [ro 0 18 0]⟩ ]

def chzRegs : List RegRow :=
  [ ⟨"CHZ_STR_CFG", 0x0, 0x10, 24, [rwt 0 1 0, rwt 1 3 0, rwt 4 4 0, rwt 16 6 24]⟩,
    ⟨"CHZ_STR_FREQ", 0x4, 0x10, 24, [rwt 0 32 0]⟩,
    ⟨"CHZ_STR_STAT", 0x8, 0x10, 24, [ro 0 2 0, ro 2 1 0, ro 8 8 0, ro 16 16 0]⟩ ]

def sieveRegs : List RegRow :=
  [ ⟨"SIEVE_PB_CFG", 0x0, 0x10, 24, [rwt 0 1 0, rwt 8 6 18, rwt 16 6 4]⟩,
    ⟨"SIEVE_PB_EXT", 0x4, 0x10, 24, [rwt 0 12 16]⟩,
    ⟨"SIEVE_PB_STAT", 0x8, 0x10, 24, [ro 0 16 0, ro 16 16 0]⟩,
    ⟨"SIEVE_PB_TOTAL", 0xc, 0x10, 24, [w1c 0 32 0]⟩,
    ⟨"SIEVE_NT_CFG", 0x200, 0x10, 48, [rwt 0 2 0, rwt 4 4 4, rwt 8 8 10, rwt 16 8 12]⟩,
    ⟨"SIEVE_NT_FREQ", 0x204, 0x10, 48, [rwt 0 32 0]⟩,
    ⟨"SIEVE_NT_STAT", 0x208, 0x10, 48, [ro 0 1 0, ro 8 8 0]⟩,
    ⟨"SIEVE_NT_CUR", 0x20c, 0x10, 48, [ro 0 32 0]⟩ ]

def ringRegs : List RegRow :=
  [ ⟨"RING_STR_ALLOC", 0x0, 0x20, 24, [rwt 0 7 0, rwt 8 5 4]⟩,
    ⟨"RING_STR_STAT", 0x4, 0x20, 24, [ro 0 2 0, ro 2 1 0, ro 3 1 0, ro 4 1 0, ro 16 5 0]⟩,
    ⟨"RING_STR_LAST_SEQ", 0x8, 0x20, 24, [ro 0 32 0]⟩,
    ⟨"RING_STR_LAST_NS", 0xc, 0x20, 24, [ro 0 30 0]⟩,
    ⟨"RING_STR_LAST_SEC_LO", 0x10, 0x20, 24, [ro 0 32 0]⟩,
    ⟨"RING_STR_LAST_SEC_HI", 0x14, 0x20, 24, [ro 0 16 0, ro 16 16 0]⟩,
    ⟨"RING_STR_LAST_INFO", 0x18, 0x20, 24, [ro 0 8 0, ro 8 4 0, ro 16 16 0]⟩,
    ⟨"RING_CTRL", 0x400, 0x0, 1, [rwt 0 8 50, rwt 8 8 100]⟩,
    ⟨"RING_PINSTAT", 0x404, 0x0, 1, [ro 0 1 0, ro 1 5 0, ro 8 1 0, ro 9 5 0]⟩,
    ⟨"RING_EVT", 0x408, 0x0, 1, [w1c 0 1 0, w1c 1 1 0, w1c 2 1 0, w1c 3 1 0]⟩ ]

def podRegs : List RegRow :=
  [ ⟨"POD_CTRL", 0x0, 0x0, 1, [rwt 0 1 0, rwt 1 4 15]⟩,
    ⟨"POD_STAT", 0x4, 0x0, 1, [ro 0 2 0, ro 2 8 255, ro 10 1 1]⟩,
    ⟨"POD_LOAD", 0x8, 0x0, 1, [ro 0 16 0, ro 16 16 0]⟩,
    ⟨"POD_SWEEPS", 0xc, 0x0, 1, [ro 0 16 0, ro 16 16 0]⟩,
    ⟨"POD_MISS", 0x10, 0x0, 1, [w1c 0 32 0]⟩,
    ⟨"POD_HUSK_STAT", 0x14, 0x0, 1, [ro 0 8 0, ro 8 8 0, ro 16 1 0]⟩,
    ⟨"POD_HUSK_MISM", 0x18, 0x0, 1, [w1c 0 16 0, w1c 16 16 0]⟩,
    ⟨"POD_RESID", 0x1c, 0x0, 1, [w1c 0 16 0, ro 16 9 0]⟩,
    ⟨"POD_EVT", 0x20, 0x0, 1, [w1c 0 1 0, w1c 1 1 0, w1c 2 1 0, w1c 3 1 0, w1c 4 1 0]⟩,
    ⟨"POD_CMD", 0x24, 0x0, 1, [wo 0 9 0]⟩ ]

def trkRegs : List RegRow :=
  [ ⟨"TRK_CMD", 0x0, 0x0, 1, [wo 0 12 0, wo 12 3 0, wo 15 3 0, wo 18 1 0]⟩,
    ⟨"TRK_START_SEQ", 0x4, 0x0, 1, [rw 0 32 0]⟩,
    ⟨"TRK_RESULT", 0x8, 0x0, 1, [ro 0 4 0, ro 4 1 0]⟩,
    ⟨"TRK_CFGERR", 0xc, 0x0, 1, [ro 0 12 0, ro 16 4 0]⟩,
    ⟨"TRK_ACTIVE", 0x10, 0x0, 1, [ro 0 13 0]⟩,
    ⟨"TRK_SCRUB", 0x40, 0x0, 1, [ro 0 16 0, ro 16 1 1]⟩,
    ⟨"TRK_ECC", 0x44, 0x0, 1, [w1c 0 16 0, w1c 16 16 0]⟩,
    ⟨"TRK_UNCORR_ADDR", 0x48, 0x0, 1, [ro 2 30 0]⟩,
    ⟨"TRK_WRBLOCK", 0x4c, 0x0, 1, [w1c 0 16 0, ro 16 6 0]⟩,
    ⟨"TRK_WRBLOCK_ADDR", 0x50, 0x0, 1, [ro 2 30 0]⟩,
    ⟨"TRK_RAW_BASE", 0x60, 0x0, 1, [rwt 0 32 0x10700000]⟩,
    ⟨"TRK_RAW_SIZE", 0x64, 0x0, 1, [rwt 0 16 0x400]⟩,
    ⟨"TRK_RAW_WR", 0x68, 0x0, 1, [ro 0 16 0]⟩,
    ⟨"TRK_RAW_RD", 0x6c, 0x0, 1, [rw 0 16 0]⟩,
    ⟨"TRK_RAW_DROP", 0x70, 0x0, 1, [w1c 0 32 0]⟩,
    ⟨"TRK_PODCNT", 0x20, 0x4, 6, [ro 0 13 0]⟩ ]

def millRegs : List RegRow :=
  [ ⟨"MILL_CTRL", 0x0, 0x0, 1, [rwt 0 1 0, rwt 1 4 15]⟩,
    ⟨"MILL_STAT", 0x4, 0x0, 1, [ro 0 2 0, ro 2 4 0, ro 6 3 0, ro 9 2 0, ro 11 1 0]⟩,
    ⟨"MILL_EVT", 0x8, 0x0, 1, [w1c 0 1 0, w1c 1 1 0, w1c 2 1 0, w1c 3 1 0, w1c 4 1 0]⟩,
    ⟨"MILL_CELLS", 0xc, 0x0, 1, [ro 0 32 0]⟩,
    ⟨"MILL_PLAN_BASE", 0x10, 0x0, 1, [rw 0 32 0]⟩,
    ⟨"MILL_HIT_BASE", 0x20, 0x0, 1, [rw 0 32 0]⟩,
    ⟨"MILL_PLAN_CFG", 0x14, 0x0, 1, [rw 0 4 6]⟩,
    ⟨"MILL_HIT_CFG", 0x24, 0x0, 1, [rw 0 4 6]⟩,
    ⟨"MILL_PLAN_HEAD", 0x18, 0x0, 1, [ro 0 10 0]⟩,
    ⟨"MILL_HIT_WR", 0x28, 0x0, 1, [ro 0 10 0]⟩,
    ⟨"MILL_PLAN_TAIL", 0x1c, 0x0, 1, [rw 0 10 0]⟩,
    ⟨"MILL_HIT_RD", 0x2c, 0x0, 1, [rw 0 10 0]⟩,
    ⟨"MILL_HIT_DROP", 0x30, 0x0, 1, [w1c 0 16 0]⟩ ]

def lyzRegs : List RegRow :=
  [ ⟨"LYZ_CTRL", 0x0, 0x0, 1, [rw 0 8 255, rw 8 3 0, rw 11 1 1]⟩,
    ⟨"LYZ_WDOG", 0x4, 0x0, 1, [rw 0 8 64, rw 8 6 30]⟩,
    ⟨"LYZ_PS_FW", 0x8, 0x0, 1, [ro 0 17 0]⟩,
    ⟨"LYZ_SIG", 0xc, 0x0, 1, [w1c 0 32 0]⟩,
    ⟨"LYZ_SIG_SET", 0x10, 0x0, 1, [wo 0 32 0]⟩,
    ⟨"LYZ_FLT_INFO", 0x20, 0x0, 1, [ro 0 6 0, ro 8 8 0, ro 16 12 0, w1c 31 1 0]⟩,
    ⟨"LYZ_FLT_ADDR", 0x24, 0x0, 1, [ro 0 32 0]⟩,
    ⟨"LYZ_FLT_CNT", 0x28, 0x0, 1, [w1c 0 16 0]⟩,
    ⟨"LYZ_CTX_QBASE_LO", 0x100, 0x40, 8, [rw 0 32 0]⟩,
    ⟨"LYZ_CTX_QBASE_HI", 0x104, 0x40, 8, [rw 0 32 0]⟩,
    ⟨"LYZ_CTX_EBASE_LO", 0x114, 0x40, 8, [rw 0 32 0]⟩,
    ⟨"LYZ_CTX_EBASE_HI", 0x118, 0x40, 8, [rw 0 32 0]⟩,
    ⟨"LYZ_CTX_QCFG", 0x108, 0x40, 8, [rw 0 4 6, rw 4 1 0, rw 5 1 0]⟩,
    ⟨"LYZ_CTX_ECFG", 0x11c, 0x40, 8, [rw 0 4 6, rw 4 1 0, rw 5 1 0]⟩,
    ⟨"LYZ_CTX_QHEAD", 0x10c, 0x40, 8, [ro 0 12 0]⟩,
    ⟨"LYZ_CTX_EHEAD", 0x120, 0x40, 8, [ro 0 12 0]⟩ ] ++
  [ ⟨"LYZ_CTX_QTAIL", 0x110, 0x40, 8, [rw 0 12 0]⟩,
    ⟨"LYZ_CTX_ETAIL", 0x124, 0x40, 8, [rw 0 12 0]⟩,
    ⟨"LYZ_CTX_STAT", 0x128, 0x40, 8, [ro 0 3 0, ro 8 16 0, ro 24 8 0]⟩,
    ⟨"LYZ_CTX_CMD", 0x12c, 0x40, 8, [wo 0 2 0]⟩,
    ⟨"LYZ_CTX_EVDROP", 0x130, 0x40, 8, [w1c 0 16 0]⟩ ]

def txnRegs : List RegRow :=
  [ ⟨"TXN_CMD", 0x0, 0x40, 4, [wo 0 3 0, wo 3 1 0]⟩,
    ⟨"TXN_STAT", 0x4, 0x40, 4, [ro 0 3 0, ro 8 6 0, ro 16 8 0, w1c 24 1 0, w1c 25 1 0]⟩,
    ⟨"TXN_JCOUNT", 0x8, 0x40, 4, [ro 0 9 0]⟩,
    ⟨"TXN_AT_SEC_LO", 0xc, 0x40, 4, [rw 0 32 0]⟩,
    ⟨"TXN_AT_SEC_HI", 0x10, 0x40, 4, [rw 0 16 0]⟩,
    ⟨"TXN_AT_NS", 0x14, 0x40, 4, [rw 0 30 0]⟩,
    ⟨"TXN_PEEK_ADDR", 0x18, 0x40, 4, [rw 2 30 0, ro 0 1 0]⟩,
    ⟨"TXN_PEEK_DATA", 0x1c, 0x40, 4, [ro 0 32 0]⟩,
    ⟨"TXN_CTRL", 0x100, 0x0, 1, [rw 0 4 0, rw 4 4 0]⟩,
    ⟨"TXN_TIMEOUT", 0x104, 0x0, 1, [rw 0 16 100]⟩,
    ⟨"TXN_AUTOABORT", 0x108, 0x0, 1, [w1c 0 16 0]⟩ ]

def kyoRegs : List RegRow :=
  [ ⟨"KYO_CTRL", 0x0, 0x0, 1, [rwt 0 1 1, rwt 1 1 0, rwt 2 1 0]⟩,
    ⟨"KYO_STATE", 0x4, 0x0, 1, [ro 0 3 4, ro 4 3 5, ro 7 1 0, ro 8 1 0, ro 9 1 0, ro 10 1 0]⟩,
    ⟨"KYO_CMD", 0x8, 0x0, 1, [wo 0 3 0, wo 4 3 0, wo 7 1 0]⟩,
    ⟨"KYO_EVT", 0xc, 0x0, 1, [w1c 0 1 0, w1c 1 1 0, w1c 2 1 0, w1c 3 1 0, w1c 4 1 0, w1c 5 1 0, w1c 6 1 0, w1c 7 1 0]⟩,
    ⟨"KYO_DT_NS", 0x10, 0x0, 1, [ro 0 30 0]⟩,
    ⟨"KYO_DT_SEC_LO", 0x14, 0x0, 1, [ro 0 32 0]⟩,
    ⟨"KYO_DT_SEC_HI", 0x18, 0x0, 1, [ro 0 16 0, ro 16 16 0]⟩,
    ⟨"KYO_TS32", 0x1c, 0x0, 1, [ro 0 32 0]⟩,
    ⟨"KYO_MONO_LO", 0x20, 0x0, 1, [ro 0 32 0]⟩,
    ⟨"KYO_MONO_HI", 0x24, 0x0, 1, [ro 0 32 0]⟩,
    ⟨"KYO_ADDEND_LO", 0x28, 0x0, 1, [rwt 0 32 0x8d55555]⟩,
    ⟨"KYO_ADDEND_HI", 0x2c, 0x0, 1, [rwt 0 4 2, rwt 16 16 0x5555]⟩,
    ⟨"KYO_SLEW", 0x30, 0x0, 1, [wo 0 32 0]⟩,
    ⟨"KYO_SLEW_REM", 0x34, 0x0, 1, [ro 0 32 0]⟩,
    ⟨"KYO_SLEW_MAX", 0x38, 0x0, 1, [rwt 0 16 50]⟩,
    ⟨"KYO_STEP_THRESH", 0x3c, 0x0, 1, [rwt 0 32 0x3e8]⟩ ] ++
  [ ⟨"KYO_STEP_SEC", 0x40, 0x0, 1, [rw 0 32 0]⟩,
    ⟨"KYO_STEP_NS", 0x44, 0x0, 1, [rw 0 32 0]⟩,
    ⟨"KYO_HOLD_BUDGET", 0x48, 0x0, 1, [rwt 0 24 0x5dc]⟩,
    ⟨"KYO_HOLD_A1", 0x4c, 0x0, 1, [rw 0 32 0]⟩,
    ⟨"KYO_HOLD_A2", 0x50, 0x0, 1, [rw 0 32 0]⟩,
    ⟨"KYO_HOLD_E0", 0x54, 0x0, 1, [rw 0 32 0]⟩,
    ⟨"KYO_EST_ERR", 0x58, 0x0, 1, [ro 0 32 0xffffffff]⟩,
    ⟨"KYO_HOLD_S", 0x5c, 0x0, 1, [ro 0 32 0]⟩,
    ⟨"KYO_SRC_ERR", 0x60, 0x0, 1, [ro 0 32 0xffffffff]⟩,
    ⟨"KYO_RTC_PPB", 0x64, 0x0, 1, [rw 0 16 0x3e8]⟩,
    ⟨"KYO_ISO_EST", 0x100, 0x8, 6, [ro 0 32 0x80000000]⟩,
    ⟨"KYO_ISO_BC", 0x104, 0x8, 6, [ro 0 32 0x80000000]⟩ ]

def tpRegs : List RegRow :=
  [ ⟨"TP_CFG", 0x0, 0x20, 4, [rwt 0 1 0, rwt 1 1 0]⟩,
    ⟨"TP_PERIOD", 0x4, 0x20, 4, [rwt 0 30 0x3b9aca00]⟩,
    ⟨"TP_OFFSET", 0x8, 0x20, 4, [rwt 0 30 0]⟩,
    ⟨"TP_WIDTH", 0xc, 0x20, 4, [rwt 0 30 0x5f5e100]⟩,
    ⟨"TP_COMP", 0x10, 0x20, 4, [rwt 0 32 0]⟩,
    ⟨"TP_STAT", 0x14, 0x20, 4, [ro 0 16 0, ro 16 1 0, ro 17 1 0, ro 18 1 0, w1c 24 8 0]⟩,
    ⟨"TP_LB", 0x18, 0x20, 4, [ro 0 16 0, w1c 16 8 0]⟩,
    ⟨"TP_DOUT", 0x1c, 0x20, 4, [ro 0 16 0]⟩,
    ⟨"TP_CAL_CMD", 0x100, 0x0, 1, [wo 0 1 0]⟩,
    ⟨"TP_CAL_STAT", 0x104, 0x0, 1, [ro 0 1 0, w1c 1 1 0, w1c 2 1 0, ro 16 16 0]⟩,
    ⟨"TP_LBCFG", 0x108, 0x0, 1, [rwt 0 16 200, rwt 16 1 1]⟩ ]

def captrgRegs : List RegRow :=
  [ ⟨"CAP_CFG", 0x0, 0x20, 9, [rwt 0 1 0, rwt 1 2 1]⟩,
    ⟨"CAP_COMP", 0x4, 0x20, 9, [rwt 0 32 0]⟩,
    ⟨"CAP_NS", 0x8, 0x20, 9, [ro 0 30 0, ro 31 1 0]⟩,
    ⟨"CAP_SEC_LO", 0xc, 0x20, 9, [ro 0 32 0]⟩,
    ⟨"CAP_SEC_HI", 0x10, 0x20, 9, [ro 0 16 0, ro 16 16 0]⟩,
    ⟨"CAP_STAT", 0x14, 0x20, 9, [ro 0 5 0, ro 5 1 0, ro 6 1 0, w1c 16 16 0]⟩,
    ⟨"TRG_CFG", 0x200, 0x20, 16, [rwt 0 1 0, rwt 1 1 0, rwt 2 1 0, rwt 3 1 0, rwt 4 1 0, rwt 5 1 0, rwt 6 1 0, rwt 8 5 0, rwt 13 5 0, rwt 18 3 0, rwt 24 8 1]⟩,
    ⟨"TRG_AT_SEC_LO", 0x204, 0x20, 16, [rwt 0 32 0]⟩,
    ⟨"TRG_AT_SEC_HI", 0x208, 0x20, 16, [rwt 0 16 0]⟩,
    ⟨"TRG_AT_NS", 0x20c, 0x20, 16, [rwt 0 30 0]⟩,
    ⟨"TRG_PERIOD", 0x210, 0x20, 16, [rwt 0 32 0]⟩,
    ⟨"TRG_CTX", 0x214, 0x20, 16, [rwt 0 17 0]⟩,
    ⟨"TRG_WAKE", 0x218, 0x20, 16, [rwt 0 19 0]⟩,
    ⟨"TRG_TAG", 0x500, 0x4, 16, [rwt 0 16 0]⟩,
    ⟨"TRG_STAT", 0x21c, 0x20, 16, [ro 0 2 0, w1c 2 1 0, w1c 3 1 0, w1c 4 1 0, w1c 5 1 0, w1c 16 16 0]⟩,
    ⟨"CAPTRG_EVT", 0x400, 0x0, 1, [w1c 0 8 0, w1c 8 16 0, w1c 24 1 0, w1c 25 1 0]⟩ ]

def netRegs : List RegRow :=
  [ ⟨"NET_CTRL", 0x0, 0x0, 1, [rwt 0 1 0, rwt 1 1 1, rwt 16 16 300]⟩,
    ⟨"NET_STAT", 0x4, 0x0, 1, [w1c 0 16 0, w1c 16 16 0]⟩,
    ⟨"NET_VLAN", 0x100, 0x4, 64, [rwt 0 12 0, rwt 12 5 0, rwt 17 5 0, rwt 31 1 0]⟩ ]

def npRegs (tx rx : List Nat) : List RegRow :=
  [ ⟨"NP_CFG", 0x0, 0x0, 1, [rwt 0 3 0, rwt 3 2 0, rwt 16 12 1]⟩,
    ⟨"NP_STAT", 0x4, 0x0, 1, [ro 0 1 0, ro 1 2 0, ro 3 1 0]⟩,
    ⟨"NP_LAT_TX", 0x10, 0x0, 1, [rwt 0 24 (tx.getD 0 0)]⟩,
    ⟨"NP_LAT_TX", 0x18, 0x0, 1, [rwt 0 24 (tx.getD 1 0)]⟩,
    ⟨"NP_LAT_TX", 0x20, 0x0, 1, [rwt 0 24 (tx.getD 2 0)]⟩,
    ⟨"NP_LAT_TX", 0x28, 0x0, 1, [rwt 0 24 (tx.getD 3 0)]⟩,
    ⟨"NP_LAT_RX", 0x14, 0x0, 1, [rwt 0 24 (rx.getD 0 0)]⟩,
    ⟨"NP_LAT_RX", 0x1c, 0x0, 1, [rwt 0 24 (rx.getD 1 0)]⟩,
    ⟨"NP_LAT_RX", 0x24, 0x0, 1, [rwt 0 24 (rx.getD 2 0)]⟩,
    ⟨"NP_LAT_RX", 0x2c, 0x0, 1, [rwt 0 24 (rx.getD 3 0)]⟩,
    ⟨"NP_LINKDLY", 0x40, 0x0, 1, [rwt 0 32 0]⟩ ]

def np3Regs : List RegRow :=
  [ ⟨"NP3_CFG", 0x0, 0x0, 1, [rwt 0 3 0, rwt 3 2 0, rwt 16 12 1]⟩,
    ⟨"NP3_STAT", 0x4, 0x0, 1, [ro 0 1 0, ro 1 2 0, ro 3 1 0, ro 4 1 0]⟩,
    ⟨"NP3_LAT_TX", 0x10, 0x0, 1, [rwt 0 24 0]⟩,
    ⟨"NP3_LAT_TX", 0x18, 0x0, 1, [rwt 0 24 0]⟩,
    ⟨"NP3_LAT_TX", 0x20, 0x0, 1, [rwt 0 24 0]⟩,
    ⟨"NP3_LAT_TX", 0x28, 0x0, 1, [rwt 0 24 1560000]⟩,
    ⟨"NP3_LAT_RX", 0x14, 0x0, 1, [rwt 0 24 0]⟩,
    ⟨"NP3_LAT_RX", 0x1c, 0x0, 1, [rwt 0 24 0]⟩,
    ⟨"NP3_LAT_RX", 0x24, 0x0, 1, [rwt 0 24 0]⟩,
    ⟨"NP3_LAT_RX", 0x2c, 0x0, 1, [rwt 0 24 2480000]⟩,
    ⟨"NP3_LINKDLY", 0x40, 0x0, 1, [rwt 0 32 0]⟩,
    ⟨"NP3_PLCA", 0x80, 0x0, 1, [rwt 0 8 255, rwt 8 8 8, rwt 16 8 32]⟩,
    ⟨"NP3_WAKE_CFG", 0x90, 0x0, 1, [rwt 0 1 0, rwt 1 1 0, rwt 2 1 0, rwt 3 4 0, rwt 16 16 0]⟩,
    ⟨"NP3_WAKE_DA_LO", 0x94, 0x0, 1, [rwt 0 32 0]⟩,
    ⟨"NP3_WAKE_DA_HI", 0x98, 0x0, 1, [rwt 0 16 0]⟩,
    ⟨"NP3_WAKE_DOM", 0x9c, 0x0, 1, [rwt 0 19 0]⟩ ] ++
  [ ⟨"NP3_WAKE_PAT_OFS", 0xa0, 0x10, 4, [rwt 0 7 0]⟩,
    ⟨"NP3_WAKE_PAT_VAL", 0xa4, 0x10, 4, [rwt 0 32 0]⟩,
    ⟨"NP3_WAKE_PAT_MASK", 0xa8, 0x10, 4, [rwt 0 32 0]⟩,
    ⟨"NP3_WAKE_STAT", 0xe0, 0x0, 1, [ro 0 1 0, w1c 8 8 0, w1c 16 16 0]⟩ ]

def ptpaRegs : List RegRow :=
  [ ⟨"PTPA_CTRL", 0x0, 0x0, 1, [rwt 0 1 0, rwt 1 1 0, rwt 2 1 0, rwt 4 4 0]⟩,
    ⟨"PTPA_TC_DOM", 0x4, 0x0, 1, [rwt 0 8 0, rwt 8 8 0, rwt 16 8 0, rwt 24 8 0]⟩,
    ⟨"PTPA_NTP_OFS", 0x8, 0x0, 1, [rwt 0 32 0xbc17c1e0]⟩,
    ⟨"PTPA_TXTS_INFO", 0x10, 0x0, 1, [ro 0 16 0, ro 16 3 0, ro 20 4 0, ro 31 1 0]⟩,
    ⟨"PTPA_TXTS_NS", 0x14, 0x0, 1, [ro 0 30 0]⟩,
    ⟨"PTPA_TXTS_SEC_LO", 0x18, 0x0, 1, [ro 0 32 0]⟩,
    ⟨"PTPA_TXTS_SEC_HI", 0x1c, 0x0, 1, [ro 0 16 0, ro 16 16 0]⟩,
    ⟨"PTPA_EVT", 0x20, 0x0, 1, [w1c 0 1 0, w1c 1 1 0, w1c 2 1 0]⟩,
    ⟨"PTPA_NTP_SERVED", 0x24, 0x0, 1, [w1c 0 32 0]⟩,
    ⟨"PTPA_NTP_DROP", 0x28, 0x0, 1, [w1c 0 32 0]⟩ ]

def rtcRegs : List RegRow :=
  [ ⟨"RTC_SEC_LO", 0x0, 0x0, 1, [ro 0 32 0]⟩,
    ⟨"RTC_STG_SEC_LO", 0x10, 0x0, 1, [rw 0 32 0]⟩,
    ⟨"RTC_SEC_HI", 0x4, 0x0, 1, [ro 0 16 0]⟩,
    ⟨"RTC_STG_SEC_HI", 0x14, 0x0, 1, [rw 0 16 0]⟩,
    ⟨"RTC_FRAC", 0x8, 0x0, 1, [ro 0 32 0]⟩,
    ⟨"RTC_STG_FRAC", 0x18, 0x0, 1, [rw 0 32 0]⟩,
    ⟨"RTC_CMD", 0x1c, 0x0, 1, [wo 0 1 0, wo 1 1 0, wo 2 1 0]⟩,
    ⟨"RTC_STAT", 0x20, 0x0, 1, [ro 0 1 0, ro 1 1 0, ro 2 1 0, ro 3 1 1, ro 4 1 0]⟩,
    ⟨"RTC_TRIM", 0x24, 0x0, 1, [rw 0 16 0, rw 16 5 20, rw 21 1 0]⟩,
    ⟨"RTC_EVT", 0x30, 0x0, 1, [w1c 0 1 0, w1c 1 1 0, w1c 2 1 0, w1c 3 1 0, w1c 4 1 0, w1c 5 1 0]⟩,
    ⟨"RTC_ALARM_LO", 0x28, 0x0, 1, [rw 0 32 0]⟩,
    ⟨"RTC_ALARM_HI", 0x2c, 0x0, 1, [rw 0 16 0, rw 31 1 0]⟩,
    ⟨"RTC_SNAP_SEC_LO", 0x40, 0x0, 1, [ro 0 32 0]⟩,
    ⟨"RTC_SNAP_SEC_HI", 0x44, 0x0, 1, [ro 0 16 0]⟩,
    ⟨"RTC_SNAP_FRAC", 0x48, 0x0, 1, [ro 0 32 0]⟩,
    ⟨"RTC_SNAP_DT_NS", 0x4c, 0x0, 1, [ro 0 30 0]⟩ ] ++
  [ ⟨"RTC_SNAP_DT_SEC_LO", 0x50, 0x0, 1, [ro 0 32 0]⟩,
    ⟨"RTC_SNAP_DT_SEC_HI", 0x54, 0x0, 1, [ro 0 16 0, ro 31 1 0]⟩ ]

def calRegs : List RegRow :=
  [ ⟨"CAL_CMD", 0x0, 0x0, 1, [wo 0 2 0]⟩,
    ⟨"CAL_BCT_LO", 0x4, 0x0, 1, [rw 0 32 0]⟩,
    ⟨"CAL_BCT_HI", 0x8, 0x0, 1, [rw 0 16 0]⟩,
    ⟨"CAL_DATE", 0xc, 0x0, 1, [rw 0 5 1, rw 8 4 1, rw 16 12 0x7d0]⟩,
    ⟨"CAL_TIME", 0x10, 0x0, 1, [rw 0 6 0, rw 8 6 0, rw 16 5 0, ro 24 3 0]⟩,
    ⟨"CAL_INFO", 0x14, 0x0, 1, [ro 0 9 0, ro 16 8 0, ro 24 1 0]⟩,
    ⟨"CAL_STATUS", 0x18, 0x0, 1, [ro 0 1 0, w1c 1 1 0, w1c 2 1 0, ro 4 4 0]⟩ ]

def ledgerRegs : List RegRow :=
  [ ⟨"LEDGER_STAT", 0x0, 0x0, 1, [ro 0 1 0, ro 1 1 0, ro 2 1 0, ro 3 1 1]⟩,
    ⟨"LEDGER_SEQ", 0x4, 0x0, 1, [ro 0 32 0]⟩,
    ⟨"LEDGER_LAST", 0x8, 0x0, 1, [ro 0 32 0]⟩,
    ⟨"LEDGER_SUB_D", 0x10, 0x4, 4, [rw 0 32 0]⟩,
    ⟨"LEDGER_SUB_CMD", 0x20, 0x0, 1, [wo 0 4 0]⟩,
    ⟨"LEDGER_SUB_RES", 0x24, 0x0, 1, [ro 0 2 0]⟩ ]

def ocqRegs : List RegRow :=
  [ ⟨"OCQ_STAT", 0x0, 0x0, 1, [ro 0 1 0, ro 1 1 0, ro 2 1 0, ro 3 1 0, ro 4 2 0, ro 8 8 0, ro 16 16 0]⟩,
    ⟨"OCQ_SAFE_REQ", 0x4, 0x0, 1, [wo 0 2 0, wo 16 16 0]⟩,
    ⟨"OCQ_SAFE_CFG", 0x8, 0x0, 1, [rw 0 8 10, rw 8 1 0]⟩,
    ⟨"OCQ_HB", 0x10, 0x0, 1, [rw 0 32 0]⟩,
    ⟨"OCQ_HBCFG", 0x14, 0x0, 1, [rw 0 8 10, rw 8 4 3]⟩,
    ⟨"OCQ_STEST_CMD", 0x18, 0x0, 1, [wo 0 1 0]⟩,
    ⟨"OCQ_STEST_STAT", 0x1c, 0x0, 1, [ro 0 1 0, w1c 1 1 0, w1c 2 1 0, ro 8 8 0, ro 16 16 0]⟩,
    ⟨"OCQ_STEST_CFG", 0x20, 0x0, 1, [rw 0 8 60]⟩ ]

def fltRegs : List RegRow :=
  [ ⟨"FLT_STAT", 0x0, 0x4, 6, [ro 0 32 0]⟩,
    ⟨"FLT_LATCH", 0x20, 0x4, 6, [w1c 0 32 0]⟩,
    ⟨"FLT_CLASS", 0x40, 0x0, 1, [rw 0 32 0x51555555]⟩,
    ⟨"FLT_CLASS", 0x44, 0x0, 1, [rw 0 32 0xaaa55515]⟩,
    ⟨"FLT_CLASS", 0x48, 0x0, 1, [rw 0 32 0xaa900555]⟩,
    ⟨"FLT_CLASS", 0x4c, 0x0, 1, [rw 0 32 0x8000006a]⟩,
    ⟨"FLT_CLASS", 0x50, 0x0, 1, [rw 0 32 0xfffff505]⟩,
    ⟨"FLT_CLASS", 0x54, 0x0, 1, [rw 0 32 0xffffffff]⟩,
    ⟨"FLT_CLASS", 0x58, 0x0, 1, [rw 0 32 0xffffffff]⟩,
    ⟨"FLT_CLASS", 0x5c, 0x0, 1, [rw 0 32 0xffffffff]⟩,
    ⟨"FLT_CLASS", 0x60, 0x0, 1, [rw 0 32 0xaaaaaaaa]⟩,
    ⟨"FLT_CLASS", 0x64, 0x0, 1, [rw 0 32 0xaaaaaaaa]⟩,
    ⟨"FLT_CLASS", 0x68, 0x0, 1, [rw 0 32 0xaaaaaaaa]⟩,
    ⟨"FLT_CLASS", 0x6c, 0x0, 1, [rw 0 32 0xaaaaaaaa]⟩,
    ⟨"FLT_CTRL", 0x80, 0x0, 1, [w1s 0 1 0, rw 1 1 0, rw 2 1 0, ro 8 1 0, ro 9 1 0]⟩,
    ⟨"FLT_FIRST", 0x84, 0x0, 1, [ro 0 8 0, ro 8 2 0, w1c 31 1 0]⟩ ] ++
  [ ⟨"FLT_CNT_SEL", 0x88, 0x0, 1, [rw 0 8 0]⟩,
    ⟨"FLT_CNT", 0x8c, 0x0, 1, [ro 0 16 0]⟩,
    ⟨"FLT_SWRAISE", 0x90, 0x0, 1, [wo 0 8 0, wo 8 1 0]⟩,
    ⟨"FLT_INJECT", 0x94, 0x0, 1, [wo 0 8 0, wo 8 1 0]⟩ ]

def crumbRegs : List RegRow :=
  [ ⟨"CRUMB_CFG", 0x0, 0x0, 1, [rw 0 8 10]⟩,
    ⟨"CRUMB_SEQ", 0x4, 0x0, 1, [ro 0 32 0]⟩,
    ⟨"CRUMB_STAT", 0x8, 0x0, 1, [ro 0 6 0, ro 6 1 0, ro 7 1 1, ro 8 1 0, ro 9 1 0]⟩,
    ⟨"CRUMB_LOST", 0xc, 0x0, 1, [ro 0 32 0]⟩,
    ⟨"CRUMB_SW_D", 0x20, 0x4, 8, [rw 0 32 0]⟩,
    ⟨"CRUMB_SW_CMD", 0x40, 0x0, 1, [wo 0 8 0]⟩,
    ⟨"CRUMB_SW_RES", 0x44, 0x0, 1, [ro 0 2 0]⟩ ]

def dmaRegs : List RegRow :=
  [ ⟨"DMA_CTRL", 0x0, 0x0, 1, [rw 1 1 0]⟩,
    ⟨"DMA_STAT", 0x4, 0x0, 1, [w1c 0 1 0, ro 8 5 0, ro 16 9 0]⟩,
    ⟨"DMA_ERR_ADDR_LO", 0x8, 0x0, 1, [ro 0 32 0]⟩,
    ⟨"DMA_ERR_ADDR_HI", 0xc, 0x0, 1, [ro 0 32 0]⟩,
    ⟨"DMA_ERR_INFO", 0x10, 0x0, 1, [ro 0 1 0, ro 1 1 0, ro 2 1 0, ro 3 1 0, ro 4 5 0, ro 16 16 0]⟩,
    ⟨"DMA_IRQ", 0x14, 0x0, 1, [w1c 0 24 0]⟩,
    ⟨"DMA_IRQ_ERR", 0x18, 0x0, 1, [w1c 0 24 0]⟩,
    ⟨"DMA_IEN", 0x1c, 0x0, 1, [rw 0 24 0]⟩,
    ⟨"DMA_DOORBELL", 0x20, 0x0, 1, [wo 0 8 0]⟩,
    ⟨"DMA_RGN0_BASE", 0x40, 0x0, 1, [rw 12 20 0x10000]⟩,
    ⟨"DMA_RGN0_LIMIT", 0x44, 0x0, 1, [rw 12 20 0x107ff]⟩,
    ⟨"DMA_RGN0_ATTR", 0x48, 0x0, 1, [rw 0 4 15, rw 31 1 1]⟩,
    ⟨"DMA_RGN_BASE", 0x50, 0x10, 7, [rw 12 20 0]⟩,
    ⟨"DMA_RGN_LIMIT", 0x54, 0x10, 7, [rw 12 20 0]⟩,
    ⟨"DMA_RGN_ATTR", 0x58, 0x10, 7, [rw 0 4 0, rw 31 1 0]⟩,
    ⟨"DMA_PACE_CFG", 0x100, 0x10, 16, [rw 0 4 0, rw 8 12 0, rw 20 12 1]⟩ ] ++
  [ ⟨"DMA_PACE_LEVEL", 0x104, 0x10, 16, [ro 0 24 0, ro 31 1 0]⟩,
    ⟨"DMA_PACE_ADD", 0x108, 0x10, 16, [wo 0 24 0]⟩,
    ⟨"DMA_BCH_CFG", 0x400, 0x40, 16, [rw 0 2 0, rw 2 2 0, rw 4 1 0, rw 5 1 0, rw 6 1 0, rw 7 1 0, rw 8 1 0, rw 9 1 0, rw 10 4 0, rw 14 1 0]⟩,
    ⟨"DMA_BCH_SRC_LO", 0x404, 0x40, 16, [rw 0 32 0]⟩,
    ⟨"DMA_BCH_CUR_SRC_LO", 0x420, 0x40, 16, [rw 0 32 0]⟩,
    ⟨"DMA_BCH_SRC_HI", 0x408, 0x40, 16, [rw 0 32 0]⟩,
    ⟨"DMA_BCH_CUR_SRC_HI", 0x424, 0x40, 16, [rw 0 32 0]⟩,
    ⟨"DMA_BCH_DST_LO", 0x40c, 0x40, 16, [rw 0 32 0]⟩,
    ⟨"DMA_BCH_CUR_DST_LO", 0x428, 0x40, 16, [rw 0 32 0]⟩,
    ⟨"DMA_BCH_DST_HI", 0x410, 0x40, 16, [rw 0 32 0]⟩,
    ⟨"DMA_BCH_CUR_DST_HI", 0x42c, 0x40, 16, [rw 0 32 0]⟩,
    ⟨"DMA_BCH_COUNT", 0x414, 0x40, 16, [rw 0 24 0]⟩,
    ⟨"DMA_BCH_CUR_COUNT", 0x430, 0x40, 16, [rw 0 24 0]⟩,
    ⟨"DMA_BCH_CMD", 0x418, 0x40, 16, [wo 0 4 0]⟩,
    ⟨"DMA_BCH_STAT", 0x41c, 0x40, 16, [ro 0 3 0, ro 4 4 0, w1c 8 1 0, ro 16 6 0]⟩,
    ⟨"DMA_PCH_PC", 0x800, 0x20, 8, [rw 2 30 0]⟩ ] ++
  [ ⟨"DMA_PCH_KBASE", 0x804, 0x20, 8, [rw 9 23 0x83bf0 1]⟩,
    ⟨"DMA_PCH_CFG", 0x808, 0x20, 8, [rw 0 1 0, rw 1 4 0, rw 5 1 0]⟩,
    ⟨"DMA_PCH_CMD", 0x80c, 0x20, 8, [wo 0 4 0]⟩,
    ⟨"DMA_PCH_STAT", 0x810, 0x20, 8, [ro 0 4 0, ro 4 4 0, ro 8 8 0, ro 16 1 0, w1c 17 1 0]⟩,
    ⟨"DMA_PCH_CUR_PC", 0x814, 0x20, 8, [ro 2 30 0]⟩ ]

def pcieRegs : List RegRow :=
  [ ⟨"PCIE_STAT", 0x0, 0x0, 1, [ro 0 1 0, ro 1 2 0, ro 3 2 0]⟩,
    ⟨"PCIE_WIN0_BASE", 0x10, 0x0, 1, [rw 20 12 256]⟩,
    ⟨"PCIE_WIN1_BASE", 0x14, 0x0, 1, [rw 20 12 512]⟩,
    ⟨"PCIE_WIN2_BASE", 0x18, 0x0, 1, [rw 20 12 640]⟩,
    ⟨"PCIE_WIN3_BASE", 0x1c, 0x0, 1, [rw 20 12 768]⟩,
    ⟨"PCIE_SRCMAP", 0x100, 0x4, 8, [rw 0 5 0 1, rw 31 1 1]⟩,
    ⟨"PCIE_SRCMAP", 0x120, 0x4, 1, [rw 0 5 31, rw 31 1 1]⟩,
    ⟨"PCIE_SRCMAP", 0x124, 0x4, 8, [rw 0 5 8 1, rw 31 1 1]⟩,
    ⟨"PCIE_SRCMAP", 0x144, 0x4, 8, [rw 0 5 8 1, rw 31 1 1]⟩,
    ⟨"PCIE_SRCMAP", 0x164, 0x4, 8, [rw 0 5 8 1, rw 31 1 1]⟩,
    ⟨"PCIE_SRCMAP", 0x184, 0x4, 6, [rw 0 5 16 1, rw 31 1 1]⟩,
    ⟨"PCIE_SRCMAP", 0x19c, 0x4, 9, [rw 0 5 0, rw 31 1 1]⟩ ]

def hspiRegs : List RegRow :=
  [ ⟨"HSPI_STAT", 0x0, 0x0, 1, [ro 0 11 0, ro 16 11 0]⟩,
    ⟨"HSPI_CNT", 0x4, 0x0, 1, [w1c 0 16 0, w1c 16 16 0]⟩,
    ⟨"HSPI_FRAME", 0x100, 0x0, 1, [rw 0 32 0]⟩ ]

def huartRegs : List RegRow :=
  [ ⟨"HUART_BAUD", 0x0, 0x0, 1, [rw 0 24 0x1c200]⟩,
    ⟨"HUART_STAT", 0x4, 0x0, 1, [ro 0 12 0]⟩,
    ⟨"HUART_CNT", 0x8, 0x0, 1, [w1c 0 16 0, w1c 16 16 0]⟩ ]

def svcRegs : List RegRow :=
  [ ⟨"SVC_STAT", 0x0, 0x0, 1, [ro 0 1 0, ro 1 2 0, ro 4 4 0, ro 8 8 0]⟩,
    ⟨"SVC_CNT", 0x4, 0x0, 1, [w1c 0 16 0, w1c 16 16 0]⟩,
    ⟨"SVC_CMD", 0x8, 0x0, 1, [wo 0 1 0]⟩ ]

def bootRegs : List RegRow :=
  [ ⟨"BOOT_STAT", 0x0, 0x0, 1, [ro 0 2 0, ro 2 2 0, ro 4 1 0, ro 5 2 0, ro 8 8 0, ro 16 2 3, ro 18 2 0]⟩,
    ⟨"BOOT_SLOTS", 0x4, 0x0, 1, [ro 0 3 0, ro 4 3 0]⟩,
    ⟨"BOOT_TRIAL_REM", 0x8, 0x0, 1, [ro 0 16 0]⟩,
    ⟨"BOOT_HEALTH_CONFIRM", 0xc, 0x0, 1, [ro 0 2 0, wo 16 16 0]⟩,
    ⟨"BOOT_STRAP", 0x20, 0x0, 1, [ro 0 2 0, ro 2 2 0]⟩,
    ⟨"BOOT_VERSION", 0x10, 0x0, 1, [ro 0 32 0]⟩,
    ⟨"BOOT_UID_LO", 0x14, 0x0, 1, [ro 0 32 0]⟩,
    ⟨"BOOT_UID_HI", 0x18, 0x0, 1, [ro 0 32 0]⟩,
    ⟨"BOOT_NONCE", 0x1c, 0x0, 1, [ro 0 32 0]⟩ ]

def padRegs : List RegRow :=
  [ ⟨"PAD_CLAIM", 0x0, 0x0, 1, [wo 0 16 0, wo 16 2 0]⟩,
    ⟨"PAD_CLAIM_RES", 0x4, 0x0, 1, [ro 0 3 0]⟩,
    ⟨"PAD_QUERY", 0x8, 0x0, 1, [rw 0 16 0, ro 16 6 0, ro 22 1 0]⟩,
    ⟨"PAD_FUNC", 0x100, 0x4, 64, [rw 0 4 0, rw 4 2 0, rw 6 2 1, rw 8 1 1]⟩ ]

def monRegs : List RegRow :=
  [ ⟨"MON_TEMP", 0x0, 0x4, 8, [ro 0 12 0, ro 31 1 0]⟩,
    ⟨"MON_TEMP_MAX", 0x20, 0x0, 1, [ro 0 12 0, ro 16 3 0]⟩,
    ⟨"MON_VCORE", 0x40, 0x0, 1, [ro 0 12 0, ro 16 12 0, ro 31 1 0]⟩,
    ⟨"MON_EVT", 0x44, 0x0, 1, [w1c 0 1 0, w1c 1 1 0]⟩ ]

end Rows

open Rows

/-- Every register block (R414). -/
def blocks : List BlockRow :=
  [ ⟨"SYS", 0x40000000, 0, none, sysRegs⟩,
    ⟨"PWR", 0x40010000, 0, none, pwrRegs⟩,
    ⟨"PRF", 0x40020000, 1, none, prfRegs⟩,
    ⟨"CLK", 0x40030000, 1, (some 0), clkRegs⟩,
    ⟨"LO1PLL", 0x40040000, 1, (some 0), pllRegs false 2 0⟩,
    ⟨"LO2PLL", 0x40041000, 1, (some 0), pllRegs false 2 0⟩,
    ⟨"LO5PLL", 0x40042000, 1, (some 0), pllRegs false 2 0⟩,
    ⟨"SPLL", 0x40043000, 1, (some 0), pllRegs false 16 8⟩,
    ⟨"CPLL", 0x40044000, 1, (some 0), pllRegs true 2 6⟩,
    ⟨"NPLL", 0x40045000, 1, (some 0), pllRegs false 20 25⟩,
    ⟨"RFP0", 0x40050000, 3, (some 0), rfpRegs⟩,
    ⟨"RFP1", 0x40051000, 4, (some 0), rfpRegs⟩,
    ⟨"RFP2", 0x40052000, 5, (some 0), rfpRegs⟩,
    ⟨"RFP3", 0x40053000, 6, (some 0), rfpRegs⟩,
    ⟨"INJ", 0x40058000, 7, (some 0), injRegs⟩,
    ⟨"ADC", 0x40060000, 1, (some 0), adcRegs⟩ ] ++
  [ ⟨"CHZ", 0x40070000, 7, (some 1), chzRegs⟩,
    ⟨"SIEVE", 0x40078000, 7, (some 1), sieveRegs⟩,
    ⟨"RING", 0x40080000, 7, (some 1), ringRegs⟩,
    ⟨"POD0", 0x40090000, 8, (some 1), podRegs⟩,
    ⟨"POD1", 0x40091000, 9, (some 1), podRegs⟩,
    ⟨"POD2", 0x40092000, 10, (some 1), podRegs⟩,
    ⟨"POD3", 0x40093000, 11, (some 1), podRegs⟩,
    ⟨"POD4", 0x40094000, 12, (some 1), podRegs⟩,
    ⟨"POD5", 0x40095000, 13, (some 1), podRegs⟩,
    ⟨"TRK", 0x400A0000, 1, (some 1), trkRegs⟩,
    ⟨"MILL", 0x400B0000, 14, (some 1), millRegs⟩,
    ⟨"LYZ", 0x400C0000, 1, none, lyzRegs⟩,
    ⟨"TXN", 0x400D0000, 1, none, txnRegs⟩,
    ⟨"KYO", 0x400E0000, 15, (some 2), kyoRegs⟩,
    ⟨"TP", 0x400E1000, 15, (some 2), tpRegs⟩,
    ⟨"CAPTRG", 0x400E2000, 15, (some 2), captrgRegs⟩ ] ++
  [ ⟨"NET", 0x400F0000, 16, (some 3), netRegs⟩,
    ⟨"NP0", 0x400F1000, 16, (some 3), npRegs [78400, 176000, 232000, 792000] [102400, 264000, 344000, 1144000]⟩,
    ⟨"NP1", 0x400F2000, 16, (some 3), npRegs [78400, 176000, 232000, 792000] [102400, 264000, 344000, 1144000]⟩,
    ⟨"NP2", 0x400F3000, 16, (some 3), npRegs [0, 4000, 40000, 400000] [0, 6000, 60000, 600000]⟩,
    ⟨"NP3", 0x400F4000, 0, (some 3), np3Regs⟩,
    ⟨"PTPA", 0x400F8000, 16, (some 3), ptpaRegs⟩,
    ⟨"RTC", 0x40100000, 0, none, rtcRegs⟩,
    ⟨"CAL", 0x40101000, 0, none, calRegs⟩,
    ⟨"LEDGER", 0x40102000, 0, none, ledgerRegs⟩,
    ⟨"OCQ", 0x40110000, 2, none, ocqRegs⟩,
    ⟨"FLT", 0x40111000, 2, none, fltRegs⟩,
    ⟨"CRUMB", 0x40112000, 0, none, crumbRegs⟩,
    ⟨"DMA", 0x40120000, 18, none, dmaRegs⟩,
    ⟨"PCIE", 0x40130000, 17, none, pcieRegs⟩,
    ⟨"HSPI", 0x40131000, 17, none, hspiRegs⟩,
    ⟨"HUART", 0x40132000, 17, none, huartRegs⟩ ] ++
  [ ⟨"SVC", 0x40140000, 0, none, svcRegs⟩,
    ⟨"BOOT", 0x40141000, 0, none, bootRegs⟩,
    ⟨"PAD", 0x40150000, 1, none, padRegs⟩,
    ⟨"MON", 0x40160000, 1, none, monRegs⟩ ]

/-- The block whose 4 KiB page holds address `a`. -/
def blockOf (a : Nat) : Option BlockRow := blocks.find? fun b => decide (b.base = a / 0x1000 * 0x1000)

/-- Does the row name offset `o`? -/
def RegRow.covers (r : RegRow) (o : Nat) : Bool :=
  if r.stride = 0 then decide (o = r.off)
  else decide (r.off ≤ o) && decide ((o - r.off) % r.stride = 0) && decide ((o - r.off) / r.stride < r.count)

/-- Which repeat of the row offset `o` is. -/
def RegRow.index (r : RegRow) (o : Nat) : Nat := if r.stride = 0 then 0 else (o - r.off) / r.stride

/-- The row of the register at word address `a`, if a register is there. -/
def rowOf (a : Nat) : Option RegRow := do
  let b ← blockOf a
  b.regs.find? (·.covers (a - b.base))

/-- A field's value put at its bits. -/
def atBits (lo w v : Nat) : Word := BitVec.ofNat 32 ((v % 2 ^ w) <<< lo)

/-- The register's value right after its reset, from its table. -/
def RegRow.resetWord (r : RegRow) (o : Nat) : Word :=
  r.fields.foldl (fun acc f => acc ||| atBits f.lo f.w (f.reset + f.step * r.index o)) 0

/-- The Reset column of the register at address `a` (R430); 0 where no register is. -/
def resetOf (a : Nat) : Word :=
  match rowOf a with
  | none => 0
  | some r => r.resetWord (a % 0x1000)

/-- The bits of the register's fields that have one of the given access codes. -/
def RegRow.mask (r : RegRow) (p : Acc → Bool) : Word :=
  r.fields.foldl (fun acc f => if p f.acc then acc ||| atBits f.lo f.w (2 ^ f.w - 1) else acc) 0

/-- The power domain of the register at `a` (R417: the ADCm registers lie in RF(m ÷ 3)). -/
def domainOf (a : Nat) : Option Nat := do
  let b ← blockOf a
  if b.base = 0x40060000 ∧ 0x100 ≤ a - b.base ∧ a - b.base < 0x1C0 then some (3 + (a - b.base - 0x100) / 0x30) else some b.pd

/-- The transaction domain of the RWT fields of the register at `a` (R32). -/
def tdOf (a : Nat) : Option Nat := do
  let b ← blockOf a
  b.td

end Sys2Proof.Machine
end

