-- ==== Sys2Proof/Machine/State.lean ====
section
/-! DEFINITION. Everything the spec gives the block to remember, as plain data, and its value right after VDD_AON power-up.
Registers and memory are kept sparse: an entry is listed only where it differs from its reset value (registers) or from
what memory nothing has written reads as: zero, or a free value where the memory lost power (log 3). Registers whose content is a view of richer state (a transaction's state, DT, the RTC count) are
computed on a read by Machine/Bus.lean from the structures here. -/

namespace Sys2Proof.Machine

/-- Why the machine stops with a fault. No command of this block faults: the spec gives every one of them an effect. -/
inductive Fault where
  /-- Raised by nobody: the spec describes no stop of the block. Safe. -/
  | none
  deriving DecidableEq, Repr

/-- Why a command is refused a meaning. -/
inductive Refusal where
  /-- Raised by an arm of the dispatcher whose command has no meaning yet. Safe. -/
  | notModelled (mnemonic : String)
  deriving DecidableEq, Repr

/-- How the last access was answered on its interface (R30, R45, R415). -/
inductive AccStatus where
  | none | ok | offBlock | noMap | refused | tgtErr
  deriving DecidableEq, Repr

/-- The answer to the last access: who issued it, how it ended, the result code of a refusal and the value read. -/
structure Answer where
  owner : Nat := 0
  status : AccStatus := .none
  code : Nat := 0
  value : Word := 0
  deriving DecidableEq, Repr

/-- What the device sends: a host frame (R27) by its type; a service reply over SVC (R387), whole from its sync bytes, by 0x80 plus its command; a PCIe or Ethernet
message by a kind of its own: 0x100 + p a frame leaving port p, 0x200 an NTP reply, 0x201 a unicast GRANT, 0x202 an ESMC PDU, 0x203 a
peer report's datagram, 0x104 a frame for firmware (log 141), 0x204 a PTP alarm event (R282, R307). The payload is bytes. -/
structure OutFrame where
  kind : Nat
  payload : List Nat
  deriving DecidableEq, Repr

/-- The strap balls as the board holds them (R23, R58, R376): HOSTIF_SEL, REF_SEL and BOOT_SEL. Each reset release samples them. -/
structure Straps where
  hostif : Nat := 0
  ref : Nat := 0
  boot : Nat := 0
  /-- The frequency at the REFIN balls in kHz, which only REF_SEL 0b111 leaves to the board. -/
  refKhz : Nat := 10000
  /-- The supply of VDDIO_A and of VDDIO_B in 0.1 V, 18 or 33 (R398); any other value lies in neither range. -/
  banks : List Nat := [33, 33]
  deriving DecidableEq, Repr

/-! ### Transactions and claims (02) -/

/-- The states of TXN_STATn.STATE. -/
inductive TxnState where
  | idle | opened | armed | failed | landing
  deriving DecidableEq, Repr

/-- One journaled write (R34). -/
structure JEntry where
  addr : Nat
  value : Word
  deriving DecidableEq, Repr

/-- One transaction domain (R33–R43). `at0` is the armed kind, `target` the armed DT in 2^-32 ns or, armed for TP0, the TP0 edges
there had been; `afterAbort` is E04. -/
structure Txn where
  state : TxnState := .idle
  owner : Nat := 0
  journal : List JEntry := []
  at0 : Bool := false
  target : Nat := 0
  afterAbort : Bool := false
  deriving DecidableEq, Repr

/-! ### Crumbs and faults (16) -/

/-- A crumb request as it waits in the queue: everything but the SEQ it will take (R356). -/
structure Crumb where
  type : Nat
  source : Nat := 0xFF
  owner : Nat := 0
  dtValid : Bool := false
  dtNs : Nat := 0
  dtSec : Nat := 0
  rtcSec : Nat := 0
  rtcFrac : Nat := 0
  payload : List Word := []
  deriving DecidableEq, Repr

/-- The crumb writer (R357, R358): queue, the slot of POWER_LOSS, losses since the last LOST crumb, and per FLT source the
XTAL32 tick (plus one) at which its last FAULT_RAISE crumb was accepted. -/
structure CrumbSt where
  queue : List Crumb := []
  powerLoss : Option Crumb := none
  lostSince : Nat := 0
  raisedAt : Sparse Nat := []
  /-- The SEQ of the crumb at the head of the queue, whose write a POWER_LOSS crumb cut short (R358). -/
  abandoned : Option Nat := none
  /-- Per owner and number: the CRUMB_SW_Dn words (key owner * 16 + n) and CRUMB_SW_RES (key owner). -/
  swData : Sparse Word := []
  swRes : Sparse Nat := []
  deriving DecidableEq, Repr

/-- The safety island and the fault collector beyond their registers (R345–R354). -/
structure SafetySt where
  /-- Levels the raising units hold, by source; FLT samples them while OCQ is in Run. -/
  level : Sparse Nat := []
  /-- The detail words that the raising unit gave with a source that is high (R356). -/
  detail : Sparse (Word × Word) := []
  /-- FLT_CNT of every source. -/
  count : Sparse Nat := []
  /-- FATAL is recorded in LEAVEN (R345), with the CAUSE it took. -/
  fatal : Bool := false
  fatalCause : Nat := 0
  /-- XTAL32 tick of the last class A rise or safe-state entry. -/
  lastRise : Nat := 0
  /-- The first self-test since the island started has passed (R354). -/
  selfTested : Bool := false
  /-- What LEAVEN has decided for each I/O bank, in 0.1 V, 0 before it has (R400), and the banks outside their window. -/
  banks : List Nat := [33, 33]
  banksOut : List Nat := []
  /-- The source that the self-test now tests, and those whose test is to be rerun once they have fallen (R346, R359). -/
  testing : Option Nat := none
  retest : List Nat := []
  /-- An alarm stands to cores 0–3. -/
  coreAlarm : Bool := false
  deriving DecidableEq, Repr

/-! ### Kyonino (12) -/

/-- Device time and its discipline (R261–R284). Times are in units of 2^-32 ns. -/
structure Kyo where
  /-- DT exists: the rebuild after TIME entered Run has been done (R284). -/
  valid : Bool := false
  dt : Nat := 0
  /-- The 16-bit accumulator of the addend's extension. -/
  ext : Nat := 0
  mono : Nat := 0
  /-- Pending slew, in 1/1,875 of 2^-32 ns, and the part of its share not yet carried into DT. -/
  slew : Int := 0
  slewFrac : Int := 0
  /-- The armed step in ns, and the FCLK at which it was armed. -/
  step : Option Int := none
  stepArmedAt : Nat := 0
  /-- The last step applied: its FCLK, and its size in ns (R285). -/
  stepped : Option (Nat × Int) := none
  /-- Re-alignment cycle steps that have not yet entered an addend (R283). -/
  cycles : Int := 0
  /-- Milliseconds since HOLDOVER or FREERUN was entered (R280). -/
  holdMs : Nat := 0
  /-- In SPLL bypass: what the reference count has not yet carried into DT and into the FCLK count (R64). -/
  dtRem : Nat := 0
  nowRem : Nat := 0
  /-- Sync intervals of SUSPECT still to run, and a master under rejection (R282). -/
  suspectLeft : Nat := 0
  rejected : Bool := false
  /-- The reading owners' latches of R262 and R264. -/
  dtLatch : Sparse Nat := []
  monoLatch : Sparse Nat := []
  deriving DecidableEq, Repr

/-- LEAVEN's record of R284: MONO_NS (2^-32 ns), the RTC (2^-32 s) and KYO_RTC_PPB, taken at one tick. -/
structure TimeRecord where
  mono : Nat
  rtc : Nat
  ppb : Nat
  deriving DecidableEq, Repr

/-- A calibration table of one pulse converter (R268): the delay of each fine code and of the way to the ball, in ps. -/
structure TpTable where
  code : List Nat := []
  dOut : Nat := 0
  deriving DecidableEq, Repr

/-- A pulse output beyond its registers. Real time is counted in FCLK periods (State.now) and a fine delay in ps. -/
structure Pulse where
  /-- The ball is in its active phase, which began at this FCLK and fine delay. -/
  active : Bool := false
  edgeNow : Nat := 0
  edgePs : Nat := 0
  /-- An edge has been placed since the output was enabled. -/
  placed : Bool := false
  /-- The ideal DT of the active edge last placed, and that of the end of its phase, with the COMP in ps that both are placed with. -/
  riseAt : Nat := 0
  fallAt : Nat := 0
  comp : Int := 0
  /-- The period in force at the last edge, for the spacing rule across a reconfiguration. -/
  lastPeriod : Nat := 0
  /-- Grid edges that count as TP edges so far (squelched ones too), and the FCLK of the last. -/
  edges : Nat := 0
  gridNow : Nat := 0
  /-- The first edge of the DT second it lies in: its ideal DT in ns, its quantisation error, and whether it was squelched (R238). -/
  secAt : Option Nat := none
  /-- The ideal DT in ns of the last grid edge that counted. -/
  gridAt : Nat := 0
  secQerr : Int := 0
  secSquelched : Bool := false
  /-- The active edge last placed, whose loopback measurement is awaited. -/
  expect : Bool := false
  table : TpTable := {}
  /-- The FCLK from which neither its converter nor its loopback ladder holds a loaded edge (R268). -/
  freeFrom : Nat := 0
  deriving DecidableEq, Repr

/-- One captured edge (R271), its DT in 2^-32 ns. -/
structure Capture where
  dt : Nat
  rising : Bool
  byp : Bool
  deriving DecidableEq, Repr

/-- A capture channel: its FIFO and the real time of the ladder's last edge, in
1/192 ps. -/
structure CapCh where
  fifo : List Capture := []
  lastNow : Option Nat := none
  deriving DecidableEq, Repr

/-- A trigger beyond its registers (R273): the armed target in 2^-32 ns; `pinUntil` is the FCLK at which a PIN pulse ends. -/
structure Trig where
  target : Nat := 0
  pinUntil : Nat := 0
  /-- Domains this trigger's WAKE action votes for (R274). -/
  votes : Nat := 0
  deriving DecidableEq, Repr

/-- Everything of Kyonino's three blocks that is not a register. -/
structure TimeSt where
  kyo : Kyo := {}
  pulses : Sparse Pulse := []
  caps : Sparse CapCh := []
  trigs : Sparse Trig := []
  /-- A calibration's new tables wait for their swap: of the pulse converters, and of the nine capture and four loopback ladders (R268). -/
  newTables : Option (List TpTable) := none
  newLadders : List (List Nat) := []
  ladders : List (List Nat) := []
  /-- The first calibration after TIME entered Run has been swapped in, or has failed. -/
  calibrated : Bool := false
  record : Option TimeRecord := none
  deriving DecidableEq, Repr

/-! ### Clocks and the RF front end (03, 04) -/

/-- One ADPLL beyond its registers (R59–R71). -/
structure Pll where
  /-- The lock sequence of R59 is running. -/
  locking : Bool := false
  /-- A RELOCK is remembered (R61). -/
  relock : Bool := false
  /-- The LF, LOCKCFG and SSC words in force; the registers hold the committed ones (R71). -/
  lf : Word := 0
  lockcfg : Word := 0x0A040014
  ssc : Word := 0x1E00
  /-- The band entry a BANDCAL is running. -/
  calEntry : Nat := 0
  /-- The reference input in use; FAILOVER may have moved it from REFSEL. -/
  input : Nat := 0
  /-- CLAMP of the entry selected, as it was at the selection (R56, R71). -/
  clamp : Nat := 0
  /-- The residual that becomes readable at the end of 256 epochs, and the FCLK of that moment (R67). -/
  phaseDue : Option (Nat × Nat) := none
  deriving DecidableEq, Repr

/-- One aerial port beyond its registers (R81–R87). -/
structure Port where
  /-- Consecutive samples below 2 mA and above 120 mA, and consecutive estimates below THR. -/
  openRun : Nat := 0
  shortRun : Nat := 0
  lowRl : Nat := 0
  /-- The tuner code in force: C_SER and C_SHUNT. -/
  ser : Nat := 32
  shunt : Nat := 32
  /-- AUTOTUNE ran at the last boundary, so the running blocks are marked TUNER. -/
  tuning : Bool := false
  /-- The gains in force, by group. -/
  gain : Sparse Nat := []
  deriving DecidableEq, Repr

/-- A command of INJ_CMD that waits (R93). -/
structure InjWait where
  start : Bool
  mask : Nat
  deriving DecidableEq, Repr

/-- Clocks, ports, calibration and injection (03, 04). -/
structure RfSt where
  plls : Sparse Pll := []
  ports : Sparse Port := []
  injWait : Option InjWait := none
  /-- LO calibrations running now, by group, and the reference temperature of each group (0.25 °C plus 2,048; unset 0). -/
  calRunning : Sparse Nat := []
  calTemp : Sparse Nat := []
  /-- Quiet-slot wait of each pending request, in slices. -/
  quietWait : Sparse Nat := []
  /-- The FCLK (plus one) at which a P0 track of each group last had an invalid block (R324). -/
  badAt : Sparse Nat := []
  /-- Reference inputs that are absent or out of range, 1 each: 0 REFIN_A, 1 REFIN_B (R19, R72). -/
  refGone : Sparse Nat := []
  /-- The FCLK at which a reference input was last qualified by the clock monitor, in range for 10 ms by then (R62). -/
  okAt : Sparse Nat := []
  /-- Re-locks and calibrations of each LO so far (R242). -/
  loMoves : Sparse Nat := []
  deriving DecidableEq, Repr

/-! ### Streams, ring and fabric (05, 06) -/

/-- The configuration of a stream that a start or restart adopts (R105). -/
structure StreamCfg where
  rate : Nat := 0
  adc : Nat := 0
  freq : Word := 0
  base : Nat := 0
  depth : Nat := 4
  deriving DecidableEq, Repr

/-- A block descriptor (R110), with whether the block is complete and its sweep window still open (R11). -/
structure Block where
  seq : Nat
  /-- Its stream's configuration, the SCLK count of its boundary (R102), and the pulse blanker and QTARGET adopted there (R105). -/
  cfg : StreamCfg := {}
  start : Nat := 0
  pbCfg : Word := 0
  pbExt : Word := 0
  qtarget : Nat := 0
  /-- σ that its samples are judged by, and samples at its start that a crossing in the block before still blanks (R108). -/
  sigmaIn : Nat := 0
  leftIn : Nat := 0
  /-- DT of the tag, in 2^-32 ns. -/
  tag : Nat
  blank16 : Nat := 0
  sigma : Nat := 0
  /-- FLAGS [7:1] of R111; VALID is the absence of every reason. -/
  reasons : Nat := 0
  notch : Nat := 0
  /-- Frequency and −3 dB width in Hz of each engaged notch of its ADC (R107). -/
  stops : List (Word × Nat) := []
  gain : Nat := 0
  scale : Nat := 0
  /-- Its millisecond of sampling is over; its last sample is written; it is in its sweep window. -/
  ended : Bool := false
  complete : Bool := false
  window : Bool := true
  /-- The last block before a restart. -/
  last : Bool := false
  /-- It has left its window, and its tracks have been advanced over it. -/
  passed : Bool := false
  deriving DecidableEq, Repr

/-- A stream: the configuration adopted at a grid boundary (R105), the blocks in their windows or not yet complete, and the most recent
complete block. -/
structure Stream where
  cfg : StreamCfg := {}
  nextSeq : Nat := 0
  /-- Newest first. -/
  blocks : List Block := []
  newest : Option Block := none
  deriving DecidableEq, Repr

/-- A pinned block (R114). -/
structure Pin where
  stream : Nat
  /-- Its descriptor, copied with the pin. -/
  block : Block
  /-- The replica slot of the Mill entry that copies it, none once the capture has failed, and the FCLK of the grant. -/
  entry : Option Nat
  since : Nat
  deriving DecidableEq, Repr

/-- The sample path beyond its registers. -/
structure SampleSt where
  streams : Sparse Stream := []
  pin0 : Option Pin := none
  pin1 : Option Pin := none
  /-- Invalid reasons gathered for the running millisecond, by ADC, and reasons for every stream. -/
  adcReasons : Sparse Nat := []
  /-- The grid's SCLK count since SPLL last left OFF, at the last boundary (R100, R102). -/
  gridCount : Nat := 0
  /-- The FCLK of the last boundary. -/
  boundaryNow : Nat := 0
  /-- Spans blanked by BLANK0–BLANK3, by ADC: from and to, in SCLK periods of the grid (R97). -/
  blanked : Sparse (List (Nat × Nat)) := []
  /-- SIEVE_NTm_j_CFG and _FREQ as adopted, by notch, and RING_CTRL (R105). -/
  notchCfg : Sparse Word := []
  notchFreq : Sparse Word := []
  ringCtrl : Word := 0x6432
  deriving DecidableEq, Repr

/-- A running sweep of a pod: the block, the tracks on its lanes and the lane the husk checks (R116, R144). -/
structure Sweep where
  stream : Nat
  seq : Nat
  lanes : List (Nat × Nat)
  husk : Nat
  deriving DecidableEq, Repr

/-- A pod beyond its registers. -/
structure Pod where
  sweep : Option Sweep := none
  /-- The lane the husk checked last (R144). -/
  lastLane : Nat := 7
  /-- The FCLK of each lane's last compare (R145). -/
  compared : Sparse Nat := []
  /-- Retries of these lanes have failed; the self-check that decides comes next (R146). -/
  verdict : List Nat := []
  /-- The track with which each SUSPECT lane's compare failed, plus 1 (R424). -/
  failed : Sparse Nat := []
  /-- Tracks listed for their program, in stack-close order (R134, R159). -/
  listed : List Nat := []
  /-- The lines of the program store that its program cache holds, at most 512 (R160; log 12). -/
  cache : List Nat := []
  /-- Sweeps, self-checks, sweep FCLK and sequencer cycles of the running millisecond. -/
  sweeps : Nat := 0
  selfchk : Nat := 0
  sweepFclk : Nat := 0
  seqCycles : Nat := 0
  deriving DecidableEq, Repr

/-- Of a track since its last framed record: blocks, valid dumps and the sum of their BLANK16; blocks in a row without a valid dump, held at
200, and whether they came to 200 (R236). -/
structure SinceRecord where
  blocks : Nat := 0
  dumps : Nat := 0
  blank : Nat := 0
  missing : Nat := 0
  gap : Bool := false
  deriving DecidableEq, Repr

/-- A track beyond its context (R134, R142). -/
structure TrackRt where
  /-- Its program runs or waits for a sequencer. -/
  busy : Bool := false
  stopping : Bool := false
  moveTo : Option Nat := none
  /-- The pending MOVE came by TRK_CMD, not from the Proofer. -/
  byCommand : Bool := false
  /-- Sum of BLANK16 over the stack's valid dumps. -/
  blankSum : Nat := 0
  /-- Its last stack has closed, and no block has opened the next (R134). -/
  closed : Bool := false
  /-- No block has been advanced over since START; its current symbol began with WIPE_VALID 0 (R131). -/
  fresh : Bool := false
  bare : Bool := false
  /-- Its blocks that the Proofer has admitted, each in the slice that began when it ended (R119, R319). -/
  admitted : List Nat := []
  /-- What its next record says of the time since the last one (R236). -/
  since : SinceRecord := {}
  /-- It has stopped, and firmware has not scanned it since (R242); re-locks and calibrations of its LO that its records show (R233). -/
  unscanned : Bool := false
  loSeen : Nat := 0
  deriving DecidableEq, Repr

/-- The fabric beyond registers and contexts. -/
structure FabricSt where
  pods : Sparse Pod := []
  tracks : Sparse TrackRt := []
  /-- Next word the scrubber reads (R141). -/
  scrubAt : Nat := 0
  deriving DecidableEq, Repr

/-! ### Hosts, claims and power (02, 14) -/

/-- The host interfaces beyond their registers (R23–R27, R427). -/
structure HostSt where
  /-- HOSTIF_SEL as sampled at the last reset release: 0 PCIe, 1 SPI, 2 UART, 3 none (log 4). -/
  sel : Nat := 0
  /-- The error bits of the SPI status byte: OFF_BLOCK [0], REFUSED [1], CRC_ERR [2]. -/
  spiStatus : Nat := 0
  hspiOut : List Word := []
  hspiIn : List Word := []
  uartRx : List Nat := []
  /-- The baud rate in force; HUART_BAUD holds the written one. -/
  uartRate : Nat := 115200
  /-- MSI-X (R25): mask bits (1 where none is listed, log 58), the function mask, pending bits, and messages sent, by vector. -/
  msixMasked : Sparse Nat := []
  functionMask : Bool := false
  msixPending : Sparse Nat := []
  msiSent : Sparse Nat := []
  /-- XTAL32 tick (plus one) of the last OFF_ACCESS crumb of each owner (R30). -/
  offCrumbAt : Sparse Nat := []
  deriving DecidableEq, Repr

/-- The claim table and Ocquel's preemptions, kept in LEAVEN (R46–R50, R431). -/
structure ClaimSt where
  /-- Owner of each claimed resource, by resource ID. -/
  owner : Sparse Nat := []
  /-- Resources Ocquel holds. -/
  preempted : Sparse Nat := []
  /-- PAD_CLAIM_RES and PAD_QUERY.RES_ID of each owner. -/
  result : Sparse Nat := []
  query : Sparse Nat := []
  deriving DecidableEq, Repr

/-- Power beyond its registers (R309–R324). -/
structure PowerSt where
  /-- PWR_VOTE_RES of each owner. -/
  noClient : Sparse Nat := []
  /-- The Ledger update of a Stop entry is running: wakes wait (R314). -/
  stopUpdate : Bool := false
  /-- Last track admitted at each priority (R320). -/
  lastAdmitted : Sparse Nat := []
  /-- Tracks admitted to sweep in the current slice, and pods a packing empties or fills (R323). -/
  slice : List Nat := []
  packFrom : Option Nat := none
  packTo : Option Nat := none
  /-- Client 6 holds one vote per domain for as long as any context does: contexts' votes by context * 32 + domain. -/
  ctxVotes : Sparse Nat := []
  /-- What the slice's ration still holds for the Mill, in 1/256 fJ; none where it is not limited (R320). -/
  millFunds : Option Nat := none
  /-- Bank 0 was retained when CORE went off (R317). -/
  bank0Kept : Bool := false
  /-- The XTAL32 ticks when TIME began to drain, and the grid's SCLK count when SAMPLE did (R312). -/
  drainTick : Nat := 0
  drainGrid : Nat := 0
  deriving DecidableEq, Repr

/-! ### Lyzovel engines (07, 08) -/

/-- What an engine that waits is waiting for (R183–R188). -/
inductive Wait where
  | none
  /-- waitq: source, destination register, and the FCLK at which it times out. -/
  | queue (src : Nat) (d : Nat) (limit : Option Nat)
  /-- waitt abs: DT target in 2^-32 ns. -/
  | dtAbs (target : Nat) (d : Nat)
  /-- waitt abs or rel issued before DT's rebuild, to be evaluated there (R284): seconds [31:0] and ns. -/
  | rebuild (abs : Bool) (sec ns : Nat) (d : Nat)
  /-- waitt tp: the next active edge of an output, which has had so many. -/
  | tp (n : Nat) (edges : Nat) (d : Nat)
  /-- waitt rel: a target of MONO_NS, in 2^-32 ns. -/
  | rel (target : Nat) (d : Nat)
  /-- txn.wait: a transaction domain. -/
  | txn (n : Nat) (d : Nat)
  /-- vote with wait: a domain. -/
  | vote (dom : Nat) (d : Nat)
  deriving DecidableEq, Repr

/-- One entry of an engine's loop stack (R179): first and last word of the body, iterations left, and how many calls were open. -/
structure LoopFrame where
  first : Nat
  last : Nat
  left : Nat
  depth : Nat := 0
  deriving DecidableEq, Repr

/-- An N-class effect of a track program, held until retire (R168, R169): a field of the context set, an add to the carrier rate,
the code rate or a tap, or symbols appended to the wipe buffer. -/
inductive NEffect where
  | set (off lo w x : Nat)
  | carrAdd (v : Int)
  | codeAdd (v : Int)
  | tapAdd (t : Nat) (v : Int)
  | wipe (bits : List Nat)
  deriving DecidableEq, Repr

/-- The state every Lyzovel engine has (R151, R174): registers, FL, next word, stacks, the wait and the run time. -/
structure Engine where
  /-- A track sequencer or context is executing; a DMA channel's state is its STAT register. -/
  on : Bool := false
  g : Sparse Word := []
  /-- FL: [0] SAT, [1] ZDEN, [2] the third flag of R154. -/
  fl : Nat := 0
  pc : Nat := 0
  loops : List LoopFrame := []
  calls : List Nat := []
  wait : Wait := .none
  /-- FCLK of running since entry or since the last wait, and the FCLK at which a context or channel began to run (R198). -/
  ran : Nat := 0
  since : Nat := 0
  /-- k0–k127 of a control context (R174); a DMA channel's and a track's k words lie in memory. -/
  k : Sparse Word := []
  /-- Bytes a paced move has written so far (R366). -/
  moved : Nat := 0
  /-- The track and the N effects of the running invocation. -/
  track : Nat := 0
  effects : List NEffect := []
  carrStep : Word := 0
  codeStep : Int := 0
  /-- The times a stamp latched (R186): DT and MONO_NS in 2^-32 ns. -/
  stampDt : Nat := 0
  stampMono : Nat := 0
  /-- TAG and IRQ of the command a context runs. -/
  tag : Nat := 0
  irq : Bool := false
  deriving DecidableEq, Repr

/-- All Lyzovel engines: 0–23 track sequencers (pod * 4 + n), 32–39 contexts, 40–47 DMA program channels. -/
structure LyzSt where
  engines : Sparse Engine := []
  deriving DecidableEq, Repr

/-! ### The Mill (09) -/

/-- One of the 16 most recent completed captures (R207). -/
structure MillCapture where
  addr : Nat
  stream : Nat
  blocks : Nat
  first : Nat
  tag : Nat
  rate : Nat
  deriving DecidableEq, Repr

/-- What an entry in flight is doing: waiting for a trigger, for the boundary that its first block begins at, capturing, waiting for
the capture of another entry, or searching. -/
inductive MillPhase where
  | trigger | boundary | capturing | reusing (slot : Nat) | searching
  deriving DecidableEq, Repr

/-- A plan entry in flight (R203–R212): its replica slot, the sixteen words fetched, the generator fields fetched (bytes 0x080–0x0D7
of GEN_TRACK's context), its capture and the sums of the bins that have run. -/
structure MillEntry where
  slot : Nat
  words : List Word
  gen : List Word
  phase : MillPhase
  stream : Nat
  rate : Nat
  addr : Nat
  blocks : Nat
  first : Nat := 0
  copied : Nat := 0
  tag : Option Nat := none
  nextBin : Nat := 0
  binsDone : Nat := 0
  sums : Sparse (List Nat) := []
  /-- The N points of its replica, made once, with its first bin (R210). -/
  replica : List (Int × Int) := []
  /-- Its stream had not started yet at the fetch. -/
  starting : Bool := false
  /-- Something wrote into an area that the Mill uses for it: its results are undefined (R202). -/
  spoiled : Bool := false
  deriving DecidableEq, Repr

structure MillSt where
  /-- In fetch order. -/
  entries : List MillEntry := []
  /-- Newest first. -/
  captures : List MillCapture := []
  /-- The bin each unit runs: slot * 256 + bin + 1. -/
  units : Sparse Nat := []
  /-- Cells of each unit's bin that the Proofer has not admitted yet (R218, R320). -/
  owed : Sparse Nat := []
  deriving DecidableEq, Repr

/-! ### Firmware services: measurements and integrity (10, 11) -/

/-- What a check excludes (R246): one signal on one port, a satellite, a chain, a band group, or every signal. -/
inductive Scope where
  | signal (key : Nat) | satellite (key : Nat) | chain (m : Nat) | group (g : Nat) | all
  deriving DecidableEq, Repr

/-- One statistic of a consistency check (R243, R251): its evaluations above the threshold in a row; with an alarm in force, how long
it has been below half of it (ms), the statistic at its declaration, and what it accuses, which it excludes unless one peer alone spoke
(`bare`, R253). `common`: a common-mode alarm (R246). -/
structure CheckSt where
  check : Nat
  key : Nat
  common : Bool
  run : Nat := 0
  inForce : Bool := false
  /-- The epoch in ms from which the statistic has stayed below half its threshold. -/
  below : Option Nat := none
  scope : List Scope := []
  bare : Bool := false
  stat : Int := 0
  deriving DecidableEq, Repr

/-- The integer constant of an inter-aerial pair, and the epoch of its fit (R246, R257). -/
structure Whole where
  a : Nat
  b : Nat
  since : Nat
  n : Int
  deriving DecidableEq, Repr

/-- The baseline of check 1 for two signals of one satellite (R246): the epoch of the first sum, the sums in mm, and whether a slip came
while one of the two was excluded (R251). -/
structure Baseline where
  a : Nat
  b : Nat
  since : Nat
  sum : Int
  n : Nat
  slipped : Bool := false
  deriving DecidableEq, Repr

/-- The anchor of check 4 (R248): A in 2^-16 ps, and t_A, the DT in ps. -/
structure Anchor where
  value : Int
  epoch : Int
  deriving DecidableEq, Repr

structure NavSt where
  /-- The epoch period P in ms, as configured (R234). -/
  period : Nat := 100
  /-- k111 of each track as last scanned (R237). -/
  scanned : Sparse Word := []
  /-- MSG_SEQ of the next TIMEMSG and the DT second last announced, plus one (R238). -/
  msgSeq : Nat := 0
  /-- The DT in ns of the edge or second last described by a TIMEMSG, and the edge at which a DT step was applied, with its size and
  whether it was TP0's, until a message has gone out. -/
  told : Option Nat := none
  stepEdge : Option (Nat × Int × Bool) := none
  /-- A backward step brings the seconds described again. -/
  again : Bool := false
  /-- SLIP bits that firmware set in a track's last framed record, and the epoch in ms (plus one) of a COAST track's last (R237, R242). -/
  slipIn : Sparse Nat := []
  coasted : Sparse Nat := []
  /-- The epoch in ms of the last evaluation, plus one (R243), and the satellites in the time solution since. -/
  lastEpoch : Nat := 0
  nsv : Nat := 0
  /-- Baselines of check 1 and integer constants of check 5; alarm-free learning in ms of each signal ID and elevation bin (R247); signals that slipped while excluded. -/
  baselines : List Baseline := []
  wholes : List Whole := []
  learned : Sparse Nat := []
  slipped : List Nat := []
  /-- Check 4: the anchor; the bias in ps and SOL at the last evaluation; whether Kyonino was LOCKED there (R249). -/
  anchor : Option Anchor := none
  lastBias : Option Int := none
  lastSol : Nat := 0
  wasLocked : Bool := false
  checks : List CheckSt := []
  /-- The chains that report jamming, each with the fall of its gain where it began (R254, R259). -/
  jam : List (Nat × Int) := []
  /-- Firmware's copy of the alarm log, of its index and of EVAL (R258, R259). -/
  alarms : List Word := List.replicate 64 0
  logAt : Nat := 0
  evals : Nat := 0
  /-- The time solution is NONE (R255). -/
  noSolution : Bool := false
  /-- OSNMA by track: 1 authenticated, 2 failed (R236, R255). -/
  osnma : Sparse Nat := []
  /-- The seven configuration words in force, as adopted (R258). -/
  config : List Word := []
  /-- What SAVE stored in MRAM: the seven configuration words, or nothing (log 44). -/
  saved : List Word := []
  deriving DecidableEq, Repr

/-! ### Network (13) -/

/-- An Ethernet frame in the switch, without FCS: the port it came in by (4 the CPU), its queue, and its ingress stamp: DT and
MONO_NS in 2^-32 ns, or, with RTC_STAMP, the RTC count in 2^-32 s (R288, R304). Of firmware's frames: 1 one-step, 2 two-step, 3 an NTP
reply, and the stamp of the request that a Pdelay_Resp answers (R291, R300). -/
structure Frame where
  bytes : List Nat
  port : Nat
  prio : Nat := 0
  stamp : Nat := 0
  mono : Nat := 0
  rtcStamp : Bool := false
  flag : Nat := 0
  req : Nat := 0
  deriving DecidableEq, Repr

/-- A master in the foreign master list (R296): its portIdentity, its rank for the best master clock algorithm (the lower the better), the
Announces heard of it, and whether it is rejected (R282). -/
structure Master where
  id : Nat
  rank : Nat
  heard : Nat := 1
  rejected : Bool := false
  deriving DecidableEq, Repr

/-- A two-step egress stamp (R291). -/
structure TxStamp where
  seqId : Nat
  port : Nat
  msgType : Nat
  dt : Nat
  deriving DecidableEq, Repr

/-- A peer of the timing domain (R306): its NODE_ID, the square of its distance by reported position in 10 m, and its last report. -/
structure Peer where
  node : Nat
  dist : Nat
  report : List Nat
  deriving DecidableEq, Repr

structure NetSt where
  /-- Learned addresses: MAC to port plus one (R287). -/
  macs : Sparse Nat := []
  /-- The FCLK at which each learned address was last seen. -/
  macSeen : Sparse Nat := []
  /-- Egress queue of each port; port 4 is the CPU port. -/
  queues : Sparse (List Frame) := []
  txts : List TxStamp := []
  /-- NP3's wake buffer (R303, R304). -/
  wakeFrame : Option Frame := none
  /-- Unicast clients with the messages per second granted and the MONO_NS (2^-32 ns) at which the grant ends (R295). -/
  unicast : List (Nat × Nat × Nat) := []
  /-- The DT second in which NTP requests are being counted, and their number (R300). -/
  ntpSec : Nat := 0
  ntpCount : Nat := 0
  /-- NTP requests that firmware has been handed, oldest first (R300). -/
  asks : List Frame := []
  /-- The QL received by each port, plus one, and the QL last sent on it, plus one; 256 is QL-FAILED (R299). -/
  esmcQl : Sparse Nat := []
  qlTold : Sparse Nat := []
  /-- Firmware's network configuration; the foreign master list and the selected master (R293, R296). -/
  config : NetConfig := {}
  masters : List Master := []
  master : Option Nat := none
  /-- The conflict of R307; the peers and the next report's sequence. -/
  conflict : Bool := false
  peers : List Peer := []
  reportSeq : Nat := 0
  deriving DecidableEq, Repr

/-! ### RTC, calendar and Ledger (15) -/

/-- The RTC beyond its registers (R327–R334): the count in 2^-32 s. -/
structure RtcSt where
  count : Nat := 0
  /-- A captured APPLY value waits for the tick; ALIGN waits; SNAP waits. -/
  apply : Option Nat := none
  align : Bool := false
  snap : Bool := false
  /-- Tick number within the trim window. -/
  window : Nat := 0
  latch : Sparse Nat := []
  /-- The armed alarm lay at or below the count when it was armed (R333). -/
  alarmLate : Bool := false
  /-- LEAVEN runs from LIRC (R334). -/
  onLirc : Bool := false
  /-- VDD_AON and VBAT have both been absent: the count is lost (R327). -/
  lost : Bool := false
  /-- The calendar conversion that runs: its op, its operands, and the leap table as it stood (R341). -/
  calOp : Nat := 0
  calBct : Nat := 0
  calDate : Word := 0
  calTime : Word := 0
  calLeaps : List (Nat × Int) := []
  deriving DecidableEq, Repr

/-- The Ledger's working copy (R338) as bytes of the copy's layout that are not zero, by offset, without header and CRC. -/
structure LedgerSt where
  work : List Host.Cell := []
  changed : Bool := false
  /-- Seconds since the last write. -/
  since : Nat := 0
  /-- The next entry of the update history's ring. -/
  updateAt : Nat := 0
  deriving DecidableEq, Repr

/-! ### DMA (17) -/

/-- A register channel beyond its registers: its PAUSING ends in IDLE (STOP), not in PAUSED. -/
structure Bch where
  stopping : Bool := false
  deriving DecidableEq, Repr

structure DmaSt where
  bch : Sparse Bch := []
  /-- Level of each pacing counter and READY of each source (R366). -/
  level : Sparse Nat := []
  ready : Sparse Nat := []
  /-- Per PRIO: the channel that the read engine looks at first, after the one it served last (R364). -/
  turn : Sparse Nat := []
  deriving DecidableEq, Repr

/-! ### Boot and service (18), monitors (19) -/

/-- The staging record of R380: slot, state (1 INCOMPLETE, 2 STAGED, 5 BAD), image ID, block count, the blocks in MRAM, TRIAL_S. -/
structure Staging where
  slot : Nat
  state : Nat
  id : Nat
  count : Nat
  got : Sparse Nat := []
  trialS : Nat := 0
  deriving DecidableEq, Repr

/-- A pointer record of Boot config (R380): is it valid, by its magic and CRC; SEQ; ACTIVE 0 A, 1 B, 2 Starter; PREV 3 none. -/
structure Pointer where
  valid : Bool := false
  seq : Nat := 0
  active : Nat := 2
  trial : Bool := false
  prev : Nat := 3
  trialBoots : Nat := 0
  trialS : Nat := 0
  deriving DecidableEq, Repr

/-- Boot config, the key store and the staging lock (R378–R391). What MRAM holds of them is kept here, not as bytes (log 44). -/
structure BootSt where
  bootSel : Nat := 0
  refSel : Nat := 0
  /-- The pointer records A and B. -/
  ptrA : Pointer := {}
  ptrB : Pointer := {}
  staging : Option Staging := none
  /-- Slots recorded BAD. -/
  bad : Sparse Nat := []
  /-- The key store: the SHA-256 of each slot's public key (0 none), REVOKED flags and MIN_SEC_VER. -/
  keys : Sparse Nat := []
  revoked : Sparse Nat := []
  minSecVer : Nat := 0
  /-- Tokens that wait for the next boot, and the nonce in force when the UNLOCK token came. -/
  pendingRevoke : List Nat := []
  pendingUnlock : List Nat := []
  unlockNonce : Word := 0
  /-- The staging lock's holder: 0 none, 1 SVC, 2 NP3, and for NP3 the sender's MAC. -/
  holder : Nat := 0
  session : Nat := 0
  /-- The service port's rate is a wrong one until the next measurement (R428). -/
  deaf : Bool := false
  /-- The island load window is open (R15). -/
  islandLoad : Bool := true
  /-- The Boot ROM is to run: CORE has woken and has neither booted nor resumed. -/
  due : Bool := false
  /-- A trial window runs (R383). -/
  window : Bool := false
  deriving DecidableEq, Repr

structure MonSt where
  /-- Consecutive disagreeing reads of each sensor (R348). -/
  disagree : Sparse Nat := []
  deriving DecidableEq, Repr

/-- The whole block. -/
structure State where
  /-- Commands that wait, first in, first out (log 1). -/
  pending : List Instr := []
  /-- Register file: registers whose value differs from its reset value, by address (R414). -/
  regs : Sparse Word := []
  /-- Memory pools of R14: bytes that differ from what memory nothing has written reads as, by address (log 3). -/
  mem : List Host.Cell := []
  /-- PCIe host memory (R28), likewise. -/
  hostMem : List Host.Cell := []
  /-- Upset words of the pools, by address / 4: 1 a correctable ECC error, 2 an uncorrectable one (R14, R141; log 128). -/
  ecc : Sparse Nat := []
  /-- Memory that lost its content (R115, R317), by address / 2^18: which loss it was (log 3). -/
  lost : Sparse Nat := []
  /-- FCLK ticks (log 2) and XTAL32 ticks (log 9) so far. -/
  now : Nat := 0
  ticks : Nat := 0
  /-- The FCLK at which the time began that runs against each limit, by Timer.key. -/
  marks : Sparse Nat := []
  /-- Free values drawn so far: the model's own field (log 5). -/
  free : Nat := 0
  straps : Straps := {}
  answer : Answer := {}
  frames : List OutFrame := []
  host : HostSt := {}
  txns : Sparse Txn := []
  /-- TXN_STATn.RESULT as each owner reads it, by owner * 4 + n. -/
  txnResult : Sparse Nat := []
  claims : ClaimSt := {}
  power : PowerSt := {}
  safety : SafetySt := {}
  crumb : CrumbSt := {}
  time : TimeSt := {}
  rf : RfSt := {}
  sample : SampleSt := {}
  fabric : FabricSt := {}
  lyz : LyzSt := {}
  mill : MillSt := {}
  nav : NavSt := {}
  net : NetSt := {}
  rtc : RtcSt := {}
  ledger : LedgerSt := {}
  dma : DmaSt := {}
  boot : BootSt := {}
  mon : MonSt := {}
  deriving DecidableEq, Repr

/-- The block right after its first VDD_AON power-up and reset release: every register at its Reset value, the Ledger started from
zero since neither copy is valid, with its crumb (R339), this power cycle, VBAT loss and reset counted (R338), the RESET crumb queued
(R356), the wake logic's votes for CORE and HOST raised (R316), CORE and OCQ waking, HOST waiting for CORE (R20, R311). -/
def State.reset : State :=
  { regs :=
      [ (0x40010020, 0x20002),     -- PWR_WAKE_HOLD: client 20 on CORE and HOST
        (0x40010108, 0x100000),    -- PWR_DOM1_VOTE: client 20
        (0x4001010C, 0x5),         -- PWR_DOM1_STAT: WAKING, implied by HOST
        (0x40010114, 0x9),         -- PWR_DOM2_STAT: WAKING, forced by HOST
        (0x40010188, 0x100000) ],  -- PWR_DOM17_VOTE: client 20
    ledger := { work := [(0x10, 1), (0x14, 1), (0x20, 1)], changed := true }
    crumb := { queue := [{ type := 0x0B, payload := [2] }, { type := 0x0C, payload := [0, 0] }] } }

end Sys2Proof.Machine
end

