-- ==== Sys2Proof/Machine/Ops.lean ====
section
/-! DEFINITION. The shared operations: register fields, memory, answers, interrupts, crumbs, fault sources, safe state,
claims and transaction aborts. Every meaning changes State through these or through its own chapter's data. -/

namespace Sys2Proof.Machine

/-- What a command answers. -/
abbrev Out := Host.Outcome State Fault Refusal

/-! ### Registers and their fields (R6–R8) -/

/-- The `w` bits of a word from bit `lo` on. -/
def bits (v : Word) (lo w : Nat) : Nat := v.toNat / 2 ^ lo % 2 ^ w

/-- The word with those bits replaced by `x` (modulo 2^w). -/
def withBits (v : Word) (lo w x : Nat) : Word := v &&& ~~~(atBits lo w (2 ^ w - 1)) ||| atBits lo w x

/-- The signed value of the low `w` bits of `n`. -/
def signed (w n : Nat) : Int := if n % 2 ^ w < 2 ^ (w - 1) then (n % 2 ^ w : Nat) else (n % 2 ^ w : Nat) - 2 ^ w

/-- A signed number in `w` bits. -/
def unsigned (w : Nat) (i : Int) : Nat := (i % 2 ^ w).toNat

/-- A number held between two limits. -/
def held (lo hi v : Int) : Int := max lo (min hi v)

/-- The register at address `a`. -/
def State.reg (s : State) (a : Nat) : Word := look (resetOf a) s.regs a

/-- The register at address `a` holds `v` from now on. -/
def State.setReg (s : State) (a : Nat) (v : Word) : State := { s with regs := put (resetOf a) s.regs a v }

/-- A field's value. -/
def State.rd (s : State) (f : Fld) : Nat := bits (s.reg f.addr) f.lo f.w

/-- Does a one-bit field read 1? -/
def State.on (s : State) (f : Fld) : Bool := decide (s.rd f = 1)

/-- A field's value as a signed number. -/
def State.rdS (s : State) (f : Fld) : Int := signed f.w (s.rd f)

/-- A field takes a value, modulo 2^w. -/
def State.wr (s : State) (f : Fld) (x : Nat) : State := s.setReg f.addr (withBits (s.reg f.addr) f.lo f.w x)

/-- A counter field that wraps. -/
def State.inc (s : State) (f : Fld) (n : Nat := 1) : State := s.wr f (s.rd f + n)

/-- A counter field that saturates at all ones. -/
def State.sat (s : State) (f : Fld) (n : Nat := 1) : State := s.wr f (min (2 ^ f.w - 1) (s.rd f + n))

/-- Do `k` to the state only where `p` holds. -/
def State.whenB (s : State) (p : Bool) (k : State → State) : State := if p then k s else s

/-! ### Memory (R14) -/

/-- What a byte that nothing has written reads as: 0, or a free value where the memory has lost its content (log 3). -/
def blankOf (lost : Sparse Nat) (a : Nat) : Byte :=
  if look 0 lost (a / 2 ^ 18) = 0 then 0 else Config.freeByte (look 0 lost (a / 2 ^ 18)) a

/-- The byte at address `a` of the pools. -/
def State.byte (s : State) (a : Nat) : Byte := look (blankOf s.lost a) s.mem a

/-- The byte at `a` is `v` from now on. -/
def State.setByte (s : State) (a : Nat) (v : Byte) : State := { s with mem := put (blankOf s.lost a) s.mem a v }

/-- The little-endian number of `n` bytes from `a` on. -/
def State.load (s : State) : Nat → Nat → Nat
  | _, 0 => 0
  | a, n + 1 => (s.byte a).toNat + 256 * s.load (a + 1) n

/-- Stores the low `n` bytes of `v` from `a` on, least significant first. -/
def State.store (s : State) : Nat → Nat → Nat → State
  | _, 0, _ => s
  | a, n + 1, v => (s.setByte a (BitVec.ofNat 8 v)).store (a + 1) n (v / 256)

/-- The word at `a`. -/
def State.ld32 (s : State) (a : Nat) : Word := BitVec.ofNat 32 (s.load a 4)

/-- The word at `a` is `v` from now on, with valid ECC. -/
def State.st32 (s : State) (a : Nat) (v : Word) : State := { s.store a 4 v.toNat with ecc := put 0 s.ecc (a / 4) 0 }

/-- Stores words one after another from `a` on. -/
def State.stWords (s : State) : Nat → List Word → State
  | _, [] => s
  | a, w :: ws => (s.st32 a w).stWords (a + 4) ws

/-- The words from `a` on. -/
def State.ldWords (s : State) : Nat → Nat → List Word
  | _, 0 => []
  | a, n + 1 => s.ld32 a :: s.ldWords (a + 4) n

/-- Stores bytes one after another. -/
def State.stBytes (s : State) : Nat → List Nat → State
  | _, [] => s
  | a, b :: bs => (s.setByte a (BitVec.ofNat 8 b)).stBytes (a + 1) bs

/-- The bytes from `a` on. -/
def State.ldBytes (s : State) : Nat → Nat → List Nat
  | _, 0 => []
  | a, n + 1 => (s.byte a).toNat :: s.ldBytes (a + 1) n

/-- The bytes from `lo` up to `hi` become 0 with valid ECC. They lie in memory that is never lost: the track context store, MRAM and
Ocquel's SRAM. -/
def State.forget (s : State) (lo hi : Nat) : State :=
  { s with
    mem := s.mem.filter fun e => decide (e.1 < lo) || decide (hi < e.1)
    ecc := s.ecc.filter fun e => decide (4 * e.1 + 3 < lo) || decide (hi < 4 * e.1) }

/-- The 256 KiB regions `rs` lose their content: until it is written, each byte reads as a free value of this loss (log 3). -/
def State.lose (s : State) (rs : List Nat) : State :=
  { s with
    mem := s.mem.filter fun e => !rs.contains (e.1 / 2 ^ 18)
    ecc := s.ecc.filter fun e => !rs.contains (4 * e.1 / 2 ^ 18)
    lost := rs.foldl (fun l r => put 0 l r (s.free + 1)) s.lost
    free := s.free + 1 }

/-- Does a word that holds one of the `n` bytes from `a` on have an uncorrectable error (R14)? -/
def State.badIn (s : State) (a n : Nat) : Bool := s.ecc.any fun e => decide (e.2 = 2 ∧ a < 4 * e.1 + 4 ∧ 4 * e.1 < a + n)

/-- The word a unit reads at `a`, `j` words into its access: a free value where it has an uncorrectable error (R14; log 150). -/
def State.seen (s : State) (a j : Nat) : Word := if s.badIn a 4 then BitVec.ofNat 32 (Config.freeNat (s.free + j)) else s.ld32 a

/-- A byte of host memory (R28). -/
def State.hostByte (s : State) (a : Nat) : Byte := look 0 s.hostMem a

def State.setHostByte (s : State) (a : Nat) (v : Byte) : State := { s with hostMem := put 0 s.hostMem a v }

/-- Words of host memory. -/
def State.hostLoad (s : State) : Nat → Nat → Nat
  | _, 0 => 0
  | a, n + 1 => (s.hostByte a).toNat + 256 * s.hostLoad (a + 1) n

def State.hostStore (s : State) : Nat → Nat → Nat → State
  | _, 0, _ => s
  | a, n + 1, v => (s.setHostByte a (BitVec.ofNat 8 v)).hostStore (a + 1) n (v / 256)

/-! ### The Ledger's working copy (R338) -/

/-- `n` bytes of the working copy from offset `o`. -/
def State.ledgerGet (s : State) : Nat → Nat → Nat
  | _, 0 => 0
  | o, n + 1 => (look 0 s.ledger.work o).toNat + 256 * s.ledgerGet (o + 1) n

/-- `n` bytes of the working copy take a value; a change waits for the next write (R339). -/
def State.ledgerSet (s : State) : Nat → Nat → Nat → State
  | _, 0, _ => s
  | o, n + 1, v =>
    ({ s with ledger := { s.ledger with work := put 0 s.ledger.work o (BitVec.ofNat 8 v), changed := true } }).ledgerSet
      (o + 1) n (v / 256)

/-- A counter of `n` bytes, which saturates. -/
def State.ledgerCount (s : State) (o n : Nat) (by_ : Nat := 1) : State :=
  s.ledgerSet o n (min (256 ^ n - 1) (s.ledgerGet o n + by_))

/-- Resets by cause, in the order of SYS_RSTCAUSE. -/
def State.countReset (s : State) (cause : Nat) : State := s.ledgerCount (0x20 + 4 * cause) 4

/-- 8-byte MRAM words written, per partition, the nine of R17 in order. -/
def State.countMram (s : State) (partition words : Nat) : State := s.ledgerCount (0x120 + 8 * (partition % 9)) 8 words

/-! ### Answers and free values -/

/-- The last access is answered. -/
def State.reply (s : State) (owner : Nat) (st : AccStatus) (value : Word := 0) (code : Nat := 0) : State :=
  { s with answer := ⟨owner, st, code, value⟩ }

/-- The next value the spec leaves open, and the state in which it is drawn (log 5). -/
def State.draw (s : State) : Nat × State := (Config.freeNat s.free, { s with free := s.free + 1 })

/-- Numbers the spec states no value for (log 5). -/
def State.drawNats (s : State) : Nat → List Nat × State
  | 0 => ([], s)
  | n + 1 => (s.draw.1 :: (s.draw.2.drawNats n).1, (s.draw.2.drawNats n).2)

/-! ### Times that run against a limit -/

/-- What runs against a limit: the drain of a domain (R312), an idle transaction (R43), the cores' heartbeat and the
island's periodic self-test (R346), the Proofer's packing (R323), the edges of EXT_PPS_IN, a waiting INJ command (R93), the ESMC PDUs of a
port (R299). -/
inductive Timer where
  | drain (d : Nat) | txn (n : Nat) | heartbeat | selfTest | packing | pps | injWait | esmc (p : Nat)
  deriving DecidableEq, Repr

def Timer.key : Timer → Nat
  | .drain d => d
  | .txn n => 32 + n
  | .heartbeat => 40
  | .selfTest => 41
  | .packing => 42
  | .pps => 43
  | .injWait => 44
  | .esmc p => 48 + p

/-- The timer starts over. -/
def State.mark (s : State) (t : Timer) : State := { s with marks := put 0 s.marks t.key s.now }

/-- FCLK periods since the timer started. -/
def State.elapsed (s : State) (t : Timer) : Nat := s.now - look 0 s.marks t.key

/-- Has the timer run for `ms` milliseconds? -/
def State.ranMs (s : State) (t : Timer) (ms : Nat) : Bool := decide (ms * Config.fclkHz ≤ 1000 * s.elapsed t)

/-! ### Power domains (R20, R311) -/

/-- The domains domain `d` implies directly (R20). -/
def implies (d : Nat) : List Nat :=
  if d = 7 ∨ d = 15 ∨ d = 17 ∨ d = 18 ∨ (3 ≤ d ∧ d ≤ 6) then [1]
  else if 8 ≤ d ∧ d ≤ 14 then [7]
  else if d = 16 then [15]
  else []

/-- The domains domain `d` implies directly or through others. -/
def impliesAll (d : Nat) : List Nat :=
  if 8 ≤ d ∧ d ≤ 14 then [7, 1] else if d = 16 then [15, 1] else implies d

/-- A domain's state code (R311); LEAVEN is always in Run. -/
def State.dom (s : State) (d : Nat) : Nat := s.rd (F.PWR_DOM_STAT_STATE d)

/-- Is domain `d` in Run? -/
def State.inRun (s : State) (d : Nat) : Bool := decide (s.dom d = 2)

/-- Do the registers at `a` answer: is the power domain of the block in Run? -/
def State.answers (s : State) (a : Nat) : Bool :=
  match domainOf a with
  | none => true
  | some d => s.inRun d

/-! ### Time -/

/-- DT exists: TIME in Run and DT rebuilt (R284). -/
def State.dtOk (s : State) : Bool := s.inRun 15 && s.time.kyo.valid

/-- DT is still counted: TIME in Run, or draining until its record is taken (R312). -/
def State.dtRuns (s : State) : Bool := (s.inRun 15 || decide (s.dom 15 = 3)) && s.time.kyo.valid

/-- DT seconds, nanoseconds and the 16 visible fraction bits of a time in 2^-32 ns (R261). -/
def dtSec (t : Nat) : Nat := t / Config.dtSecond % 2 ^ 48
def dtNs (t : Nat) : Nat := t % Config.dtSecond / 2 ^ 32
def dtFrac (t : Nat) : Nat := t % 2 ^ 32 / 2 ^ 16

/-- A time in whole nanoseconds. -/
def inNs (t : Nat) : Nat := t / 2 ^ 32

/-- A DT target from its registers' seconds and nanoseconds, in 2^-32 ns. -/
def dtOf (sec ns : Nat) : Nat := sec * Config.dtSecond + ns * 2 ^ 32

/-- Whole seconds and fraction of the RTC count. -/
def rtcSec (c : Nat) : Nat := c / 2 ^ 32 % 2 ^ 48
def rtcFrac (c : Nat) : Nat := c % 2 ^ 32

/-! ### Crumbs (R356, R357) -/

/-- A crumb of this moment. -/
def State.crumbNow (s : State) (type source owner : Nat) (payload : List Word) : Crumb :=
  { type, source, owner, payload
    dtValid := s.dtOk
    dtNs := if s.dtOk then dtNs s.time.kyo.dt else 0
    dtSec := if s.dtOk then dtSec s.time.kyo.dt else 0
    rtcSec := rtcSec s.rtc.count
    rtcFrac := rtcFrac s.rtc.count / 2 ^ 16 }

/-- Is there room for another crumb? -/
def State.crumbRoom (s : State) : Bool := decide (s.crumb.queue.length < 32)

/-- A crumb request is lost, and counted (R357). -/
def State.loseCrumb (s : State) : State :=
  { s.sat F.CRUMB_LOST_LOST with crumb := { s.crumb with lostSince := s.crumb.lostSince + 1 } }

/-- A crumb request: queued, or lost when the queue is full (R357). -/
def State.addCrumb (s : State) (type source owner : Nat) (payload : List Word) : State :=
  if s.crumbRoom then
    { s with crumb := { s.crumb with queue := s.crumb.queue ++ [s.crumbNow type source owner payload] } }
  else s.loseCrumb

/-- Does crumb `a` come before `b` of the same cycle: by type, then source, then owner (R357)? -/
def Crumb.before (a b : Crumb) : Bool :=
  decide (a.type < b.type ∨ a.type = b.type ∧ (a.source < b.source ∨ a.source = b.source ∧ a.owner < b.owner))

/-- `c` joins an ordered list, after those it does not come before. -/
def Crumb.join (c : Crumb) : List Crumb → List Crumb
  | [] => [c]
  | x :: xs => if c.before x then c :: x :: xs else x :: c.join xs

/-- The request for `c` finds the queue full: it is lost, and a FAULT_RAISE leaves the HOLD_MS count of its source as it was in `s` (R357). -/
def State.dropRequest (s t : State) (c : Crumb) : State :=
  if c.type = 1 then
    { t.loseCrumb with crumb := { t.loseCrumb.crumb with
        raisedAt := put 0 t.crumb.raisedAt c.source (look 0 s.crumb.raisedAt c.source) } }
  else t.loseCrumb

/-- All that `k` does falls in one cycle: the crumbs it requests are queued in R357's order, as far as there is room. -/
def State.oneCycle (s : State) (k : State → State) : State :=
  let t := k { s with crumb := { s.crumb with queue := [] } }
  let asked := t.crumb.queue.foldl (fun l c => c.join l) []
  let room := 32 - s.crumb.queue.length
  (asked.drop room).foldl s.dropRequest { t with crumb := { t.crumb with queue := s.crumb.queue ++ asked.take room } }

/-- The device sends a message of its own kind (OutFrame). -/
def State.say (s : State) (kind : Nat) (payload : List Nat) : State := { s with frames := s.frames ++ [⟨kind, payload⟩] }

/-- Firmware of cores 0–3 runs: CORE is in Run and an image has been started or resumed; in service hold none is. -/
def State.firmware (s : State) : Bool := s.inRun 1 && !s.boot.due && decide (s.rd F.BOOT_STAT_SOURCE ≠ 2)

/-! ### Interrupts (R25, E09) -/

/-- An MSI-X message of vector `v`: sent over PCIe, or held pending by its mask or the function mask; vector 31 heeds only the function mask,
under which it is held and sent later like the others (R25, R427; log 152). -/
def State.msi (s : State) (v : Nat) : State :=
  if ¬ (s.inRun 17 && decide (s.host.sel = 0)) then s
  else if s.host.functionMask || (decide (v ≠ 31) && decide (look 1 s.host.msixMasked v = 1)) then
    { s with host := { s.host with msixPending := put 0 s.host.msixPending v 1 } }
  else { s with host := { s.host with msiSent := put 0 s.host.msiSent v (look 0 s.host.msiSent v + 1) } }

/-- An interrupt source of PCIE_SRCMAPs signals its vector; sources 39–47 never do. -/
def State.signal (s : State) (src : Nat) : State :=
  if src < 39 ∧ s.on (F.PCIE_SRCMAP_EN src) then s.msi (s.rd (F.PCIE_SRCMAP_VEC src)) else s

/-- An event bit is set and its register's interrupt source signals (log 14): MILL, KYO, CAPTRG, PRF, PWR and RTC events. -/
def State.event (s : State) (f : Fld) : State :=
  let s := s.wr f 1
  if f.addr = Reg.MILL_EVT then s.signal 33
  else if f.addr = Reg.KYO_EVT then s.signal 34
  else if f.addr = Reg.CAPTRG_EVT then s.signal 35
  else if f.addr = Reg.PRF_EVT then s.signal 36
  else if f.addr = Reg.PWR_EVT then s.signal 37
  else if f.addr = Reg.RTC_EVT then s.signal 38
  else s

/-! ### Safe state and fault sources (R347–R354) -/

/-- Has HOLD_S passed since the last class A rise (R353)? -/
def State.holdOver (s : State) : Bool :=
  decide (max 1 (s.rd F.OCQ_SAFE_CFG_HOLD_S) * Config.xtalHz ≤ s.ticks - s.safety.lastRise)

/-- OCQ_STAT as it reads: HOLD falls once the hold time has passed. -/
def State.ocqStat (s : State) : Word :=
  if s.holdOver then withBits (s.reg Reg.OCQ_STAT) 3 1 0 else s.reg Reg.OCQ_STAT

/-- The words of a SAFE_ENTER or SAFE_EXIT crumb. -/
def State.safeWords (s : State) : List Word :=
  s.ocqStat :: (List.range 6).map fun i => s.reg (Reg.FLT_STAT i)

/-- The balls that carry output TPn by their PAD function (R395): MFB16+n by function 0, MFB32–47 by function 3. -/
def State.ballsOf (s : State) (n : Nat) : List Nat :=
  (if s.rd (F.PAD_FUNC_FUNC (16 + n)) = 0 then [16 + n] else []) ++
  ((List.range 16).map (· + 32)).filter fun b => decide (s.rd (F.PAD_FUNC_FUNC b) = 3 ∧ (b - 32) % 4 = n)

/-- Does ball MFBb read the input of its function `f`: is that function selected, and its input buffer enabled (R395; log 144)? -/
def State.inputOn (s : State) (b f : Nat) : Bool := decide (s.rd (F.PAD_FUNC_FUNC b) = f) && s.on (F.PAD_FUNC_IN_EN b)

/-- Ocquel takes or returns the pulse outputs and the balls that carry them, with one crumb per output (R50). -/
def State.preempt (s : State) (take : Bool) : State :=
  let held := (List.range 4).flatMap fun n => (0x6000 + n) :: (s.ballsOf n).map (0x1000 + ·)
  let p := if take then held.foldl (fun p r => put 0 p r 1) s.claims.preempted else []
  let s := { s with claims := { s.claims with preempted := p } }
  (List.range 4).foldl (fun s n => s.addCrumb 0x07 0xFF 5 [BitVec.ofNat 32 (0x6000 + n), if take then 2 else 3]) s

/-- Every pulse output goes inactive at once, cutting any active phase (R352, R285). -/
def State.cutPulses (s : State) : State :=
  (List.range 4).foldl (fun s n =>
    let p := look {} s.time.pulses n
    { s.wr (F.TP_STAT_ACTIVE n) 0 with
      time := { s.time with pulses := put {} s.time.pulses n { p with active := false, expect := false } } }) s

/-- A SAFE_ENTER crumb of this moment, of the owner that caused it (R352, R31). -/
def State.safeCrumb (s : State) (owner : Nat := 0) : State := s.addCrumb 0x03 0xFF owner s.safeWords

/-- Safe state is entered, or a class A rise restarts its hold time (R352, R353, R359). -/
def State.enterSafe (s : State) (cause : Nat) (owner : Nat := 0) : State :=
  let s := { s with safety := { s.safety with lastRise := s.ticks } }
  let s := s.wr F.OCQ_STAT_HOLD 1
  if s.on F.OCQ_STAT_SAFE then s
  else
    let s := ((s.wr F.OCQ_STAT_SAFE 1).wr F.OCQ_STAT_CAUSE cause).sat F.OCQ_STAT_ENTRIES
    ((s.safeCrumb owner).preempt true).cutPulses

/-- Safe state ends: the outputs go back to their owners, with a SAFE_EXIT crumb (R353). -/
def State.exitSafe (s : State) (owner : Nat := 0) : State :=
  let s := (s.wr F.OCQ_STAT_SAFE 0).wr F.OCQ_STAT_HOLD 0
  (s.addCrumb 0x04 0xFF owner s.safeWords).preempt false

/-- The action class of a source (R349). -/
def State.fltClass (s : State) (src : Nat) : Nat := bits (s.reg (Reg.FLT_CLASS (src / 16))) (2 * (src % 16)) 2

/-- One bit of a register: source or channel numbers spread over words of 32. -/
def bitFld (a n : Nat) : Fld := ⟨a + 4 * (n / 32), n % 32, 1⟩

/-- A FAULT_RAISE crumb of the owner that caused the rise (R31), unless the source rose within CRUMB_CFG.HOLD_MS of its last accepted one (R357). -/
def State.raiseCrumb (s : State) (src : Nat) (d2 d3 : Word) (owner : Nat) : State :=
  let last := look 0 s.crumb.raisedAt src
  if last ≠ 0 ∧ (s.ticks + 1 - last) * 1000 < s.rd F.CRUMB_CFG_HOLD_MS * Config.xtalHz then s
  else
    let cls := BitVec.ofNat 32 (s.fltClass src)
    let cnt := BitVec.ofNat 32 (look 0 s.safety.count src)
    let room := s.crumbRoom
    let s := s.addCrumb 0x01 src owner [cls, cnt, d2, d3]
    if room then { s with crumb := { s.crumb with raisedAt := put 0 s.crumb.raisedAt src (s.ticks + 1) } } else s

/-- FLT sees a source rise: level, latch, count, crumb, FLT_FIRST and the alarm, as its class says (R347, R349). -/
def State.fltNote (s : State) (src : Nat) (d2 d3 : Word) (owner : Nat) : State :=
  let s := (s.wr (bitFld (Reg.FLT_STAT 0) src) 1).wr (bitFld (Reg.FLT_LATCH 0) src) 1
  let s := { s with safety := { s.safety with count := put 0 s.safety.count src (min 0xFFFF (look 0 s.safety.count src + 1)) } }
  let cls := s.fltClass src
  if cls = 3 then s
  else
    let s := s.raiseCrumb src d2 d3 owner
    if cls = 2 then s
    else
      let s := if s.on F.FLT_FIRST_VALID then s
        else ((s.wr F.FLT_FIRST_VALID 1).wr F.FLT_FIRST_SRC src).wr F.FLT_FIRST_CLASS cls
      { s.signal 8 with safety := { (s.signal 8).safety with coreAlarm := true } }

/-- A class A rise enters safe state (R352). -/
def State.fltAct (s : State) (src owner : Nat) : State := if s.fltClass src = 0 then s.enterSafe src owner else s

/-- FLT sees a source rise, with the action of its class (R347, R349). -/
def State.fltRise (s : State) (src : Nat) (d2 d3 : Word) (owner : Nat) : State := (s.fltNote src d2 d3 owner).fltAct src owner

/-- A source that rises while the self-test tests it is tested again once it has fallen (R359). -/
def State.spoilTest (s : State) (src : Nat) : State :=
  if s.on F.OCQ_STEST_STAT_BUSY ∧ s.safety.testing = some src ∧ src ∉ s.safety.retest then
    { s with safety := { s.safety with retest := src :: s.safety.retest } }
  else s

/-- A unit raises its source; FLT acts on a rise while OCQ is in Run and samples the level later otherwise. `d2` and `d3`
are the detail words of the crumb (log 13), `owner` the engine that caused the rise (R31), 0 where none did. -/
def State.raise (s : State) (src : Nat) (d2 : Word := 0) (d3 : Word := 0) (owner : Nat := 0) : State :=
  if look 0 s.safety.level src = 1 then s
  else
    let s := { s with safety := { s.safety with level := put 0 s.safety.level src 1, detail := put (0, 0) s.safety.detail src (d2, d3) } }
    if s.inRun 2 then (s.spoilTest src).fltRise src d2 d3 owner else s

/-- A unit lowers its source: the level falls, with a FAULT_CLEAR crumb for classes A, B and C, which repeats the detail of its rise (log 13). -/
def State.lower (s : State) (src : Nat) (owner : Nat := 0) : State :=
  if look 0 s.safety.level src = 0 then s
  else
    let (d2, d3) := look (0, 0) s.safety.detail src
    let s := { s with safety := { s.safety with level := put 0 s.safety.level src 0, detail := put (0, 0) s.safety.detail src (0, 0) } }
    if ¬ s.inRun 2 then s
    else
      let s := s.wr (bitFld (Reg.FLT_STAT 0) src) 0
      if s.fltClass src = 3 then s
      else s.addCrumb 0x02 src owner [BitVec.ofNat 32 (s.fltClass src), BitVec.ofNat 32 (look 0 s.safety.count src), d2, d3]

/-- A self-test starts, unless one runs or the island does not (R346). -/
def State.selfTest (s : State) : State :=
  if s.inRun 2 ∧ s.on F.OCQ_STAT_RUN ∧ ¬ s.on F.OCQ_STEST_STAT_BUSY then
    { s.wr F.OCQ_STEST_STAT_BUSY 1 with safety := { s.safety with testing := none, retest := [] } }
  else s

/-- A condition that lasts one instant: its source rises and falls (log 27). -/
def State.pulseSrc (s : State) (src : Nat) (d2 d3 : Word) (owner : Nat := 0) : State :=
  if look 0 s.safety.level src = 1 then s else (s.raise src d2 d3 owner).lower src owner

/-- Is a class A source active? -/
def State.classAActive (s : State) : Bool :=
  (List.range 192).any fun n => decide (s.rd (bitFld (Reg.FLT_STAT 0) n) = 1 ∧ s.fltClass n = 0)

/-- Is ERR_N asserted (R354, R391)? -/
def State.errN (s : State) : Bool :=
  !s.inRun 2 || !s.on F.OCQ_STAT_RUN || s.safety.fatal || s.on F.OCQ_STAT_SAFE || !s.safety.selfTested || decide (s.rd F.BOOT_STAT_DBG ≠ 0) ||
  (s.on F.FLT_CTRL_ERRN_B &&
    (List.range 192).any fun n => decide (s.rd (bitFld (Reg.FLT_LATCH 0) n) = 1 ∧ s.fltClass n = 1))

/-! ### Off-block, unassigned and refused accesses (R30, R415, R45) -/

/-- The error response of an access to an off block (R30). -/
def State.offReply (s : State) (owner : Nat) (write : Bool) : State :=
  let s := { s with host := { s.host with spiStatus := if owner = 17 then 1 else s.host.spiStatus } }
  let s := if owner = 17 ∧ s.inRun 17 then s.sat F.HSPI_CNT_OFF_BLOCK else s
  s.reply owner .offBlock (if write then 0 else 0x0FF00FF0)

/-- An access to a block that is off: read marker or dropped write, counted and captured, a crumb at most once per owner
per 100 ms; no domain wakes (R30). -/
def State.offBlock (s : State) (owner a : Nat) (write : Bool) : State :=
  let s := s.sat F.SYS_OFFACC_CNT_COUNT
  let s := s.setReg Reg.SYS_OFFACC_ADDR (BitVec.ofNat 32 (a / 4 * 4 + (if write then 2 else 0)))
  let last := look 0 s.host.offCrumbAt owner
  let s := if last ≠ 0 ∧ (s.ticks + 1 - last) * 10 < Config.xtalHz then s
    else
      let s := s.addCrumb 0x05 0xFF owner [s.reg Reg.SYS_OFFACC_ADDR, s.reg Reg.SYS_OFFACC_CNT]
      { s with host := { s.host with offCrumbAt := put 0 s.host.offCrumbAt owner (s.ticks + 1) } }
  s.offReply owner write

/-- An access to an address no register has (R415). -/
def State.noMap (s : State) (owner : Nat) : State :=
  { s.reply owner .noMap with host := { s.host with spiStatus := if owner = 17 then 2 else s.host.spiStatus } }

/-- A write the target refuses with TGT_ERR. -/
def State.tgtErr (s : State) (owner : Nat) : State :=
  { s.reply owner .tgtErr with host := { s.host with spiStatus := if owner = 17 then 2 else s.host.spiStatus } }

/-- A refused write or command with its result code (R45). -/
def State.refuse (s : State) (owner code : Nat) : State :=
  { s.reply owner .refused 0 code with host := { s.host with spiStatus := if owner = 17 then 2 else s.host.spiStatus } }

/-- An accepted access. -/
def State.okay (s : State) (owner : Nat) (value : Word := 0) : State :=
  { s.reply owner .ok value with host := { s.host with spiStatus := if owner = 17 then 0 else s.host.spiStatus } }

/-- Is LEAVEN powered? Without VDD_AON no access is answered (R327). -/
def State.aon (s : State) : Bool := s.inRun 0

/-- Hosts: PCIe, SPI, UART (R31). -/
def isHost (owner : Nat) : Bool := decide (16 ≤ owner ∧ owner ≤ 18)

/-- Is this the strapped interface's owner (R23)? -/
def State.strapped (s : State) (owner : Nat) : Bool := s.aon && isHost owner && decide (s.host.sel = owner - 16)

/-- Does the interface whose accesses carry `owner` answer: strapped, and HOST in Run? -/
def State.hostUp (s : State) (owner : Nat) : Bool := s.strapped owner && s.inRun 17

/-- An SPI or UART access that finds HOST off is answered with OFF_BLOCK (R316). -/
def State.hostAsleep (s : State) (owner : Nat) : Bool := s.strapped owner && !s.inRun 17 && decide (owner ≠ 16)

/-- Does an access of this owner reach the interconnect? A host's does through the strapped interface alone (R23). -/
def State.heard (s : State) (owner : Nat) : Bool := !isHost owner || s.hostUp owner

/-- What `k` makes of an access that reaches the interconnect; an interface that is not selected does not answer (R23). -/
def State.ifHeard (s : State) (owner a : Nat) (write : Bool) (k : State → State) : State :=
  if s.heard owner then k s else if s.hostAsleep owner then s.offBlock owner a write else s

/-- A write of the register at `a` acts by `k`; where the block is not in Run, R30 applies instead. -/
def State.access (s : State) (owner a : Nat) (k : State → State) : State :=
  if s.answers a then k (s.okay owner) else if s.aon then s.offBlock owner a true else s

/-- A command that its issuer writes to the register at `a`. -/
def State.command (s : State) (owner a : Nat) (k : State → State) : State := s.ifHeard owner a true (·.access owner a k)

/-- A read of the register at `a` by `k`, likewise. -/
def State.readCmd (s : State) (owner a : Nat) (k : State → State) : State :=
  s.ifHeard owner a false fun s => if s.answers a then k s else if s.aon then s.offBlock owner a false else s

/-! ### Claims (R46–R50, R431) -/

/-- Does the resource ID name a resource (R46)? -/
def validRes (r : Nat) : Bool :=
  decide (r / 0x1000 = 1 ∧ r % 0x1000 < 64 ∨ r / 0x1000 = 2 ∧ r % 0x1000 < 16 ∨ r / 0x1000 = 3 ∧ r % 0x1000 < 16 ∨
    r / 0x1000 = 4 ∧ r % 0x1000 < 8 ∨ r / 0x1000 = 5 ∧ r % 0x1000 < 8 ∨ r / 0x1000 = 6 ∧ r % 0x1000 < 4 ∨
    r / 0x1000 = 7 ∧ r % 0x1000 < 96)

/-- The owner of a resource; 0 where it is free. -/
def State.ownerOf (s : State) (r : Nat) : Nat := look 0 s.claims.owner r

/-- Does Ocquel hold the resource? -/
def State.preempted (s : State) (r : Nat) : Bool := decide (look 0 s.claims.preempted r = 1)

/-- May this owner write the configuration of the resource (R48, R50)? -/
def State.mayConfigure (s : State) (owner r : Nat) : Bool := decide (s.ownerOf r = owner ∧ owner ≠ 0) && !s.preempted r

/-- The votes of client 15 on domain `d`: the WAKE actions in force (R274). -/
def State.triggerVotes (s : State) (d : Nat) : Bool :=
  (List.range 16).any fun k => (look {} s.time.trigs k).votes.testBit d

/-- Client `c`'s vote on domain `d` is raised or withdrawn. -/
def State.vote (s : State) (c d : Nat) (up : Bool) : State :=
  if 1 ≤ d ∧ d ≤ 18 then s.wr ⟨Reg.PWR_DOM_VOTE d, c, 1⟩ (if up then 1 else 0) else s

/-- A trigger's WAKE votes become `m`; client 15's vote words follow. -/
def State.setTriggerVotes (s : State) (k m : Nat) : State :=
  let t := look {} s.time.trigs k
  let s := { s with time := { s.time with trigs := put {} s.time.trigs k { t with votes := m } } }
  (List.range 19).foldl (fun s d => s.vote 15 d (s.triggerVotes d)) s

/-- A claim ends: the record goes, and a trigger's WAKE votes with it (R274). -/
def State.unclaim (s : State) (r : Nat) : State :=
  let s := { s with claims := { s.claims with owner := put 0 s.claims.owner r 0 } }
  if r / 0x1000 = 2 then s.setTriggerVotes (r % 0x1000) 0 else s

/-! ### Transactions: the parts other chapters need (R42, R43) -/

def State.txn (s : State) (n : Nat) : Txn := look {} s.txns n

def State.setTxn (s : State) (n : Nat) (t : Txn) : State := { s with txns := put {} s.txns n t }

/-- The owner of domain `n`'s transaction has accessed its journal or its registers (R43). -/
def State.touch (s : State) (owner n : Nat) : State := if (s.txn n).owner = owner then s.mark (.txn n) else s

/-- The result an owner reads in TXN_STATn. -/
def State.setResult (s : State) (owner n code : Nat) : State :=
  { s with txnResult := put 0 s.txnResult (owner * 4 + n) code }

/-- A transaction is aborted by the device: the journal goes, the owner reads the code, a crumb is written (R43). -/
def State.txnAbort (s : State) (n code : Nat) : State :=
  let t := s.txn n
  let s := (s.setTxn n { afterAbort := true }).setResult t.owner n code
  (s.addCrumb 0x06 0xFF t.owner [BitVec.ofNat 32 n, BitVec.ofNat 32 code]).sat F.TXN_AUTOABORT_COUNT

/-- Is the transaction OPEN, ARMED or FAILED? -/
def Txn.held (t : Txn) : Bool := decide (t.state = .opened ∨ t.state = .armed ∨ t.state = .failed)

/-- A register channel's transfer ends: from RUN through PAUSING, from PAUSED or HALTED at once (R369). -/
def State.stopBch (s : State) (c : Nat) : State :=
  let st := s.rd (F.DMA_BCH_STAT_STATE c)
  if st = 1 ∨ st = 2 then
    let b := look {} s.dma.bch c
    { s.wr (F.DMA_BCH_STAT_STATE c) 2 with
      dma := { (s.wr (F.DMA_BCH_STAT_STATE c) 2).dma with bch := put {} s.dma.bch c { b with stopping := true } } }
  else if st = 3 ∨ st = 4 then s.wr (F.DMA_BCH_STAT_STATE c) 0
  else s

/-- A program channel returns to IDLE and abandons any work (R360). -/
def State.resetPch (s : State) (p : Nat) : State :=
  let x := look {} s.lyz.engines (40 + p)
  let s := s.wr (F.DMA_PCH_STAT_STATE p) 0
  { s with lyz := { s.lyz with engines := put {} s.lyz.engines (40 + p) { x with wait := .none, moved := 0 } } }

/-- A claim ends because its owner is reset: the crumb, and the STOP of a running channel (R49, R375, log 34). -/
def State.releaseByReset (s : State) (owner r : Nat) : State :=
  let s := (s.unclaim r).addCrumb 0x07 0xFF owner [BitVec.ofNat 32 r, 1]
  if r / 0x1000 = 3 then s.stopBch (r % 0x1000) else if r / 0x1000 = 4 then s.resetPch (r % 0x1000) else s

/-- An owner is reset: its transactions abort with OWNER_RESET, its claims are released with a crumb each (R43, R49). -/
def State.ownerReset (s : State) (owner : Nat) : State :=
  let s := (List.range 4).foldl (fun s n =>
    if (s.txn n).held && decide ((s.txn n).owner = owner) then s.txnAbort n 9 else s) s
  s.claims.owner.foldl (fun s e => if s.ownerOf e.1 = owner then s.releaseByReset owner e.1 else s) s

/-! ### Pacing sources (R366) -/

/-- The level of the source that pacing entry `p` selects; none for a reserved one. -/
def State.paceLevel (s : State) (p : Nat) : Option Nat :=
  match s.rd (F.DMA_PACE_CFG_SEL p) with
  | 0 => some (look 0 s.dma.level p)
  | 1 =>
    let n := max 1 (s.rd F.TRK_RAW_SIZE_RECORDS)
    some ((s.rd F.TRK_RAW_WR_INDEX + n - s.rd F.TRK_RAW_RD_INDEX % n) % n)
  | 2 =>
    let n := 2 ^ (max 2 (min 10 (s.rd F.MILL_HIT_CFG_LOG2SIZE)))
    some ((s.rd F.MILL_HIT_WR_INDEX + n - s.rd F.MILL_HIT_RD_INDEX % n) % n)
  | 3 => some s.host.uartRx.length
  | 4 => some s.host.hspiOut.length
  | 5 => some s.net.txts.length
  | _ => none

/-- Bytes in one unit of the level that entry `p` selects. -/
def State.paceUnit (s : State) (p : Nat) : Nat :=
  match s.rd (F.DMA_PACE_CFG_SEL p) with
  | 1 => 128
  | 2 => 64
  | 4 => 4
  | 5 => 16
  | _ => 1

/-- HI; one at or below LO acts as LO + 1. -/
def State.paceHi (s : State) (p : Nat) : Nat := max (s.rd (F.DMA_PACE_CFG_HI p)) (s.rd (F.DMA_PACE_CFG_LO p) + 1)

/-- READY of entry `p` follows its level with hysteresis. -/
def State.paceOne (s : State) (p : Nat) : State :=
  let set (v : Nat) : State := { s with dma := { s.dma with ready := put 0 s.dma.ready p v } }
  match s.paceLevel p with
  | none => set 0
  | some l => if s.paceHi p ≤ l then set 1 else if l ≤ s.rd (F.DMA_PACE_CFG_LO p) then set 0 else s

/-- A level or a pacing register has changed; entries count while SEQ is in Run. -/
def State.pace (s : State) : State := if s.inRun 18 then (List.range 16).foldl State.paceOne s else s

/-- Is pacing source `p` READY? -/
def State.paceReady (s : State) (p : Nat) : Bool := decide (look 0 s.dma.ready p = 1)

/-! ### Straps (R23, R58, R376) -/

/-- Is reference input `i` absent (R19, R72)? -/
def State.gone (s : State) (i : Nat) : Bool := decide (look 0 s.rf.refGone i = 1)

def State.setGone (s : State) (i : Nat) (gone : Bool) : State :=
  { s with rf := { s.rf with refGone := put 0 s.rf.refGone i (if gone then 1 else 0) } }

/-- REF_KHZ: the nominal frequency of the reference in kHz by REF_SEL (R58). -/
def State.strapKhz (s : State) : Nat := [10000, 12800, 19200, 20000, 25000, 26000, 40000].getD s.boot.refSel 0

/-- The nominal frequency of a REFIN input in kHz: with REF_SEL 0b111 that of the board's reference (log 20). -/
def State.refinKhz (s : State) : Nat := if 7 ≤ s.boot.refSel then s.straps.refKhz else s.strapKhz

end Sys2Proof.Machine
end

