-- ==== Sys2Proof/Machine/Frames.lean ====
section
/-! DEFINITION. Host frames (R27), event rings (R194) and command queues (R191). -/

namespace Sys2Proof.Machine

/-! ### Host frames (R27) -/

/-- One bit of CRC-32C, reflected. -/
def crc32cBit (c : Nat) : Nat := if c % 2 = 1 then (c / 2) ^^^ 0x82F63B78 else c / 2

/-- The CRC-32C register after one more byte. -/
def crc32cByte (c b : Nat) : Nat :=
  crc32cBit (crc32cBit (crc32cBit (crc32cBit (crc32cBit (crc32cBit (crc32cBit (crc32cBit (c ^^^ b))))))))

/-- CRC-32C of a byte string. -/
def crc32c (bs : List Nat) : Nat := (bs.foldl crc32cByte 0xFFFFFFFF) ^^^ 0xFFFFFFFF

/-- The low `n` bytes of a number, least significant first. -/
def leBytes : Nat → Nat → List Nat
  | 0, _ => []
  | n + 1, v => v % 256 :: leBytes n (v / 256)

/-- The number a byte string spells, least significant first. -/
def leNum : List Nat → Nat
  | [] => 0
  | b :: bs => b % 256 + 256 * leNum bs

/-- A host frame on the wire: sync, length, type, payload, CRC-32C over length, type and payload. -/
def frameBytes (kind : Nat) (payload : List Nat) : List Nat :=
  let body := leBytes 2 payload.length ++ [kind] ++ payload
  [0xB7, 0x5A] ++ body ++ leBytes 4 (crc32c body)

/-- A byte string as 32-bit words; the bytes that fill up the last word are `pad`. -/
def wordsOf (pad : Nat) : List Nat → List Word
  | a :: b :: c :: d :: rest => BitVec.ofNat 32 (leNum [a, b, c, d]) :: wordsOf pad rest
  | [] => []
  | l => [BitVec.ofNat 32 (leNum (l ++ leBytes (4 - l.length) pad))]

/-- A frame to the strapped host: kept in order, and over SPI its words wait in the frame FIFO where they fit; the fill of the last
word is a free value (log 31). -/
def State.sendFrame (s : State) (kind : Nat) (payload : List Nat) : State :=
  if ¬ s.inRun 17 ∨ s.host.sel = 3 then s
  else
    let s := { s with frames := s.frames ++ [⟨kind, payload⟩] }
    if s.host.sel ≠ 1 then s
    else
      let (pad, s) := s.draw
      let ws := wordsOf pad (frameBytes kind payload)
      if 1024 < s.host.hspiOut.length + ws.length then s
      else ({ s with host := { s.host with hspiOut := s.host.hspiOut ++ ws } } : State).pace

/-- The bytes of words, each least significant byte first. -/
def bytesOfWords (ws : List Word) : List Nat := ws.flatMap fun w => leBytes 4 w.toNat

/-- 2^LOG2SIZE entries, LOG2SIZE held to 3–12. -/
def queueSize (f : Nat) : Nat := 2 ^ (max 3 (min 12 f))

/-! ### What the device itself writes into system SRAM -/

/-- The first byte of the program store that is not the firmware's (R176). -/
def State.fwEnd (s : State) : Nat := 0x10780000 + 4 * s.rd F.LYZ_PS_FW_FW_WORDS

/-- Is the address one of the firmware's words in the program store? -/
def State.isFw (s : State) (a : Nat) : Bool := decide (0x10780000 ≤ a ∧ a < s.fwEnd)

/-- Every pod's program cache drops the lines that `n` bytes from `a` on lie in (R160). -/
def State.dropLines (s : State) (a n : Nat) : State :=
  let keep (l : Nat) : Bool := decide (a + n ≤ 0x10780000 + 64 * l ∨ 0x10780000 + 64 * l + 64 ≤ a)
  { s with fabric := { s.fabric with pods := s.fabric.pods.map fun e => (e.1, { e.2 with cache := e.2.cache.filter keep }) } }

/-- Stores the low `n` bytes of a number from `a` on, as far as they lie in system SRAM and not from `lo` up to `hi`. -/
def State.putBytes (s : State) (lo hi : Nat) : Nat → Nat → Nat → State
  | _, 0, _ => s
  | a, n + 1, v =>
    (if 0x10000000 ≤ a ∧ a < 0x10800000 ∧ (a < lo ∨ hi ≤ a) then s.setByte a (BitVec.ofNat 8 v) else s).putBytes lo hi (a + 1) n (v / 256)

/-- A unit of the device, which is none of cores 0–3, stores `n` bytes from `a` on: nothing of it reaches the firmware's words, or an address
outside system SRAM (R176; log 134). -/
def State.putRam (s : State) (a n v : Nat) : State :=
  let s := (s.putBytes 0x10780000 s.fwEnd a n v).dropLines a n
  { s with ecc := s.ecc.filter fun e => decide (4 * e.1 < a ∨ a + n < 4 * e.1 + 4) }

/-- A unit of the device stores words from `a` on. -/
def State.putWords (s : State) (a : Nat) (ws : List Word) : State := s.putRam a (4 * ws.length) (leNum (bytesOfWords ws))

/-! ### Event rings (R194) -/

/-- A byte of a queue or ring: in host memory with HOSTMEM, else in the device. -/
def State.ringLoad (s : State) (host : Bool) (a n : Nat) : Nat := if host then s.hostLoad a n else s.load a n

def State.ringStore (s : State) (host : Bool) (a n v : Nat) : State := if host then s.hostStore a n v else s.putRam a n v

/-- The 64-bit address in a pair of registers; the high word counts for host memory only. -/
def State.ringBase (s : State) (host : Bool) (lo hi : Nat) : Nat :=
  (s.reg lo).toNat + (if host then 2 ^ 32 * (s.reg hi).toNat else 0)

def State.eventSize (s : State) (n : Nat) : Nat := queueSize (s.rd (F.LYZ_CTX_ECFG_LOG2SIZE n))

/-- Is event ring `n` full? -/
def State.ringFull (s : State) (n : Nat) : Bool :=
  decide ((s.rd (F.LYZ_CTX_EHEAD_INDEX n) + 1) % s.eventSize n = s.rd (F.LYZ_CTX_ETAIL_INDEX n) % s.eventSize n)

/-- An event entry is posted to ring `n`, made visible, announced, and sent as a frame over SPI and UART; or dropped and counted. -/
def State.postEvent (s : State) (n owner type tag status : Nat) (p0 p1 : Word := 0) : State :=
  if s.ringFull n then s.sat (F.LYZ_CTX_EVDROP_COUNT n)
  else
    let host := s.on (F.LYZ_CTX_ECFG_HOSTMEM n)
    let words : List Word := [BitVec.ofNat 32 (type + 256 * owner + 65536 * (tag % 65536)), BitVec.ofNat 32 status, p0, p1]
    let bytes := bytesOfWords words
    let head := s.rd (F.LYZ_CTX_EHEAD_INDEX n)
    let a := s.ringBase host (Reg.LYZ_CTX_EBASE_LO n) (Reg.LYZ_CTX_EBASE_HI n) + 16 * head
    let s := s.ringStore host a 16 (leNum bytes)
    let s := (s.wr (F.LYZ_CTX_EHEAD_INDEX n) ((head + 1) % s.eventSize n)).signal n
    if s.host.sel = 1 ∨ s.host.sel = 2 then s.sendFrame 0x11 bytes else s

/-- A Lyzovel signal is set (R190). -/
def State.setSignal (s : State) (n : Nat) : State := if s.inRun 1 then s.wr ⟨Reg.LYZ_SIG, n % 32, 1⟩ 1 else s

/-! ### Command queues (R191) -/

def State.queueSz (s : State) (n : Nat) : Nat := queueSize (s.rd (F.LYZ_CTX_QCFG_LOG2SIZE n))

/-- Entries that wait in queue `n`. -/
def State.queueFill (s : State) (n : Nat) : Nat :=
  (s.rd (F.LYZ_CTX_QTAIL_INDEX n) + s.queueSz n - s.rd (F.LYZ_CTX_QHEAD_INDEX n) % s.queueSz n) % s.queueSz n

/-- Where slot `i` of queue `n` lies. -/
def State.queueAddr (s : State) (n i : Nat) : Nat :=
  s.ringBase (s.on (F.LYZ_CTX_QCFG_HOSTMEM n)) (Reg.LYZ_CTX_QBASE_LO n) (Reg.LYZ_CTX_QBASE_HI n) + 32 * i

/-- Word `j` of slot `i` of queue `n`. -/
def State.queueWord (s : State) (n i j : Nat) : Word :=
  let a := s.queueAddr n i + 4 * j
  if s.on (F.LYZ_CTX_QCFG_HOSTMEM n) then BitVec.ofNat 32 (s.hostLoad a 4) else s.seen a j

/-- Entries of eight words go to the next free slots, and the tail passes them; they fit by the caller's check. -/
def State.appendEntries (s : State) (n : Nat) : List Word → Nat → State
  | _, 0 => s
  | ws, k + 1 =>
    let tail := s.rd (F.LYZ_CTX_QTAIL_INDEX n)
    let s := s.ringStore (s.on (F.LYZ_CTX_QCFG_HOSTMEM n)) (s.queueAddr n tail) 32 (leNum (bytesOfWords (ws.take 8)))
    (s.wr (F.LYZ_CTX_QTAIL_INDEX n) ((tail + 1) % s.queueSz n)).appendEntries n (ws.drop 8) k

/-- Whole entries are appended, or all of them discarded with a QUEUE_FULL event (R191). -/
def State.submit (s : State) (owner n : Nat) (ws : List Word) : State :=
  let k := ws.length / 8
  if s.queueFill n + k < s.queueSz n then s.appendEntries n ws k else s.postEvent n owner 0x03 0 0

end Sys2Proof.Machine
end

