-- ==== Sys2Proof/Machine/Lane.lean ====
section
/-! DEFINITION. A lane of the fabric: code generation, the datapath and the NCOs (R122–R132). -/

namespace Sys2Proof.Machine

/-! ### The track context (R139) -/

/-- The first byte of a track's context. -/
def ctxAddr (t : Nat) : Nat := 0x30000000 + 0x200 * t

/-- A field of a track's context: byte offset of its word, lowest bit, width. -/
def State.cx (s : State) (t off lo w : Nat) : Nat := bits (s.ld32 (ctxAddr t + off)) lo w

/-- The bits of the context word at byte offset `off` that the layout names; the others are 0 (R139; log 133). The aiding area and the
program area are their writers'. -/
def ctxMask (off : Nat) : Word :=
  match off with
  | 0x000 => 0x7FFFFFFF
  | 0x004 => 0x1FFFF
  | 0x00C => 0x703FF
  | 0x02C => 0xFFFF
  | 0x030 | 0x034 | 0x038 | 0x03C | 0x06C | 0x078 | 0x07C | 0x0D8 | 0x0DC | 0x128 => 0
  | 0x054 | 0x084 | 0x0D4 | 0x12C | 0x134 => 0xFFFFFF
  | 0x05C => 0x3
  | 0x064 => 0xFFF
  | 0x080 | 0x0AC => 0x1FFF
  | 0x088 | 0x08C | 0x090 | 0x094 | 0x098 | 0x09C | 0x0A0 => 0x7FFFFFF
  | 0x0A4 | 0x0A8 | 0x0BC => 0x1FFFFF
  | 0x0B0 => 0x3FFFFF
  | 0x0B8 => 0xFC000001
  | 0x0D0 => 0xFF
  | _ => BitVec.allOnes 32

/-- A field of a track's context takes a value. -/
def State.setCx (s : State) (t off lo w x : Nat) : State :=
  s.st32 (ctxAddr t + off) (withBits (s.ld32 (ctxAddr t + off)) lo w x)

/-- Two words of a context as one 64-bit number. -/
def State.cx64 (s : State) (t off : Nat) : Nat := s.load (ctxAddr t + off) 8

/-! ### LFSRs and memory codes (R127, R128) -/

/-- The parity of the low bits of a number. -/
def parity : Nat → Nat → Nat
  | 0, _ => 0
  | w + 1, n => (n % 2 + parity w (n / 2)) % 2

/-- One step of an LFSR in Fibonacci form. -/
def lfsrStep (poly n st : Nat) : Nat := st / 2 ||| parity 27 (st &&& poly) <<< (n - 1)

/-- An LFSR after `k` steps. -/
def lfsrRun (poly n st : Nat) : Nat → Nat
  | 0 => st
  | k + 1 => lfsrRun poly n (lfsrStep poly n st) k

/-- LFSR A at chip `c`: reloaded at the code's start and every CG_ARST chips. -/
def State.lfsrA (s : State) (t c : Nat) : Nat :=
  let arst := s.cx t 0xD4 0 24
  lfsrRun (s.cx t 0x88 0 27) (s.cx t 0x80 3 5) (s.cx t 0x8C 0 27) (if arst = 0 then c else c % arst)

/-- LFSR B at chip `c`. -/
def State.lfsrB (s : State) (t c : Nat) : Nat := lfsrRun (s.cx t 0x94 0 27) (s.cx t 0x80 8 5) (s.cx t 0x98 0 27) c

/-- Bit `c` of a code that begins at byte offset `base` of code memory. -/
def State.codeBit (s : State) (base c : Nat) : Nat := (s.byte (0x34000000 + base + c / 8)).toNat / 2 ^ (c % 8) % 2

/-- CODE_LEN; a length of 0 acts as 1 (log 23). -/
def State.codeLen (s : State) (t : Nat) : Nat := max 1 (s.cx t 0x84 0 24)

/-- Chip `c` of the track's primary code, as a bit, INVERT applied. -/
def State.chipBit (s : State) (t c : Nat) : Nat :=
  let raw := match s.cx t 0x80 0 2 with
    | 0 =>
      let b := s.lfsrB t c
      let bo := s.cx t 0xA0 0 27
      (s.lfsrA t c % 2 + (if bo = 0 then b % 2 else parity 27 (b &&& bo))) % 2
    | 1 => s.lfsrA t c % 2
    | _ => s.codeBit (s.cx t 0xA4 0 21) c
  (raw + s.cx t 0x80 2 1) % 2

/-- +1 for bit 0, −1 for bit 1. -/
def signOf (b : Nat) : Int := if b % 2 = 0 then 1 else -1

/-! ### Code phase, in units of 2^-32 chip (R125, R126) -/

/-- The code phase at the first sample of block SEQ_NEXT. -/
def State.codePhase (s : State) (t : Nat) : Nat := s.cx t 0x54 0 24 * 2 ^ 32 + s.cx t 0x50 0 32

/-- The code rate per sample. -/
def State.codeRate (s : State) (t : Nat) : Nat := s.cx t 0x5C 0 2 * 2 ^ 32 + s.cx t 0x58 0 32

/-- Code periods completed between the block's first sample and sample `i`. -/
def State.wrapsAt (s : State) (t i : Nat) : Nat := (s.codePhase t + i * s.codeRate t) / 2 ^ 32 / s.codeLen t

/-- Symbol boundaries passed between the block's first sample and sample `i` (R125). -/
def State.symbolsAt (s : State) (t i : Nat) : Nat := (s.cx t 0x68 10 10 + s.wrapsAt t i) / max 1 (s.cx t 0x68 0 10)

/-- A tap's offset (R126). -/
def State.tapOff (s : State) (t tap : Nat) : Int := signed 16 (s.cx t (0xC0 + 4 * (tap / 2)) (16 * (tap % 2)) 16)

/-- A tap's code phase at sample `i`. -/
def State.tapPhase (s : State) (t tap i : Nat) : Int := s.codePhase t + i * s.codeRate t + s.tapOff t tap * 2 ^ 24

/-! ### Subcarrier and sign (R130–R132) -/

/-- The sine subcarrier of `h` half cycles per chip at chip fraction `f` (2^-32). -/
def sineSub (h f : Nat) : Int := signOf (f * h / 2 ^ 32)

/-- The cosine subcarrier: the sine a quarter cycle on. -/
def cosineSub (h f : Nat) : Int := signOf ((2 * f * h + 2 ^ 32) / 2 ^ 33)

/-- The multiplier of modes 0–4 for the chip at phase `x`; that of CBOC in sixteenths. -/
def State.subcarrier (s : State) (t : Nat) (x : Int) : Int :=
  let h := s.cx t 0xB0 3 5
  let f := (x % 2 ^ 32).toNat
  match s.cx t 0xB0 0 3 with
  | 1 => sineSub h f
  | 2 => cosineSub h f
  | 3 =>
    let second := s.cx t 0xB0 17 4 * sineSub (s.cx t 0xB0 8 5) f
    s.cx t 0xB0 13 4 * sineSub h f + if s.cx t 0xB0 21 1 = 1 then -second else second
  | 4 =>
    let pos := ((s.cx t 0xB8 26 6 : Int) + x / 2 ^ 32 - s.cx t 0x54 0 24) % 33
    if (s.cx64 t 0xB4).testBit pos.toNat then sineSub (s.cx t 0xB0 8 5) f else sineSub h f
  | _ => 1

/-- What a product is divided by: sixteenths with CBOC, sevenths with AltBOC (R132). -/
def State.tapScale (s : State) (t : Nat) : Nat := if s.cx t 0xB0 0 3 = 3 then 16 else if s.cx t 0xB0 0 3 = 5 then 7 else 1

/-- Is the track's subcarrier AltBOC? -/
def State.altBoc (s : State) (t : Nat) : Bool := decide (s.cx t 0xB0 0 3 = 5)

/-- The secondary chip's bit at sample `i`; in AltBOC mode that of side-band code `side`, of the pair A then B (R130). -/
def State.secBit (s : State) (t i side : Nat) : Nat :=
  if s.cx t 0xAC 12 1 = 1 then
    let k := (s.cx t 0x64 0 12 + s.wrapsAt t i) % max 1 (s.cx t 0xAC 0 12)
    s.codeBit (s.cx t 0xA8 0 21) (if s.altBoc t then 2 * k + side else k)
  else 0

/-- The predicted symbol's sign at sample `i`: +1 where wiping is off, or the symbol began with WIPE_VALID 0 (R131). -/
def State.wipeSign (s : State) (t i : Nat) : Int :=
  let y := s.symbolsAt t i
  if s.cx t 0 30 1 = 1 ∧ y < s.cx t 0x68 26 6 ∧ ¬ (y = 0 ∧ (look {} s.fabric.tracks t).bare) then
    signOf (s.cx64 t 0x70 / 2 ^ ((s.cx t 0x68 20 6 + y) % 64))
  else 1

/-- The epoch sign at sample `i`: the secondary chip, but in AltBOC mode, and the predicted symbol. -/
def State.epochSign (s : State) (t i : Nat) : Int := (if s.altBoc t then 1 else signOf (s.secBit t i 0)) * s.wipeSign t i

/-- The complex value of the AltBOC table for the chip at phase `x` of sample `i`: its entry goes by the subcarrier's eighth and by the bits of the
A and the B code, each with its secondary bit; the B code begins at bit CODE_LEN (R132; log 24). -/
def State.altValue (s : State) (t i : Nat) (x : Int) : Int × Int :=
  let f := (x % 2 ^ 32).toNat
  let chip := ((x / 2 ^ 32) % s.codeLen t).toNat
  let side := fun k => (s.chipBit t (chip + k * s.codeLen t) + s.secBit t i k) % 2
  let b := s.byte (0x34000000 + s.cx t 0xBC 0 21 + Config.altIndex (f * s.cx t 0xB0 3 5 * 4 / 2 ^ 32 % 8) (side 0) (side 1) % 32)
  (signed 4 b.toNat, (if Config.altConjugate then -1 else 1) * signed 4 (b.toNat / 16))

/-! ### The datapath (R122) -/

/-- round(7 cos(2π j / 64)). -/
def cosTable : List Int :=
  [7, 7, 7, 7, 6, 6, 6, 5, 5, 4, 4, 3, 3, 2, 1, 1] ++ [0, -1, -1, -2, -3, -3, -4, -4, -5, -5, -6, -6, -6, -7, -7, -7] ++
  [-7, -7, -7, -7, -6, -6, -6, -5, -5, -4, -4, -3, -3, -2, -1, -1] ++ [0, 1, 1, 2, 3, 3, 4, 4, 5, 5, 6, 6, 6, 7, 7, 7]

def cos64 (j : Nat) : Int := cosTable.getD (j % 64) 0
def sin64 (j : Nat) : Int := cosTable.getD ((j + 48) % 64) 0

/-- CARR_RATE. -/
def State.carrRate (s : State) (t : Nat) : Int := signed 32 (s.cx t 0x44 0 32)

/-- The carrier phase of sample `i`, 2^-32 cycle. -/
def State.carrPhase (s : State) (t i : Nat) : Nat := (((s.cx t 0x40 0 32 : Int) + i * s.carrRate t) % 2 ^ 32).toNat

/-- Carrier wipe-off of one sample byte. -/
def State.wiped (s : State) (t i b : Nat) : Int × Int :=
  let j := s.carrPhase t i / 2 ^ 26
  let x := signed 4 b
  let y := signed 4 (b / 16)
  (x * cos64 j + y * sin64 j, y * cos64 j - x * sin64 j)

/-- What sample `i` adds to the I and Q of tap `tap`, in units of 1 / tapScale. -/
def State.tapTerm (s : State) (t tap i b : Nat) : Int × Int :=
  let x := s.tapPhase t tap i
  let (p, q) := s.wiped t i b
  if s.altBoc t then
    let (u, v) := s.altValue t i x
    (s.epochSign t i * (p * u - q * v), s.epochSign t i * (p * v + q * u))
  else
    let v := signOf (s.chipBit t ((x / 2 ^ 32) % s.codeLen t).toNat) * s.subcarrier t x * s.epochSign t i
    (v * p, v * q)

/-- A sum of products, each a fraction over `d`, as the least and the greatest number that rounding can make of it. -/
structure Rounded where
  lo : Int := 0
  hi : Int := 0
  deriving DecidableEq, Repr

def Rounded.add (r : Rounded) (d : Nat) (v : Int) : Rounded := ⟨r.lo + v / d, r.hi - -v / d⟩

/-- The sums over a block of tap `tap`'s products on samples that satisfy `keep`. -/
def State.tapSum (s : State) (t tap : Nat) (keep : Nat → Bool) : Nat → List Nat → Rounded × Rounded
  | _, [] => ({}, {})
  | i, b :: rest =>
    let (x, y) := s.tapSum t tap keep (i + 1) rest
    if keep i then
      let (p, q) := s.tapTerm t tap i b
      (x.add (s.tapScale t) p, y.add (s.tapScale t) q)
    else (x, y)

/-- The I and Q of one enabled tap over a block: its products' sum. Where products are fractions, how they are rounded is open (log 24). -/
def State.tapDump (s : State) (t tap : Nat) (keep : Nat → Bool) (samples : List Nat) : (Int × Int) × State :=
  let (x, y) := s.tapSum t tap keep 0 samples
  if s.tapScale t = 1 then ((x.lo, y.lo), s)
  else
    let (a, s') := s.draw
    let (b, s'') := s'.draw
    ((x.lo + (a : Int) % (x.hi - x.lo + 1), y.lo + (b : Int) % (y.hi - y.lo + 1)), s'')

/-- A dump: the taps' I and Q, a disabled tap zero, and the I and Q of T2 up to the first symbol boundary (R122, R137). `split` says
that the stack has met no boundary yet. -/
def State.dump (s : State) (t : Nat) (split : Bool) (samples : List Nat) : List (Int × Int) × (Int × Int) × State :=
  let (taps, s) := (List.range 8).foldl (fun (acc, s) tap =>
    if s.cx t 0xD0 tap 1 = 1 then
      let (v, s) := s.tapDump t tap (fun _ => true) samples
      (acc ++ [v], s)
    else (acc ++ [((0, 0) : Int × Int)], s)) (([] : List (Int × Int)), s)
  let before := fun i => decide (s.symbolsAt t i = 0)
  if ¬ split ∨ s.cx t 0xD0 2 1 = 0 then (taps, (0, 0), s)
  else if s.symbolsAt t (samples.length - 1) = 0 then (taps, taps.getD 2 (0, 0), s)
  else
    let (v, s) := s.tapDump t 2 before samples
    (taps, v, s)

/-- The first sample of 1 … n whose symbol is not the block's first, if there is one. -/
def State.boundaryIn (s : State) (t n : Nat) : Option Nat :=
  let start := s.cx t 0x68 0 10
  let need := max 1 start - s.cx t 0x68 10 10     -- code periods to the boundary
  let phase := s.codePhase t
  let goal := max 1 need * s.codeLen t * 2 ^ 32
  if s.codeRate t = 0 then none
  else
    let i := (goal - phase + s.codeRate t - 1) / s.codeRate t
    if i ≤ n then some (max 1 i) else none

/-! ### Advance over a block (R124, R125) -/

/-- Does a symbol that begins in the next `n` samples, or at START, begin with WIPE_VALID = 0 (R131)? -/
def State.wipeUnder (s : State) (t n : Nat) : Bool :=
  let valid := s.cx t 0x68 26 6
  let syms := s.symbolsAt t n
  decide (s.cx t 0 30 1 = 1) && (decide (valid ≤ syms ∧ 1 ≤ syms) ||
    ((look {} s.fabric.tracks t).fresh && decide (s.cx t 0x68 10 10 = 0 ∧ valid = 0)))

/-- Both NCOs, epoch, secondary index, symbol and pattern positions and the LFSR states move on by `n` samples. -/
def State.advanceNco (s : State) (t n : Nat) : State :=
  let phase := s.codePhase t + n * s.codeRate t
  let chips := phase / 2 ^ 32
  let wraps := s.wrapsAt t n
  let syms := s.symbolsAt t n
  let chip := chips % s.codeLen t
  let carr := (signed 64 (s.cx64 t 0x48) * 2 ^ 32 + s.cx t 0x40 0 32 + n * s.carrRate t) % 2 ^ 96
  let wiping := decide (s.cx t 0 30 1 = 1)
  let valid := s.cx t 0x68 26 6
  let rt := look {} s.fabric.tracks t
  let rt := { rt with fresh := false, bare := if wiping ∧ (1 ≤ syms ∨ rt.fresh) then decide (valid ≤ syms)
                                     else if 1 ≤ syms then decide (valid = 0) else rt.bare }
  let pos := (s.cx t 0xB8 26 6 + (chips - s.cx t 0x54 0 24)) % 33
  let secIdx := (s.cx t 0x64 0 12 + wraps) % max 1 (s.cx t 0xAC 0 12)
  let symPos := (s.cx t 0x68 10 10 + wraps) % max 1 (s.cx t 0x68 0 10)
  let wipeIdx := if wiping then (s.cx t 0x68 20 6 + syms) % 64 else s.cx t 0x68 20 6
  let valid := if wiping then valid - syms else valid
  let epoch := s.cx t 0x60 0 32 + wraps
  let lfsr := decide (s.cx t 0x80 0 2 < 2)
  let a := if lfsr then s.lfsrA t chip else s.cx t 0x90 0 27
  let b := if lfsr then s.lfsrB t chip else s.cx t 0x9C 0 27
  let s := (s.setCx t 0x40 0 32 (carr.toNat % 2 ^ 32)).store (ctxAddr t + 0x48) 8 (carr.toNat / 2 ^ 32)
  let s := ((s.setCx t 0x50 0 32 (phase % 2 ^ 32)).setCx t 0x54 0 24 chip).setCx t 0x60 0 32 epoch
  let s := ((s.setCx t 0x64 0 12 secIdx).setCx t 0x68 10 10 symPos).setCx t 0x68 20 6 wipeIdx
  let s := ((s.setCx t 0x68 26 6 valid).setCx t 0xB8 26 6 pos).setCx t 0x90 0 27 a
  let s := s.setCx t 0x9C 0 27 b
  { s with fabric := { s.fabric with tracks := put {} s.fabric.tracks t rt } }

end Sys2Proof.Machine
end

