-- ==== Sys2Proof/Machine/Pools.lean ====
section
/-! DEFINITION. The memory map (R14, R15, R17). -/

namespace Sys2Proof.Machine

/-- The memory pools of R14. -/
inductive Pool where
  | bootRom | mram | sram | ring | acq | context | code | packet | island
  deriving DecidableEq, Repr

/-- A pool's first and last byte. -/
def Pool.range : Pool → Nat × Nat
  | .bootRom => (0x00000000, 0x0000FFFF)
  | .mram => (0x04000000, 0x047FFFFF)
  | .sram => (0x10000000, 0x107FFFFF)
  | .ring => (0x20000000, 0x205FFFFF)
  | .acq => (0x28000000, 0x283FFFFF)
  | .context => (0x30000000, 0x301FFFFF)
  | .code => (0x34000000, 0x341FFFFF)
  | .packet => (0x38000000, 0x381FFFFF)
  | .island => (0x4F000000, 0x4F03FFFF)

def allPools : List Pool := [.bootRom, .mram, .sram, .ring, .acq, .context, .code, .packet, .island]

/-- The pool that holds address `a`. -/
def poolOf (a : Nat) : Option Pool := allPools.find? fun p => decide (p.range.1 ≤ a ∧ a ≤ p.range.2)

/-- A pool's power domain. -/
def Pool.domain : Pool → Nat
  | .bootRom | .sram | .context | .code => 1
  | .mram => 0
  | .ring => 7
  | .acq => 14
  | .packet => 16
  | .island => 2

/-- The fault source of a pool's uncorrectable ECC errors (R347); the table names none for the Boot ROM. -/
def Pool.eccSource : Pool → Option Nat
  | .bootRom => none
  | .context => some 12
  | .sram => some 13
  | .code => some 14
  | .ring => some 15
  | .acq => some 16
  | .packet => some 17
  | .mram => some 18
  | .island => some 19

/-- The 256 KiB regions of the pools whose content a domain loses when it goes OFF (R317): code memory and the SRAM banks of CORE that are
not retained, the ring, acquisition SRAM and packet SRAM. -/
def lostRegions (d banks : Nat) : List Nat :=
  if d = 1 then (List.range 8).map (0xD00 + ·) ++ ((List.range 32).filter fun r => !banks.testBit (r / 4)).map (0x400 + ·)
  else if d = 7 then (List.range 24).map (0x800 + ·)
  else if d = 14 then (List.range 16).map (0xA00 + ·)
  else if d = 16 then (List.range 8).map (0xE00 + ·)
  else []

/-- Is the pool's power domain in Run? -/
def State.poolUp (s : State) (p : Pool) : Bool := s.inRun p.domain

/-- May `len` bytes from `a` be read: inside one pool that answers? -/
def State.readable (s : State) (a len : Nat) : Bool :=
  match poolOf a with
  | none => false
  | some p => decide (p ≠ .island) && s.poolUp p && decide (a + len ≤ p.range.2 + 1)

end Sys2Proof.Machine
end

