-- ==== Sys2Proof/Machine/Time.lean ====
section
/-! DEFINITION. Kyonino: device time, its discipline, holdover and rebuild (R260–R264, R277–R284). -/

namespace Sys2Proof.Machine

/-! ### The addend, the slew and one FCLK of time -/

/-- The addend in force in 2^-48 ns, held to nominal ±500 ppm (R261). -/
def State.addend (s : State) : Nat :=
  let v := (s.rd F.KYO_ADDEND_HI_INT_HI * 2 ^ 32 + s.rd F.KYO_ADDEND_LO_INT_LO) * 2 ^ 16 + s.rd F.KYO_ADDEND_HI_EXT
  let nominal := 0x208D555555555
  max (nominal - nominal / 2000) (min (nominal + nominal / 2000) v)

/-- KYO_SLEW_MAX in force, ns per second (R278). -/
def State.slewMax (s : State) : Nat := max 1 (min 1000 (s.rd F.KYO_SLEW_MAX_MAX))

/-- The units of Kyo.slew in one picosecond: 1,875 parts of 2^-32 ns. -/
def slewPerPs : Int := 8053063680

/-- The slew one FCLK works off: SLEW_MAX / 491,520,000 ns, or what is left (R278). -/
def State.slewShare (s : State) : Int :=
  let m : Int := s.slewMax * 16384
  held (-m) m s.time.kyo.slew

/-- One re-alignment cycle step of SPLL, 254.31 ps, in 2^-32 ns (R65), to the nearest (log 17). -/
def dcoCycle : Nat := 1092253133

/-- What one FCLK adds to DT and MONO_NS, at most one cycle step in it (R283), with the carry and the remainder it leaves: (2^-32 ns, EXT
accumulator, slew part). -/
def State.fclkShare (s : State) : Nat × Nat × Int :=
  let k := s.time.kyo
  let e := k.ext + s.addend % 2 ^ 16
  let f := k.slewFrac + s.slewShare
  (((s.addend / 2 ^ 16 + e / 2 ^ 16 : Nat) + f / 1875 + k.cycles.sign * dcoCycle).toNat, e % 2 ^ 16, f % 1875)

/-- Kyonino's data changes; KYO_STATE shows a pending step and a pending slew. -/
def State.setKyo (s : State) (k : Kyo) : State :=
  let s := { s with time := { s.time with kyo := k } }
  (s.wr F.KYO_STATE_STEP_PEND (if k.step.isSome then 1 else 0)).wr F.KYO_STATE_SLEWING (if k.slew ≠ 0 then 1 else 0)

/-- DT and MONO_NS after one period of the reference, in SPLL bypass (R64, R283). -/
def State.timeTickRef (s : State) (refKhz : Nat) : State :=
  if s.dtRuns then
    let k := s.time.kyo
    let t := k.dtRem + 1000000 * 2 ^ 32
    let add := t / max 1 refKhz
    s.setKyo { k with dt := k.dt + add, mono := k.mono + add, dtRem := t % max 1 refKhz }
  else s

/-- KYO_SLEW_REM: the pending slew in ps, toward zero, held at ±(2^31 − 1) (log 15). -/
def State.slewRem (s : State) : Int := held (-0x7FFFFFFF) 0x7FFFFFFF (Int.tdiv s.time.kyo.slew slewPerPs)

/-- DT moves by `v` in 2^-16 ps, announced or in a re-alignment: the anchor of check 4 and its time move with it (R249). -/
def NavSt.moveAnchor (n : NavSt) (v : Int) : NavSt :=
  { n with anchor := n.anchor.map fun a => ⟨a.value + v, a.epoch + v / 65536⟩ }

/-! ### Estimate, budget and squelch (R280) -/

/-- The error estimate of the present state, in ps, held at 32 bits; LOCKED leaves the last one (log 16). -/
def State.estimate (s : State) : Nat :=
  let st := s.rd F.KYO_STATE_STATE
  let e0 := s.rd F.KYO_HOLD_E0_E0
  if st = 0 then s.rd F.KYO_EST_ERR_EST_ERR
  else if st = 3 then min 0xFFFFFFFF (e0 + s.slewRem.natAbs)
  else
    let ms := s.time.kyo.holdMs
    min 0xFFFFFFFF ((e0 * 65536000000 + s.rd F.KYO_HOLD_A1_A1 * ms * 65536000 + s.rd F.KYO_HOLD_A2_A2 * ms * ms) / 65536000000)

/-- Does the estimate exceed the budget? A LOCKED Kyonino is within it (log 16). -/
def State.overBudget (s : State) : Bool :=
  decide (s.rd F.KYO_STATE_STATE ≠ 0 ∧ s.rd F.KYO_HOLD_BUDGET_NS * 1000 < s.rd F.KYO_EST_ERR_EST_ERR)

/-- Are the pulse outputs squelched (R280)? -/
def State.squelched (s : State) : Bool := s.overBudget && !s.on F.KYO_CTRL_SQUELCH

/-- The budget and squelch rules as EST_ERR, the budget and SQUELCH stand (R277, R280). -/
def State.squelchRule (s : State) : State :=
  let s := if s.overBudget ∧ s.rd F.KYO_STATE_STATE = 1 then
    (s.wr F.KYO_STATE_STATE 2).event F.KYO_EVT_BUDGET else s
  let st := s.rd F.KYO_STATE_STATE
  let s := s.wr F.KYO_HOLD_S_HOLD_S (if st = 1 ∨ st = 2 then s.time.kyo.holdMs / 1000 else 0)
  (List.range 4).foldl (fun s n => s.wr (F.TP_STAT_SQUELCHED n) (if s.squelched then 1 else 0)) s

/-- EST_ERR follows, then the budget and squelch rules (R277, R280). -/
def State.budgetRule (s : State) : State := (s.wr F.KYO_EST_ERR_EST_ERR s.estimate).squelchRule

/-- In RECOVERING the estimate follows the pending slew at every moment (R280). -/
def State.recoverRule (s : State) : State := if s.rd F.KYO_STATE_STATE = 3 then s.budgetRule else s

/-- DT and MONO_NS after one FCLK period (R261, R278, R283). -/
def State.timeTick (s : State) : State :=
  if s.dtRuns then
    let k := s.time.kyo
    let (add, ext, frac) := s.fclkShare
    (s.setKyo { k with
      dt := k.dt + add, mono := k.mono + add, ext := ext, slew := k.slew - s.slewShare, slewFrac := frac
      cycles := k.cycles - k.cycles.sign }).recoverRule
  else s

/-! ### State changes (R277) -/

/-- A pending slew and an armed step are cancelled and the time in the state starts again; check 4 will re-anchor (R249). -/
def State.kyoCancel (s : State) : State :=
  let s := if s.time.kyo.step.isSome then s.event F.KYO_EVT_STEP_CANCEL else s
  let s : State := { s with nav := { s.nav with wasLocked := false } }
  s.setKyo { s.time.kyo with step := none, slew := 0, slewFrac := 0, holdMs := 0 }

/-- Kyonino enters HOLDOVER. -/
def State.enterHoldover (s : State) : State :=
  ((s.kyoCancel.wr F.KYO_STATE_STATE 1).event F.KYO_EVT_HOLDOVER).budgetRule

/-- Kyonino enters FREERUN. -/
def State.enterFreerun (s : State) : State := (s.kyoCancel.wr F.KYO_STATE_STATE 4).budgetRule

/-- Kyonino enters LOCKED. -/
def State.enterLocked (s : State) : State := ((s.wr F.KYO_STATE_STATE 0).event F.KYO_EVT_LOCKED).budgetRule

/-- The source is lost, or SPLL enters bypass: LOCKED and RECOVERING become HOLDOVER. -/
def State.loseSource (s : State) : State :=
  if s.rd F.KYO_STATE_STATE = 0 ∨ s.rd F.KYO_STATE_STATE = 3 then s.enterHoldover else s

/-- A slew or a step is pending. -/
def State.correcting (s : State) : Bool := decide (s.time.kyo.slew ≠ 0) || s.time.kyo.step.isSome

/-- KYO_CMD LOCK (R277); ignored in SPLL bypass (R285). -/
def State.kyoLock (s : State) (sol : Nat) : State :=
  if s.on F.KYO_STATE_SPLL_BYP then s
  else
    let s := s.wr F.KYO_STATE_SOL sol
    let st := s.rd F.KYO_STATE_STATE
    if st = 0 ∨ st = 3 then s
    else if s.correcting then (s.wr F.KYO_STATE_STATE 3).budgetRule
    else s.enterLocked

/-- The step in KYO_STEP_SEC and KYO_STEP_NS, in ns, where the two form one (R279). -/
def State.stepValue (s : State) : Option Int :=
  let sec := s.rdS F.KYO_STEP_SEC_SEC
  let ns := s.rdS F.KYO_STEP_NS_NS
  if ns.natAbs ≤ 999999999 ∧ ¬ (0 < sec ∧ ns < 0) ∧ ¬ (sec < 0 ∧ 0 < ns) then some (sec * 1000000000 + ns) else none

/-- May this step be armed (R279)? -/
def State.stepAllowed (s : State) (v : Int) : Bool :=
  s.on F.KYO_CTRL_STEP_ALLOW && decide (s.rd F.KYO_STEP_THRESH_THRESH ≤ v.natAbs) &&
  (decide (0 ≤ v) || s.on F.KYO_CTRL_STEP_BACK_ALLOW) && s.time.kyo.step.isNone

/-- KYO_CMD STEP: the step is armed, or refused with STEP_REFUSED (R279). -/
def State.armStep (s : State) : State :=
  match s.stepValue with
  | none => s.event F.KYO_EVT_STEP_REFUSED
  | some v =>
    if s.stepAllowed v then s.setKyo { s.time.kyo with step := some v, stepArmedAt := s.now }
    else s.event F.KYO_EVT_STEP_REFUSED

/-- KYO_CMD SUSPECT (R282). -/
def State.kyoSuspect (s : State) (up : Bool) : State :=
  (s.setKyo { s.time.kyo with suspectLeft := if up then 8 else 0 }).wr F.KYO_STATE_SUSPECT (if up then 1 else 0)

/-- A write to KYO_SLEW adds signed picoseconds to the pending slew (R278). -/
def State.addSlew (s : State) (v : Word) : State :=
  let k := s.time.kyo
  (s.setKyo { k with slew := k.slew + signed 32 v.toNat * slewPerPs }).recoverRule

/-- Re-alignment cycle steps, each for the addend of an FCLK to come (R65, R283); check 4's anchor moves by them (R249). -/
def State.cycleSteps (s : State) (n : Int) : State :=
  if s.dtOk then
    let s := { s with nav := s.nav.moveAnchor (n * dcoCycle * 1000 / 65536) }
    s.setKyo { s.time.kyo with cycles := s.time.kyo.cycles + n }
  else s

/-! ### LEAVEN's record and the rebuild (R284) -/

/-- LEAVEN records MONO_NS, the RTC and KYO_RTC_PPB, at an XTAL32 tick with DT counting. -/
def State.recordTime (s : State) : State :=
  if s.dtRuns then
    { s with time := { s.time with record := some ⟨s.time.kyo.mono, s.rtc.count, s.rd F.KYO_RTC_PPB_PPB⟩ } }
  else s

/-- An RTC count (2^-32 s) in units of 2^-32 ns. -/
def rtcToDt (c : Nat) : Nat := c * 1000000000

/-- The rebuild at the first XTAL32 tick after TIME entered Run. `byp` says that SPLL is in bypass. -/
def State.rebuild (s : State) (byp : Bool) : State :=
  let now := s.rtc.count
  let (mono, ppb, src) := match s.time.record with
    | none => (0, 1000, 0xFFFFFFFF)
    | some r =>
      let elapsed := now - r.rtc
      (max (r.mono + 2 ^ 32) (r.mono + rtcToDt elapsed), r.ppb,
        min 0xFFFFFFFF ((r.ppb * elapsed + 2 ^ 32 - 1) / 2 ^ 32 + 30518))
  let src := if s.on F.RTC_STAT_SET then src else 0xFFFFFFFF
  let s := s.setKyo { s.time.kyo with valid := true, dt := rtcToDt now, mono := mono, ext := 0, cycles := 0, dtRem := 0, nowRem := 0 }
  let s := (s.wr F.KYO_RTC_PPB_PPB ppb).wr F.KYO_SRC_ERR_SRC_ERR src
  let s := s.wr F.KYO_HOLD_E0_E0 (min 0xFFFFFFFF (src * 1000))
  let s := ((s.wr F.KYO_STATE_SOL 5).wr F.KYO_STATE_SPLL_BYP (if byp then 1 else 0)).event F.KYO_EVT_REBUILT
  s.enterFreerun

/-! ### Reads with a latch (R262–R264) -/

/-- DT as it can be read: 0 while it does not exist. -/
def State.dtNow (s : State) : Nat := if s.dtOk then s.time.kyo.dt else 0

/-- MONO_NS, whole nanoseconds. -/
def State.monoNow (s : State) : Nat := if s.dtOk then inNs s.time.kyo.mono % 2 ^ 64 else 0

/-- TS32 (R263). -/
def State.ts32 (s : State) : Word := BitVec.ofNat 32 (inNs s.dtNow)

/-- A read of KYO_DT_NS latches the seconds and fraction for its owner (R262). -/
def State.readDt (s : State) (owner : Nat) : State :=
  let k := s.time.kyo
  ({ s with time := { s.time with kyo := { k with dtLatch := put 0 k.dtLatch owner s.dtNow } } }).okay owner
    (BitVec.ofNat 32 (dtNs s.dtNow))

/-- A read of KYO_MONO_LO latches KYO_MONO_HI for its owner (R264; per owner: log 18). -/
def State.readMono (s : State) (owner : Nat) : State :=
  let k := s.time.kyo
  ({ s with time := { s.time with kyo := { k with monoLatch := put 0 k.monoLatch owner s.monoNow } } }).okay owner
    (BitVec.ofNat 32 s.monoNow)

/-! ### The commands -/

/-- LOCK (R277). -/
def execLock (owner sol : Nat) (s : State) : Out := .next (s.command owner Reg.KYO_CMD (·.kyoLock sol))

/-- HOLDOVER (R277). -/
def execHoldover (owner : Nat) (s : State) : Out := .next (s.command owner Reg.KYO_CMD State.loseSource)

/-- FREERUN (R277). -/
def execFreerun (owner : Nat) (s : State) : Out := .next (s.command owner Reg.KYO_CMD State.enterFreerun)

/-- STEP (R279). -/
def execStep (owner : Nat) (s : State) : Out := .next (s.command owner Reg.KYO_CMD State.armStep)

/-- SUSPECT (R282). -/
def execSuspect (owner : Nat) (up : Bool) (s : State) : Out := .next (s.command owner Reg.KYO_CMD (·.kyoSuspect up))

/-- SLEW (R278). -/
def execSlew (owner : Nat) (v : Word) (s : State) : Out := .next (s.command owner Reg.KYO_SLEW (·.addSlew v))

/-- SLEW_COMPLETE (R277): with nothing pending, RECOVERING becomes LOCKED. -/
def execSlewComplete (s : State) : Out :=
  .next (s.whenB (s.dtOk && decide (s.rd F.KYO_STATE_STATE = 3) && !s.correcting) State.enterLocked)

/-- EST_ERR_UPDATE (R280): one more millisecond in the state. -/
def execEstErrUpdate (s : State) : Out :=
  .next (s.whenB s.dtOk fun s =>
    let st := s.rd F.KYO_STATE_STATE
    let s := if st = 1 ∨ st = 2 ∨ st = 4 then s.setKyo { s.time.kyo with holdMs := s.time.kyo.holdMs + 1 } else s
    s.budgetRule)

/-- A TIME crumb: 1 master rejected, 2 NODE_ID conflict; the offset in ps in 64 bits (R356). -/
def State.timeCrumb (s : State) (what : Nat) (ps : Int) : State :=
  let u := unsigned 64 ps
  s.addCrumb 0x0A 0xFF 0 [BitVec.ofNat 32 what, BitVec.ofNat 32 u, BitVec.ofNat 32 (u / 2 ^ 32)]

/-- DT_READ (R262). -/
def execDtRead (owner : Nat) (s : State) : Out := .next (s.readCmd owner Reg.KYO_DT_NS (·.readDt owner))

/-- MONO_READ (R264). -/
def execMonoRead (owner : Nat) (s : State) : Out := .next (s.readCmd owner Reg.KYO_MONO_LO (·.readMono owner))

end Sys2Proof.Machine
end

