-- ==== Sys2Proof/Machine/Links.lean ====
section
/-! DEFINITION. Ethernet links as clocks and power see them (R63, R286, R308). -/

namespace Sys2Proof.Machine

/-- A port's link is down: its frames are dropped (R308). -/
def State.dropLink (s : State) (p : Nat) : State :=
  if s.on (F.NP_STAT_LINK p) then
    let s := (s.wr (F.NP_STAT_LINK p) 0).wr (F.NP_STAT_S p) 0
    { s with net := { s.net with queues := put [] s.net.queues p [] } }
  else s

/-- Are the twelve RGMII balls NP2's (R395)? -/
def State.rgmii (s : State) : Bool := (List.range 12).all fun b => decide (s.rd (F.PAD_FUNC_FUNC b) = 1)

/-- The clock in kHz that MFB14 or MFB15 puts out as RCLK: the recovered clock of NP0 or NP1, driven from NET, while the link is up (R298,
R395; log 183). -/
def State.rclk (s : State) (b : Nat) : Option Nat :=
  if (b = 14 ∨ b = 15) ∧ s.rd (F.PAD_FUNC_FUNC b) = 1 ∧ s.inRun 16 ∧ s.on (F.NP_STAT_LINK (b - 14)) then some 25000 else none

/-- The links NPLL clocks go down. -/
def State.dropLinks (s : State) : State := [0, 1, 2].foldl State.dropLink s

end Sys2Proof.Machine
end

