-- ==== Sys2Proof/Machine/Rf.lean ====
section
/-! DEFINITION. Aerial ports and the RF front end (R74–R99). ADC m serves group m mod 3 of port m / 3; LO synthesiser g serves
group g. -/

namespace Sys2Proof.Machine

/-! ### Invalid reasons of the running millisecond (R111) -/

/-- FLAGS bits of the invalid reasons. -/
def loOffBit : Nat := 2
def loCalBit : Nat := 4
def spllBypBit : Nat := 8
def tunerBit : Nat := 16
def chainOffBit : Nat := 32
def restartBit : Nat := 64
def pinDropBit : Nat := 128

/-- The blocks that ADC m feeds in the running millisecond are invalid for this reason. -/
def State.markAdc (s : State) (bit m : Nat) : State :=
  { s with sample := { s.sample with adcReasons := put 0 s.sample.adcReasons m (look 0 s.sample.adcReasons m ||| bit) } }

/-- The four ADCs of a group, and the three of a port. -/
def groupAdcs (g : Nat) : List Nat := [g, 3 + g, 6 + g, 9 + g]
def portAdcs (p : Nat) : List Nat := [3 * p, 3 * p + 1, 3 * p + 2]

def State.markAdcs (s : State) (bit : Nat) (ms : List Nat) : State := ms.foldl (·.markAdc bit ·) s

/-- Is an ADPLL LOCKED? -/
def State.locked (s : State) (p : Nat) : Bool := decide (s.rd (F.PLL_STAT_STATE p) = 2)

def State.port (s : State) (p : Nat) : Port := look {} s.rf.ports p

def State.setPort (s : State) (p : Nat) (x : Port) : State := { s with rf := { s.rf with ports := put {} s.rf.ports p x } }

/-! ### The calibration injector (R91–R95) -/

/-- INJ_STAT.STATEg: 0 OFF, 1 ON, 2 SUSPENDED, 3 WAITING. -/
def injState (g : Nat) : Fld := ⟨Reg.INJ_STAT, 2 * g, 2⟩

/-- A group calibrates now. -/
def State.calibrating (s : State) (g : Nat) : Bool := decide (look 0 s.rf.calRunning g = 1)

/-- A group is ready for INJ: LO LOCKED and not calibrating. -/
def State.injReady (s : State) (g : Nat) : Bool := s.locked g && !s.calibrating g

/-- Is group g injecting into port p: SAMPLE and the port's domain in Run, its generator on (R81, R95)? -/
def State.injecting (s : State) (g p : Nat) : Bool :=
  s.inRun 7 && s.inRun (3 + p) && decide (s.rd (injState g) = 1) && (s.rd (F.INJ_GRP_CFG_PORT_MASK g)).testBit p

/-- While group 0 does not inject into a port, its return loss is not valid and no alarm of it stands (R81). -/
def State.rlSync (s : State) : State :=
  (List.range 4).foldl (fun s p =>
    if s.injecting 0 p then s
    else ((s.wr (F.RFP_RL_VALID p) 0).setPort p { s.port p with lowRl := 0 }).lower (43 + p)) s

/-- A generator that is on gates off. -/
def State.injSuspend (s : State) (g : Nat) : State := if s.rd (injState g) = 1 then (s.wr (injState g) 2).rlSync else s

/-- A suspended generator resumes once its group is ready (R94). -/
def State.injResume (s : State) (g : Nat) : State :=
  if s.rd (injState g) = 2 ∧ s.injReady g then s.wr (injState g) 1 else s

/-- The groups of a mask. -/
def groupsOf (mask : Nat) : List Nat := (List.range 3).filter mask.testBit

/-- Every masked group starts or stops on one SCLK edge. -/
def State.injApply (s : State) (start : Bool) (mask : Nat) : State :=
  let s := (groupsOf mask).foldl (fun s g => s.wr (injState g) (if start then 1 else 0)) s
  let s := (s.wr F.INJ_STAT_RESULT 0).rlSync
  { s with rf := { s.rf with injWait := none } }

/-- An INJ_CMD: executed, made to wait, or refused while another waits (R93). -/
def State.injCommand (s : State) (start : Bool) (mask : Nat) : State :=
  if s.rf.injWait.isSome then s.wr F.INJ_STAT_RESULT 2
  else if (groupsOf mask).all s.injReady then s.injApply start mask
  else
    let s := { (s.wr F.INJ_STAT_RESULT 3).mark .injWait with rf := { s.rf with injWait := some ⟨start, mask⟩ } }
    if start then (groupsOf mask).foldl (fun s g => if s.rd (injState g) = 0 then s.wr (injState g) 3 else s) s else s

/-- INJ_START. -/
def execInjStart (owner mask : Nat) (s : State) : Out := .next (s.command owner Reg.INJ_CMD (·.injCommand true mask))

/-- INJ_STOP. -/
def execInjStop (owner mask : Nat) (s : State) : Out := .next (s.command owner Reg.INJ_CMD (·.injCommand false mask))

/-- INJ_CMD_READY: a waiting command executes once every masked group is ready. -/
def execInjCmdReady (s : State) : Out :=
  .next (match s.rf.injWait with
  | none => s
  | some w => if (groupsOf w.mask).all s.injReady then s.injApply w.start w.mask else s)

/-- The groups a waiting START showed as WAITING are off again. -/
def State.injUnwait (s : State) : State :=
  (List.range 3).foldl (fun s g => if s.rd (injState g) = 3 then s.wr (injState g) 0 else s)
    { s with rf := { s.rf with injWait := none } }

/-- INJ_CMD_TIMEOUT: the waiting command fails and no group changes. -/
def execInjCmdTimeout (s : State) : Out :=
  .next (s.whenB (s.rf.injWait.isSome && s.inRun 7 && s.ranMs .injWait 1) fun s => s.injUnwait.wr F.INJ_STAT_RESULT 1)

/-! ### Return loss and tuner (R81–R83) -/

/-- RL_ESTIMATE: one 100 ms estimate, in 0.1 dB. -/
def execRlEstimate (p rl : Nat) (s : State) : Out :=
  .next (s.whenB (decide (p < 4) && s.inRun (3 + p)) fun s =>
    if s.injecting 0 p then
      let s := (s.wr (F.RFP_RL_RL p) (min 1023 rl)).wr (F.RFP_RL_VALID p) 1
      let n := if rl < s.rd (F.RFP_RLCFG_THR p) then (s.port p).lowRl + 1 else 0
      let s := s.setPort p { s.port p with lowRl := min 2 n }
      if 2 ≤ n then (s.wr (F.RFP_EVT_RL_ALARM p) 1).raise (43 + p) 0 (s.reg (Reg.RFP_RL p))
      else if n = 0 then s.lower (43 + p) else s
    else s.rlSync)

/-- RFPn_CMD.AUTOTUNE (R83). -/
def State.autotune (s : State) (p : Nat) : State :=
  if s.on (F.RFP_STAT_TUNE_BUSY p) then s
  else if ¬ s.injecting 0 p then s.wr (F.RFP_STAT_TUNE_REFUSED p) 1
  else s.wr (F.RFP_STAT_TUNE_BUSY p) 1

/-- AUTOTUNE. -/
def execAutotune (owner p : Nat) (s : State) : Out :=
  .next (if p < 4 then s.command owner (Reg.RFP_CMD p) (·.autotune p) else s)

/-- AUTOTUNE_DONE: the code found best goes to RFPn_TUNE; GRID_BOUNDARY applies it. -/
def execAutotuneDone (p ser shunt : Nat) (s : State) : Out :=
  .next (s.whenB (decide (p < 4) && s.inRun (3 + p) && s.on (F.RFP_STAT_TUNE_BUSY p)) fun s =>
    let s := (s.wr (F.RFP_TUNE_C_SER p) ser).wr (F.RFP_TUNE_C_SHUNT p) shunt
    (s.wr (F.RFP_STAT_TUNE_BUSY p) 0).wr (F.RFP_EVT_TUNE_DONE p) 1)

/-! ### Antenna bias (R84, R85) -/

/-- Is the bias on? -/
def State.biasOn (s : State) (p : Nat) : Bool :=
  s.inRun (3 + p) && s.on (F.RFP_CTRL_BIAS_EN p) && !s.on (F.RFP_BIAS_TRIPPED p)

/-- A flag follows two consecutive samples; its event is set when it rises. -/
def State.biasFlag (s : State) (flag evt : Fld) (run : Nat) : State :=
  if 2 ≤ run then (if s.on flag then s else (s.wr flag 1).wr evt 1) else s.wr flag 0

/-- BIAS_SENSE: one sample, in mA. -/
def execBiasSense (p ma : Nat) (s : State) : Out :=
  .next (s.whenB (decide (p < 4) && s.inRun (3 + p) && s.on (F.RFP_CTRL_BIAS_EN p)) fun s =>
    let x := s.port p
    let x := { x with openRun := if ma < 2 then x.openRun + 1 else 0, shortRun := if 120 < ma then x.shortRun + 1 else 0 }
    let s := (s.wr (F.RFP_BIAS_CURRENT p) (min 255 ma)).setPort p x
    let s := s.biasFlag (F.RFP_BIAS_OPEN p) (F.RFP_EVT_OPEN p) x.openRun
    s.biasFlag (F.RFP_BIAS_SHORT p) (F.RFP_EVT_SHORT p) x.shortRun)

/-- BIAS_TRIP: a short that has lasted SHORT_MS samples of 1 ms switches the bias off. -/
def execBiasTrip (p : Nat) (s : State) : Out :=
  .next (s.whenB (decide (p < 4) && s.biasOn p && s.on (F.RFP_BIAS_SHORT p) &&
      decide (max 1 (s.rd (F.RFP_BIASCFG_SHORT_MS p)) ≤ (s.port p).shortRun)) fun s =>
    let s := (s.wr (F.RFP_BIAS_TRIPPED p) 1).wr (F.RFP_EVT_TRIP p) 1
    s.raise (47 + p) 0 (s.reg (Reg.RFP_BIAS p)))

/-- The bias conditions and their counters are cleared, and the port's bias source falls. -/
def State.biasClear (s : State) (p : Nat) : State :=
  let s := ((s.wr (F.RFP_BIAS_OPEN p) 0).wr (F.RFP_BIAS_SHORT p) 0).wr (F.RFP_BIAS_TRIPPED p) 0
  (s.setPort p { s.port p with openRun := 0, shortRun := 0 }).lower (47 + p)

/-- BIAS_RETRY: a tripped bias restarts with its counters cleared. -/
def execBiasRetry (owner p : Nat) (s : State) : Out :=
  .next (if p < 4 then s.command owner (Reg.RFP_CMD p) fun s => s.whenB (s.on (F.RFP_BIAS_TRIPPED p)) (·.biasClear p) else s)

/-! ### LO calibration (R88–R90, R99) -/

def calBusy (g : Nat) : Fld := ⟨Reg.ADC_LOCAL_STAT, g, 1⟩
def calPending (g : Nat) : Fld := ⟨Reg.ADC_LOCAL_STAT, 3 + g, 1⟩
def calNolock (g : Nat) : Fld := ⟨Reg.ADC_LOCAL_STAT, 6 + g, 1⟩
def calAbort (g : Nat) : Fld := ⟨Reg.ADC_LOCAL_STAT, 9 + g, 1⟩

/-- ADC_LOCAL_CMD.CAL: each masked group is scheduled, flagged NOLOCK, or ignored when already busy. -/
def State.loCalCommand (s : State) (mask : Nat) : State :=
  (groupsOf mask).foldl (fun s g =>
    if s.on (calBusy g) then s else if s.locked g then s.wr (calBusy g) 1 else s.wr (calNolock g) 1) s

/-- LO_CAL_COMMAND. -/
def execLoCalCommand (owner mask : Nat) (s : State) : Out := .next (s.command owner Reg.ADC_LOCAL_CMD (·.loCalCommand mask))

/-- LO_CALIBRATION: a scheduled calibration of group g runs inside this millisecond. -/
def execLoCalibration (g : Nat) (s : State) : Out :=
  .next (s.whenB (decide (g < 3) && s.on (calBusy g) && !s.calibrating g) fun s =>
    if s.locked g then
      let s := { s with rf := { s.rf with calRunning := put 0 s.rf.calRunning g 1 } }
      (s.markAdcs loCalBit (groupAdcs g)).injSuspend g
    else (s.wr (calBusy g) 0).wr (calNolock g) 1)

/-- The LO of group g has been re-locked or calibrated: the next records of its tracks show it (R233, R242). -/
def State.loMoved (s : State) (g : Nat) : State :=
  { s with rf := { s.rf with loMoves := put 0 s.rf.loMoves g (look 0 s.rf.loMoves g + 1) } }

/-- LO_CAL_COMPLETE: the TS0 reading is recorded, PENDING clears, INJ resumes. -/
def execLoCalComplete (g : Nat) (s : State) : Out :=
  .next (s.whenB (decide (g < 3) && s.calibrating g) fun s =>
    let t := (s.rdS (F.MON_TEMP_TEMP 0) + 2048).toNat
    let s := { s with rf := { s.rf with calRunning := put 0 s.rf.calRunning g 0, calTemp := put 0 s.rf.calTemp g t } }
    (((s.loMoved g).wr (calBusy g) 0).wr (calPending g) 0).injResume g)

/-- A calibration of group g that runs is abandoned: ABORT is set and PENDING set again (R99). -/
def State.loCalAbort (s : State) (g : Nat) : State :=
  if s.calibrating g then
    let s := { s with rf := { s.rf with calRunning := put 0 s.rf.calRunning g 0 } }
    (((s.loMoved g).wr (calBusy g) 0).wr (calAbort g) 1).wr (calPending g) 1
  else s

/-- The LO of group g gates off: its blocks are invalid, its calibration is abandoned, its generator is suspended (R63, R94). -/
def State.loOff (s : State) (g : Nat) : State := ((s.markAdcs loOffBit (groupAdcs g)).loCalAbort g).injSuspend g

/-! ### External blanking (R97, R98) -/

/-- Points of [lo, hi) that spans cover, each once. -/
def coveredIn (lo hi : Nat) : List (Nat × Nat) → Nat
  | [] => 0
  | (a, b) :: rest =>
    let a := max lo (min hi a)
    let b := max a (min hi b)
    -- of this span, what no later span of the list covers as well
    (b - a) + coveredIn lo hi rest - overlap a b rest
where
  /-- Points of [a, b) that the spans cover. -/
  overlap (a b : Nat) : List (Nat × Nat) → Nat
    | [] => 0
    | (c, d) :: rest =>
      let c' := max a (min b c)
      let d' := max c' (min b d)
      (d' - c') + overlap a c' rest + overlap d' b rest

/-- ADC samples of the last millisecond of the grid that BLANK0–BLANK3 blanked in ADC m. -/
def State.blankCount (s : State) (m : Nat) : Nat :=
  coveredIn (s.sample.gridCount - 245760) s.sample.gridCount (look [] s.sample.blanked m)

/-- An assertion whose LEAD reaches back to `lo`, before the last boundary, still counts in the millisecond that has ended: the samples lie
in the delay line (R98). -/
def State.recount (s : State) (m lo : Nat) : State :=
  if lo < s.sample.gridCount ∧ s.inRun (3 + m / 3) then s.wr (F.ADC_BLANKCNT_COUNT m) (s.blankCount m) else s

/-- BLANK_ASSERT: an assertion of input k, `start` SCLK periods after the last boundary and `width` periods long. -/
def execBlankAssert (k start width : Nat) (s : State) : Out :=
  .next (s.whenB (decide (k < 4) && s.inRun 1 && s.inputOn (28 + k) 0 && s.on (F.ADC_BLANK_CFG_EN k) &&
      decide (s.rd (F.ADC_BLANK_CFG_GLITCH k) ≤ width)) fun s =>
    let lo := s.sample.gridCount + start - min 2457 (s.rd (F.ADC_BLANK_LEAD_LEAD k))
    let hi := s.sample.gridCount + start + width + s.rd (F.ADC_BLANK_LAG_LAG k)
    (List.range 12).foldl (fun s m =>
      if (s.rd (F.ADC_BLANK_MASK_MASK k)).testBit m then
        let spans := look [] s.sample.blanked m ++ [(lo, hi)]
        ({ s with sample := { s.sample with blanked := put [] s.sample.blanked m spans } }).recount m lo
      else s) s)

end Sys2Proof.Machine
end

