-- ==== Sys2Proof/Machine/Votes.lean ====
section
/-! DEFINITION. Votes, the states of the power domains they cause, and what stops at once when a domain leaves Run (R20, R309–R313). -/

namespace Sys2Proof.Machine

/-! ### Votes and the states they cause (R309–R313) -/

/-- Has domain `d` a direct vote? -/
def State.voted (s : State) (d : Nat) : Bool := decide (s.rd (F.PWR_DOM_VOTE_VOTES d) ≠ 0)

/-- Is a domain of 3–18 voted for, or not yet off (log 69)? -/
def State.busyDomain (s : State) (e : Nat) : Bool := s.voted e || decide (s.dom e ≠ 0)

/-- The domains above CORE and OCQ. -/
def upperDomains : List Nat := (List.range 16).map (· + 3)

/-- Is domain `d` held by an implied vote: has a domain that implies it a direct vote (R20)? -/
def State.implied (s : State) (d : Nat) : Bool := upperDomains.any fun e => (impliesAll e).contains d && s.voted e

/-- Is OCQ forced on (R20): is one of domains 3–18 voted for, or not off yet (log 69)? -/
def State.forced (s : State) : Bool := upperDomains.any s.busyDomain

/-- Is domain `d` needed? -/
def State.needed (s : State) (d : Nat) : Bool :=
  s.voted d || s.implied d || (decide (d = 2) && s.forced)

/-- A commit that addresses domain `d` is LANDING (R38); CORE drains under no landing at all (R43). -/
def State.landingOn (s : State) (d : Nat) : Bool :=
  (List.range 4).any fun n => decide ((s.txn n).state = .landing) &&
    (decide (d = 1) || (s.txn n).journal.any fun e => decide (domainOf e.addr = some d))

/-- The state domain `d` takes in the next cycle with no event of its own: WAKING when needed, DRAINING when not. -/
def State.nextDom (s : State) (d : Nat) : Nat :=
  if s.dom d = 0 then
    if s.needed d && !s.power.stopUpdate && (implies d).all s.inRun then 1 else 0
  else if s.dom d = 2 then
    if s.needed d || s.landingOn d then 2 else 3
  else s.dom d

/-- Does any DMA channel hold SEQ (R360)? -/
def State.dmaWants (s : State) : Bool :=
  (List.range 16).any (fun c => !([0, 5].contains (s.rd (F.DMA_BCH_STAT_STATE c)))) ||
  (List.range 8).any (fun c => !([0, 7, 8].contains (s.rd (F.DMA_PCH_STAT_STATE c))))

/-- The votes hardware holds: the DMA on SEQ while a channel works, pod n while it has tracks and POD_HOLD is set, the Mill while entries
are in flight and MILL_HOLD is (R309). -/
def State.hardwareVotes (s : State) : State :=
  let s := s.vote 7 18 s.dmaWants
  let s := (List.range 6).foldl (fun s p =>
    s.vote (8 + p) (8 + p) (decide (s.rd (F.TRK_PODCNT_COUNT p) ≠ 0) && s.on F.PWR_CTRL_POD_HOLD)) s
  s.vote 14 14 (decide (s.rd F.MILL_STAT_INFLIGHT ≠ 0) && s.on F.PWR_CTRL_MILL_HOLD)

/-- Owners that are reset when a domain leaves Run (R431). -/
def ownersOf (d : Nat) : List Nat :=
  if d = 1 then [1, 2, 3, 4] else if d = 17 then [16]
  else if d = 18 then (List.range 8).map (· + 8) ++ (List.range 8).map (· + 48) else []

/-- A domain has just left Run: its owners are reset (R431). -/
def State.ownersLeave (s t : State) (d : Nat) : State :=
  if s.dom d = 2 ∧ t.dom d = 3 then (ownersOf d).foldl State.ownerReset t else t

/-- A port's RF domain leaves Run: its running blocks have no chain (R111), an AUTOTUNE or LO calibration that runs ends (R99), and
nothing is injected into it (R95). -/
def State.rfLeaves (s : State) (p : Nat) : State :=
  let s := (s.markAdcs chainOffBit (portAdcs p)).wr (F.RFP_STAT_TUNE_BUSY p) 0
  let s := (List.range 3).foldl (fun s g => (s.loCalAbort g).injResume g) s
  ((List.range 3).foldl (fun s g => s.wr (F.INJ_BIAS_VALID (3 * p + g)) 0) s).rlSync

/-- What stops at once when domain `d` leaves Run: a port's chains; the injector; the contexts, which read OFF (R195). -/
def State.leavesRun (s : State) (d : Nat) : State :=
  if 3 ≤ d ∧ d ≤ 6 then s.rfLeaves (d - 3)
  else if d = 7 then { s.rlSync with power := { s.rlSync.power with drainGrid := s.sample.gridCount } }
  else if d = 15 then { s with power := { s.power with drainTick := s.ticks } }
  else if d = 18 then (List.range 8).foldl (fun s n => s.wr (F.LYZ_CTX_STAT_STATE n) 0) s
  else s

/-- Has a domain with owners of its own just left Run? -/
def State.ownersLeft (s t : State) : Bool := [1, 17, 18].any fun d => decide (s.dom d = 2 ∧ t.dom d = 3)

/-- Each domain takes its next state (R311). OCQ's drain ends a non-FATAL safe state (R359) and every preemption (R431), CORE's aborts
every held transaction (R43), and the owners of a domain that leaves Run are reset (R431). -/
def State.settleOnce (s : State) : State := s.oneCycle fun s =>
  let t := (List.range 18).foldl (fun t i =>
    let d := i + 1
    let t := (t.wr (F.PWR_DOM_STAT_STATE d) (s.nextDom d)).whenB (decide (s.dom d = 2 ∧ s.nextDom d = 3)) (·.mark (.drain d))
    let t := t.wr (F.PWR_DOM_STAT_IMPLIED d) (if s.implied d then 1 else 0)
    t.wr (F.PWR_DOM_STAT_FORCED d) (if d = 2 ∧ s.forced then 1 else 0)) s
  let t := if s.dom 2 = 2 ∧ t.dom 2 = 3 ∧ t.on F.OCQ_STAT_SAFE then (if t.safety.fatal then t.preempt false else t.exitSafe) else t
  let t := if s.dom 1 = 2 ∧ t.dom 1 = 3 then
    (List.range 4).foldl (fun t n => if (t.txn n).held then t.txnAbort n 4 else t) t
  else t
  let t := upperDomains.foldl (fun t d => if s.dom d = 2 ∧ t.dom d = 3 then t.leavesRun d else t) t
  [1, 17, 18].foldl (State.ownersLeave s) t

/-- Votes and states settle; WAKE votes are withdrawn when TIME leaves Run (R274) and with the claims of owners that are reset (R431,
R49), which the next cycle sees. -/
def State.settle (s : State) : State :=
  let s := s.hardwareVotes
  let t := s.settleOnce
  if s.dom 15 = 2 ∧ t.dom 15 ≠ 2 then ((List.range 16).foldl (fun t k => t.setTriggerVotes k 0) t).settleOnce
  else if s.ownersLeft t then t.hardwareVotes.settleOnce else t

/-- A wake source fires: client 20 votes on its mask, the cause is recorded (R316). -/
def State.wake (s : State) (cause mask : Nat) : State :=
  let s := (s.wr F.PWR_WAKESTAT_CAUSE cause).event F.PWR_EVT_WAKE
  let s := (List.range 19).foldl (fun s d =>
    if mask.testBit d then (s.vote 20 d true).wr ⟨Reg.PWR_WAKE_HOLD, d, 1⟩ 1 else s) s
  s.settle

end Sys2Proof.Machine
end

