-- ==== Sys2Proof/Machine/Clocks.lean ====
section
/-! DEFINITION. The six ADPLLs, the reference inputs and the clock monitor (R52–R73). ADPLLs are numbered 0 LO1, 1 LO2, 2 LO5,
3 SPLL, 4 CPLL, 5 NPLL. -/

namespace Sys2Proof.Machine

def State.pll (s : State) (p : Nat) : Pll := look {} s.rf.plls p

def State.setPll (s : State) (p : Nat) (x : Pll) : State := { s with rf := { s.rf with plls := put {} s.rf.plls p x } }

/-! ### State and output -/

/-- STAT.STATE changes; PHASE.VALID clears with it (R67). -/
def State.pllGo (s : State) (p st : Nat) : State :=
  if s.rd (F.PLL_STAT_STATE p) = st then s
  else ((s.wr (F.PLL_STAT_STATE p) st).wr (F.PLL_PHASE_VALID p) 0).setPll p { s.pll p with phaseDue := none }

/-- SPLL's output leaves the PLL: blocks are invalid, and Kyonino is in HOLDOVER on the reference count (R63, R64). -/
def State.spllBypass (s : State) : State :=
  let s := s.markAdcs spllBypBit (List.range 12)
  if s.dtOk then (s.wr F.KYO_STATE_SPLL_BYP 1).loseSource else s

/-- The output moves to its bypass source (R60, R63). -/
def State.pllBypass (s : State) (p : Nat) : State :=
  let was := s.on (F.PLL_STAT_OUT_PLL p) || decide (s.rd (F.PLL_STAT_STATE p) = 2)
  let s := (s.wr (F.PLL_STAT_OUT_PLL p) 0).wr (F.PLL_STAT_ALIGNED p) 0
  let s := (s.wr (F.PLL_STAT_PHLOCK p) 0).wr (F.PLL_STAT_FREQOK p) 0
  if ¬ was then s
  else if p < 3 then s.loOff p
  else if p = 3 then s.spllBypass
  else if p = 5 then s.dropLinks
  else s

/-! ### The lock sequence (R53–R59) -/

/-- The nominal frequency of an ADPLL's input in kHz: the REFIN reference; 25 MHz for a recovered clock, and for a REFSEL that names no
input of the ADPLL (log 20). -/
def State.refKhz (s : State) (input : Nat) : Nat := if 2 ≤ input then 25000 else s.refinKhz

/-- Is the configuration one that cannot lock (R53)? -/
def State.pllBad (s : State) (p : Nat) : Bool :=
  decide (s.rd (F.PLL_NINT_INT p) < 16 ∨ s.rd (F.PLL_NDEN_DEN p) = 0 ∨ s.rd (F.PLL_NDEN_DEN p) ≤ s.rd (F.PLL_NNUM_NUM p) ∨
    s.rd (F.PLL_LF_KP_M p) = 0 ∨ s.rd (F.PLL_LF_KI_M p) = 0)

/-- Does a band entry hold f_DCO = f_ref × (NINT + NUM / DEN)? -/
def State.bandFits (s : State) (p n : Nat) : Bool :=
  let den := s.rd (F.PLL_NDEN_DEN p)
  let f := s.refKhz (s.pll p).input * (s.rd (F.PLL_NINT_INT p) * den + s.rd (F.PLL_NNUM_NUM p))
  s.on (F.PLL_BAND_C_VALID p n) &&
  decide (s.rd (F.PLL_BAND_A_FLO p n) * den ≤ f ∧ f ≤ s.rd (F.PLL_BAND_B_FHI p n) * den)

/-- The entry R55 selects. -/
def State.bandOf (s : State) (p : Nat) : Option Nat := (List.range 16).find? (s.bandFits p)

/-- Is an input qualified for ADPLL p: a REFIN by the clock monitor's own 10 ms (R62), a recovered clock by its link, which of NP2
runs at 1 Gb/s (R297, log 20)? -/
def State.inputOk (s : State) (p input : Nat) : Bool :=
  if input = 0 then s.on F.CLK_REFSTAT_A_OK
  else if input = 1 then s.on F.CLK_REFSTAT_B_OK
  else decide (p = 5 ∧ input ≤ 4) && s.on (F.NP_STAT_LINK (input - 2)) && (decide (input ≠ 4) || decide (s.rd (F.NP_STAT_S 2) = 1))

/-- QUAL_MS of the LOCKCFG in force, which a committed word becomes at the next reference edge (R71); of the register while the ADPLL is off.
0 acts as 1. -/
def State.qualMs (s : State) (p : Nat) : Nat :=
  max 1 (if s.rd (F.PLL_STAT_STATE p) = 0 then s.rd (F.PLL_LOCKCFG_QUAL_MS p)
    else bits (s.pll p).lockcfg (F.PLL_LOCKCFG_QUAL_MS p).lo (F.PLL_LOCKCFG_QUAL_MS p).w)

/-- Has the input been in range for ADPLL p's own QUAL_MS (R62)? When the monitor qualified a REFIN, it had been so for 10 ms. -/
def State.inputQual (s : State) (p input : Nat) : Bool :=
  s.inputOk p input && (decide (2 ≤ input) || decide (s.qualMs p * 491520 ≤ 10 * 491520 + (s.now - look 0 s.rf.okAt input)))

/-- The divider every alignment epoch must hold a multiple of; 0 for an ADPLL that does not align (R54). -/
def alignOf (p : Nat) : Nat := if p = 3 then 16 else if p = 5 then 100 else 0

/-- Does the present ratio fail to align? -/
def State.alignErr (s : State) (p : Nat) : Bool :=
  decide (alignOf p ≠ 0 ∧ (s.rd (F.PLL_NINT_INT p) * s.rd (F.PLL_NDEN_DEN p) + s.rd (F.PLL_NNUM_NUM p)) % alignOf p ≠ 0)

/-- The loop runs at fine word `w`, held at CLAMP, whose overrun is an event (R56). -/
def State.setFine (s : State) (p w : Nat) : State :=
  let clamp := (s.pll p).clamp
  if clamp < w / 4096 then (s.wr (F.PLL_DCOWORD_FINE p) (clamp * 4096)).wr (F.PLL_EVT_CLAMPED p) 1
  else s.wr (F.PLL_DCOWORD_FINE p) w

/-- The spread in force for a committed SSC word: DEPTH held to the mode's limit, FMOD to 30–33 kHz (R69). -/
def sscInForce (w : Word) : Word :=
  let depth := bits w 2 6
  let depth := if bits w 0 2 = 1 then min 50 depth else if bits w 0 2 = 2 then min 25 depth else depth
  withBits (withBits w 2 6 depth) 8 6 (max 30 (min 33 (bits w 8 6)))

/-- Step 1 of R59: the band entry is selected, the fine code starts at 2,048, clamped (no event: log 129), and the committed LF, LOCKCFG
and SSC are taken; the loop hunts once its reference is qualified. -/
def State.lockStep1 (s : State) (p : Nat) : State :=
  match s.bandOf p with
  | none => (s.wr (F.PLL_STAT_NOBAND p) 1).setPll p { s.pll p with locking := false }
  | some n =>
    let clamp := s.rd (F.PLL_BAND_C_CLAMP p n)
    let s := ((s.wr (F.PLL_STAT_NOBAND p) 0).wr (F.PLL_STAT_ENTRY p) n).wr (F.PLL_STAT_BAND p) (s.rd (F.PLL_BAND_C_BAND p n))
    let s := (s.wr (F.PLL_DCOWORD_BAND p) (s.rd (F.PLL_BAND_C_BAND p n))).wr (F.PLL_DCOWORD_FINE p) (min 2048 clamp * 4096)
    s.setPll p { s.pll p with
      clamp, locking := s.on (F.PLL_STAT_REF_OK p)
      lf := s.reg (Reg.PLL_LF p), lockcfg := s.reg (Reg.PLL_LOCKCFG p), ssc := sscInForce (s.reg (Reg.PLL_SSC p)) }

/-- R59 from step 1 with the output in bypass: STATE reads ACQUIRE from OFF, BYPASS otherwise (R60) and where the sequence cannot run;
ALIGN_ERR is judged here (log 129). The grid counts from SPLL's leaving OFF (R102). -/
def State.startLock (s : State) (p : Nat) : State :=
  let wasOff := decide (s.rd (F.PLL_STAT_STATE p) = 0)
  let s := s.pllBypass p
  let s := if wasOff ∧ p = 3 then { s with sample := { s.sample with gridCount := 0, boundaryNow := s.now, blanked := [] } } else s
  let s := (s.wr (F.PLL_STAT_CFG_ERR p) (if s.pllBad p then 1 else 0)).wr (F.PLL_STAT_NOBAND p) 0
  let s := s.wr (F.PLL_STAT_ALIGN_ERR p) 0
  if s.pllBad p then (s.setPll p { s.pll p with locking := false }).pllGo p 4
  else
    let s := (s.lockStep1 p).wr (F.PLL_STAT_ALIGN_ERR p) (if s.alignErr p then 1 else 0)
    s.pllGo p (if wasOff && !s.on (F.PLL_STAT_NOBAND p) then 1 else 4)

/-- STAT.REF_OK; the frequency error reads 0 while it is 0. -/
def State.setRefOk (s : State) (p : Nat) (ok : Bool) : State :=
  if ok then s.wr (F.PLL_STAT_REF_OK p) 1 else (s.wr (F.PLL_STAT_REF_OK p) 0).wr (F.PLL_FERR_FERR p) 0

/-- Is `input` qualified as the selected reference? One that was selected before keeps what STAT.REF_OK says of it. -/
def State.selectedOk (s : State) (p input : Nat) : Bool :=
  s.inputQual p input || (decide ((s.pll p).input = input) && s.on (F.PLL_STAT_REF_OK p))

/-- The loop takes its input; another value than an input counts as loss of reference (the REFSEL field). -/
def State.takeInput (s : State) (p input : Nat) : State :=
  let ok := s.selectedOk p input
  let s := (s.setPll p { s.pll p with input }).setRefOk p ok
  if ok then s.lower (26 + p)
  else if input ≤ 1 ∨ (p = 5 ∧ input ≤ 4) then s
  else (s.wr (F.PLL_EVT_LOR p) 1).raise (26 + p) 0 (s.reg (Reg.PLL_STAT p))

/-- REFSEL selects the input of an ADPLL that is off; REF_OK goes on showing whether it is qualified. -/
def State.idleInput (s : State) (p : Nat) : State :=
  let input := s.rd (F.PLL_CTRL_REFSEL p)
  if (s.pll p).input = input then s
  else (s.setPll p { s.pll p with input }).setRefOk p (s.inputQual p input)

/-- EN = 0: the output goes to bypass and the ADPLL is off. CAL_BUSY and REF_OK of STAT stay, and DCOWORD and FERR; the other bits clear
(log 158). -/
def State.pllOff (s : State) (p : Nat) : State :=
  let s := (s.pllBypass p).setReg (Reg.PLL_STAT p) (s.reg (Reg.PLL_STAT p) &&& 0x01040007)
  let s := s.setPll p { s.pll p with locking := false, relock := false }
  ((s.pllGo p 0).lower (20 + p)).lower (26 + p)

/-- Firmware programs NPLL for a SyncE recovered clock: 125 × 25 MHz, an epoch of 4 cycles, and a loop filter of 3 Hz or 0.1 Hz, whose gains
are free but for mantissas other than 0 (R297; log 182). -/
def State.programSyncE (s : State) (p : Nat) : State :=
  if p = 5 ∧ s.firmware ∧ 2 ≤ s.rd (F.PLL_CTRL_REFSEL 5) ∧ s.rd (F.PLL_CTRL_REFSEL 5) ≤ 4 then
    let s := ((s.wr (F.PLL_NINT_INT 5) 125).wr (F.PLL_NNUM_NUM 5) 0).wr (F.PLL_NDEN_DEN 5) 4
    let (w, s) := s.draw
    let s := s.setReg (Reg.PLL_LF 5) (BitVec.ofNat 32 w)
    (s.wr (F.PLL_LF_KP_M 5) (w / 2 ^ 32 % 255 + 1)).wr (F.PLL_LF_KI_M 5) (w / 2 ^ 40 % 255 + 1)
  else s

/-- What a commit of CTRL, NINT, NUM, DEN or a band entry does (R59, R71). `old` is the state before it, `ratio` says that NINT, NUM or DEN
is among what is committed. A commit that mends a configuration error starts R59 (log 129); one of CTRL with the REFSEL it had restarts nothing,
also where a failover has moved the input (log 157). -/
def State.pllCommitted (s old : State) (p : Nat) (ratio : Bool) : State :=
  let en := s.on (F.PLL_CTRL_EN p)
  if ¬ en then (if s.rd (F.PLL_STAT_STATE p) ≠ 0 then s.pllOff p else s).idleInput p
  else if ¬ old.on (F.PLL_CTRL_EN p) then ((s.takeInput p (s.rd (F.PLL_CTRL_REFSEL p))).programSyncE p).startLock p
  else
    let moved := decide (s.rd (F.PLL_CTRL_REFSEL p) ≠ old.rd (F.PLL_CTRL_REFSEL p))
    let s := if moved then (s.takeInput p (s.rd (F.PLL_CTRL_REFSEL p))).programSyncE p else s
    if moved || ratio || decide (s.bandOf p ≠ old.bandOf p) || (s.on (F.PLL_STAT_CFG_ERR p) && !s.pllBad p) then s.startLock p
    else if p = 4 then s.wr (F.PLL_STAT_OUT_PLL p) (if s.locked p && s.on (F.PLL_CTRL_OUTSEL p) then 1 else 0)
    else s

/-- Steps 7 and 8 of R59: the dividers are aligned, the output is the PLL's, STATE is LOCKED. Firmware starts the calibration that a drift of
VDD_CORE has made due (R425; log 177). -/
def State.pllLocked (s : State) (p resid : Nat) : State :=
  let s := s.setPll p { s.pll p with locking := false, relock := false }
  let s := if alignOf p ≠ 0 ∧ ¬ s.on (F.PLL_STAT_ALIGN_ERR p) then s.wr (F.PLL_STAT_ALIGNED p) 1 else s
  let s := (s.pllGo p 2).wr (F.PLL_EVT_LOCKED p) 1
  let s := (s.wr (F.PLL_STAT_OUT_PLL p) (if p = 4 ∧ ¬ s.on (F.PLL_CTRL_OUTSEL p) then 0 else 1)).lower (20 + p)
  let s := if s.on (F.PLL_STAT_ALIGNED p) then
      let epochs := 256 * s.rd (F.PLL_NDEN_DEN p) * 491520 / max 1 (s.refKhz (s.pll p).input)
      s.setPll p { s.pll p with phaseDue := some (s.now + epochs, resid) }
    else s
  if p < 3 then (s.loMoved p).injResume p
  else if p = 3 then
    let s := if s.dtOk then s.wr F.KYO_STATE_SPLL_BYP 0 else s
    s.whenB (s.firmware && s.inRun 15 && s.on F.MON_VCORE_DRIFT) fun s => s.wr F.TP_CAL_STAT_BUSY 1
  else s

/-- Is a frequency error, in 0.01 ppm, within ±100 ppm (R59, R60)? -/
def freqOk (ferr : Int) : Bool := decide (ferr.natAbs ≤ 10000)

/-- ADPLL_LOCKED: the phase criterion is met at fine word `fine`, and a counter window has found `ferr`; within ±100 ppm the loop has
locked, with the averaged residual of R67, but without AUTO_RETURN the output waits for a RELOCK (R59, R61). -/
def execAdpllLocked (p fine resid : Nat) (ferr : Int) (s : State) : Out :=
  .next (s.whenB (decide (p < 6) && s.inRun 1 && (s.pll p).locking && decide (s.rd (F.PLL_STAT_STATE p) ≠ 3)) fun s =>
    let s := ((s.setFine p fine).wr (F.PLL_STAT_PHLOCK p) 1).wr (F.PLL_FERR_FERR p) (unsigned 32 ferr)
    let s := s.wr (F.PLL_STAT_FREQOK p) (if freqOk ferr then 1 else 0)
    if ¬ freqOk ferr then s
    else if s.on (F.PLL_CTRL_AUTO_RETURN p) || (s.pll p).relock then s.pllLocked p resid else s)

/-- CMD.RELOCK (R61, R71); one written while STATE is OFF is ignored (log 160). -/
def State.relock (s : State) (p : Nat) : State :=
  let st := s.rd (F.PLL_STAT_STATE p)
  if st = 2 ∨ st = 3 then s.startLock p
  else if st = 1 ∨ st = 4 then s.setPll p { s.pll p with relock := true }
  else s

/-- RELOCK. -/
def execRelock (owner p : Nat) (s : State) : Out :=
  .next (if p < 6 then s.command owner (Reg.PLL_CMD p) (·.relock p) else s)

/-- CMD.BANDCAL with EN = 0; ignored otherwise, and while one runs. -/
def State.bandcal (s : State) (p n : Nat) : State :=
  if s.on (F.PLL_CTRL_EN p) || s.on (F.PLL_STAT_CAL_BUSY p) then s
  else (s.wr (F.PLL_STAT_CAL_BUSY p) 1).setPll p { s.pll p with calEntry := n }

/-- BANDCAL. -/
def execBandcal (owner p n : Nat) (s : State) : Out :=
  .next (if p < 6 ∧ n < 16 then s.command owner (Reg.PLL_CMD p) (·.bandcal p n) else s)

/-- BANDCAL_DONE: the frequencies at fine codes 0 and 4,095, in kHz. An EN set since BANDCAL does not end it (log 148). -/
def execBandcalDone (p lo hi : Nat) (s : State) : Out :=
  .next (s.whenB (decide (p < 6) && s.inRun 1 && s.on (F.PLL_STAT_CAL_BUSY p)) fun s =>
    let s := (s.wr (F.PLL_STAT_CAL_BUSY p) 0).wr (F.PLL_EVT_CAL_DONE p) 1
    (s.wr (F.PLL_CAL_LO_KHZ p) (min 0x3FFFFF lo)).wr (F.PLL_CAL_HI_KHZ p) (min 0x3FFFFF hi))

/-! ### Loss of lock and of reference (R60–R66) -/

/-- An ADPLL that is locked, or that re-acquires, loses lock: bypass, LOL, its source, and R59 again. -/
def State.loseLock (s : State) (p : Nat) : State :=
  let s := (s.wr (F.PLL_EVT_LOL p) 1).startLock p
  s.raise (20 + p) 0 (s.reg (Reg.PLL_STAT p))

/-- LOSS_OF_LOCK: a counter window has found the frequency error `ferr` (0.01 ppm); beyond ±100 ppm lock is lost (R60).
A loop in BYPASS or ACQUIRE has no lock to lose (log 159). -/
def execLossOfLock (p : Nat) (ferr : Int) (s : State) : Out :=
  .next (s.whenB (decide (p < 6) && s.inRun 1 && decide (s.rd (F.PLL_STAT_STATE p) = 2 ∨ s.rd (F.PLL_STAT_STATE p) = 3) &&
      s.on (F.PLL_STAT_REF_OK p)) fun s =>
    let s := s.wr (F.PLL_FERR_FERR p) (unsigned 32 ferr)
    if freqOk ferr then s else s.loseLock p)

/-- The ADPLL moves to a qualified input: SPLL and NPLL hold over and re-acquire, the others go through bypass (R66). REF_OK and the
re-acquisition wait for its own QUAL_MS (R62). A sequence that EN started stays ACQUIRE (log 155); HOLDOVER clears PHLOCK and FREQOK
(log 129). -/
def State.failover (s : State) (p input : Nat) : State :=
  let ok := s.inputQual p input
  let s := (s.setPll p { s.pll p with input }).wr (F.PLL_EVT_FAILOVER p) 1
  let s := s.setRefOk p ok
  let s := if ok then s.lower (26 + p) else s
  let st := s.rd (F.PLL_STAT_STATE p)
  if s.on (F.PLL_STAT_CFG_ERR p) then s
  else if alignOf p ≠ 0 ∧ (st = 2 ∨ st = 3) then
    (((s.wr (F.PLL_STAT_PHLOCK p) 0).wr (F.PLL_STAT_FREQOK p) 0).setPll p { s.pll p with locking := ok }).pllGo p 3
  else if st = 1 then s.lockStep1 p
  else s.startLock p

/-- The other REFIN input. -/
def otherInput (input : Nat) : Option Nat := if input = 0 then some 1 else if input = 1 then some 0 else none

/-- What R63 does to an ADPLL that loses its reference. In HOLDOVER the phase and frequency criteria are no longer met, and the dividers
stay where they were aligned (log 129). -/
def State.holdOn (s : State) (p : Nat) : State :=
  let st := s.rd (F.PLL_STAT_STATE p)
  let s := s.setPll p { s.pll p with locking := false }
  if alignOf p ≠ 0 ∧ (st = 2 ∨ st = 3) then
    ((s.wr (F.PLL_STAT_PHLOCK p) 0).wr (F.PLL_STAT_FREQOK p) 0).pllGo p 3
  else if st = 2 then (s.pllBypass p).pllGo p 4
  else s.pllBypass p

/-- An ADPLL loses its reference; one that is off only shows it. -/
def State.loseRef (s : State) (p : Nat) : State :=
  if ¬ s.on (F.PLL_STAT_REF_OK p) then s
  else if s.rd (F.PLL_STAT_STATE p) = 0 then s.setRefOk p false
  else
    let s := (s.setRefOk p false).wr (F.PLL_EVT_LOR p) 1
    let s := s.raise (26 + p) 0 (s.reg (Reg.PLL_STAT p))
    match otherInput (s.pll p).input with
    | some i => if s.on (F.PLL_CTRL_FAILOVER p) && s.inputOk p i then s.failover p i else s.holdOn p
    | none => s.holdOn p

/-- A REFIN input is lost: at once it is qualified no more (R62). -/
def State.unqualify (s : State) (input : Nat) : State :=
  if input < 2 then s.wr ⟨Reg.CLK_REFSTAT, input, 1⟩ 0 else s

/-- May the loop make `steps` cycle steps? Beyond half the divider none is possible; at exactly half, cycles are removed (R65). -/
def stepsOk (p : Nat) (steps : Int) : Bool := decide (steps.natAbs * 2 ≤ alignOf p ∧ steps * 2 ≠ alignOf p)

/-- Cycle steps of a re-alignment: SPLL reports each to Kyonino (R65); an ADPLL with ALIGN_ERR makes none (R54). -/
def State.realign (s : State) (p : Nat) (steps : Int) : State :=
  if p = 3 ∧ ¬ s.on (F.PLL_STAT_ALIGN_ERR p) then s.cycleSteps steps else s

/-- LOSS_OF_REFERENCE: no edge for four periods (R62); NP3 loses its clock with REFIN_A (R19). One that comes during a
re-alignment stops it; what steps it has made stay made (R71). -/
def execLossOfReference (loss : RefLoss) (s : State) : Out :=
  let p := loss.pll
  let steps := loss.steps
  .next (s.whenB (decide (p < 6) && s.inRun 1 && s.on (F.PLL_STAT_REF_OK p)) fun s =>
    let s := if s.rd (F.PLL_STAT_STATE p) = 3 ∧ (s.pll p).locking ∧ stepsOk p steps then s.realign p steps else s
    let i := (s.pll p).input
    let s := if i < 2 then s.setGone i true else s
    let s := if i = 0 then s.dropLink 3 else s
    (s.unqualify i).loseRef p)

/-- REFERENCE_RETURN: the reference qualifies again after QUAL_MS; a loop in HOLDOVER resumes, another starts R59 again, and one that is off
only shows it. -/
def execReferenceReturn (p : Nat) (s : State) : Out :=
  .next (s.whenB (decide (p < 6) && s.inRun 1 && !s.on (F.PLL_STAT_REF_OK p) &&
      decide ((s.pll p).input ≤ 1 ∨ (p = 5 ∧ (s.pll p).input ≤ 4))) fun s =>
    let s := (s.wr (F.PLL_STAT_REF_OK p) 1).lower (26 + p)
    if s.rd (F.PLL_STAT_STATE p) = 0 ∨ s.on (F.PLL_STAT_CFG_ERR p) then s
    else if s.rd (F.PLL_STAT_STATE p) = 3 then s.setPll p { s.pll p with locking := true }
    else s.lockStep1 p)

/-- HOLDOVER_RELOCK: re-acquisition, then `steps` cycle steps (positive: added) complete the re-alignment (R65). With ALIGN_ERR none is
made, and ALIGNED stays 0 (R54; log 129). -/
def execHoldoverRelock (p fine resid : Nat) (steps : Int) (s : State) : Out :=
  .next (s.whenB (decide (p < 6 ∧ alignOf p ≠ 0 ∧ s.rd (F.PLL_STAT_STATE p) = 3) && stepsOk p steps && s.inRun 1 &&
      (s.pll p).locking) fun s =>
    let s := ((s.setFine p fine).wr (F.PLL_STAT_PHLOCK p) 1).wr (F.PLL_STAT_FREQOK p) 1
    (s.realign p steps).pllLocked p resid)

/-- ADPLL_DEFERRED_APPLY: 0 LF, 1 LOCKCFG, 2 SSC (CPLL only): the committed word is in force from now on (R71). -/
def execAdpllDeferredApply (p which : Nat) (s : State) : Out :=
  .next (s.whenB (decide (p < 6 ∧ s.rd (F.PLL_STAT_STATE p) ≠ 0) && s.inRun 1) fun s =>
    let x := s.pll p
    match which with
    | 0 => s.setPll p { x with lf := s.reg (Reg.PLL_LF p) }
    | 1 => s.setPll p { x with lockcfg := s.reg (Reg.PLL_LOCKCFG p) }
    | 2 => if p = 4 then s.setPll p { x with ssc := sscInForce (s.reg (Reg.PLL_SSC p)) } else s
    | _ => s)

/-! ### Clock monitor and reference inputs (R62, R72, R73) -/

/-- Is the pair checked at all? -/
def State.monChecks (s : State) (pair : Nat) : Bool :=
  if pair = 0 then s.on F.CLK_REFCFG_A_EN else if pair = 1 then s.on F.CLK_REFCFG_B_EN else decide (pair < 5)

/-- CLKMON_FAULT: pairs 0 REFIN_A, 1 REFIN_B, 2 FIRC, 3 LIRC, 4 XTAL32. A REFIN is lost: it stops being qualified, every ADPLL on it loses
its reference (R62), and NP3 its clock with REFIN_A (R19). -/
def execClkmonFault (pair : Nat) (s : State) : Out :=
  .next (s.whenB (s.inRun 1 && s.monChecks pair) fun s => s.oneCycle fun s =>
    let s := s.wr ⟨Reg.CLK_MONSTAT, pair, 1⟩ 1
    let s := s.raise (32 + pair) 0 (s.reg Reg.CLK_MONSTAT)
    if 2 ≤ pair then s
    else
      let s := (s.unqualify pair).setGone pair true
      let s := if pair = 0 then s.dropLink 3 else s
      (List.range 6).foldl (fun s p => if (s.pll p).input = pair then s.loseRef p else s) s)

/-- CLKMON_RECOVER. -/
def execClkmonRecover (pair : Nat) (s : State) : Out :=
  .next (s.whenB (s.inRun 1 && decide (pair < 5)) fun s =>
    (if pair < 2 then s.setGone pair false else s).lower (32 + pair))

/-- CLKMON_QUALIFIED: REFIN_A (0) or REFIN_B (1) has been within ±5 % for 10 ms; ADPLLs that wait for it fail over (R66). -/
def execClkmonQualified (input : Nat) (s : State) : Out :=
  .next (s.whenB (s.inRun 1 && decide (input < 2) && s.monChecks input) fun s =>
    let s := (s.wr ⟨Reg.CLK_REFSTAT, input, 1⟩ 1).setGone input false
    let s := { s with rf := { s.rf with okAt := put 0 s.rf.okAt input s.now } }
    (List.range 6).foldl (fun s p =>
      if s.on (F.PLL_CTRL_FAILOVER p) && decide (s.rd (F.PLL_STAT_STATE p) ≠ 0) && !s.on (F.PLL_STAT_REF_OK p) &&
          decide (look 0 s.safety.level (26 + p) = 1) && decide (otherInput (s.pll p).input = some input) then s.failover p input else s) s)

/-- EXT_PPS_TIMEOUT: no edge for 1.1 s. -/
def execExtPpsTimeout (s : State) : Out := .next (s.whenB (s.inRun 1 && s.ranMs .pps 1100) (·.wr F.CLK_REFSTAT_PPS_OK 0))

end Sys2Proof.Machine
end

