-- ==== Sys2Proof/Machine/Flags.lean ====
section
/-! DEFINITION. Lyzovel's rounding, saturation and flags (R151, R155). A flag computation answers its value and the bits of FL
that it sets: 1 SAT, 2 ZDEN, 4 HELD. -/

namespace Sys2Proof.Machine

/-- A value and the bits of FL it sets. -/
abbrev Flagged := Int × Nat

/-- rnd(x >> s): ties toward +∞ (R155). -/
def rndShift (x : Int) (s : Nat) : Int := if s = 0 then x else (x + 2 ^ (s - 1)) / 2 ^ s

/-- Clamp with SAT (R155). -/
def clampSat (lo hi x : Int) : Flagged := (held lo hi x, if held lo hi x = x then 0 else 1)

/-- sat32 (R155). -/
def sat32 (x : Int) : Flagged := clampSat (-(2 ^ 31)) (2 ^ 31 - 1) x

/-- Hold an N-class operand to its field's range, with HELD (R151). -/
def holdTo (lo hi x : Int) : Flagged := (held lo hi x, if held lo hi x = x then 0 else 4)

/-- A flagged value goes on to a flagged function. -/
def Flagged.bind (v : Flagged) (f : Int → Flagged) : Flagged := ((f v.1).1, v.2 ||| (f v.1).2)

/-- An exact value sets no flag. -/
def plain (x : Int) : Flagged := (x, 0)

/-- The largest number whose square is at most `x`, found bit by bit from bit `k - 1` down. -/
def isqrtFrom (x : Nat) : Nat → Nat → Nat
  | 0, r => r
  | k + 1, r => isqrtFrom x k (if (r + 2 ^ k) * (r + 2 ^ k) ≤ x then r + 2 ^ k else r)

/-- The integer square root. -/
def isqrt (x : Nat) : Nat := isqrtFrom x (x.log2 / 2 + 1) 0

/-- A quotient of a Q31 normalisation: sat32(rnd(x × 2^31 / y)), or 0 with ZDEN (R165). -/
def q31 (x y : Int) : Flagged := if y = 0 then (0, 2) else sat32 ((x * 2 ^ 32 + y) / (2 * y))

/-- The same with the square root of `s` as denominator, rounded once. -/
def q31Sqrt (x : Int) (s : Nat) : Flagged :=
  if s = 0 then (0, 2)
  else
    let n := x.natAbs * 2 ^ 32
    if 0 ≤ x then sat32 ((isqrt (n * n / s) + 1) / 2 : Nat)
    else sat32 (-((isqrt ((n * n + s - 1) / s - 1) + 1) / 2 : Nat))

/-- mulr(k, e) = sat32(rnd(k × e >> 31)) (R165). -/
def mulr (k e : Int) : Flagged := sat32 (rndShift (k * e) 31)

/-- Atan of 2^-i, in 2^-64 cycle, for i = 0 … 59. -/
def atanTable : List Nat :=
  [ 2305843009213693952, 1361218612134873190, 719230530580881038, 365092647525521947, 183254791493294829, 91716730292036216 ] ++
  [ 45869556482713130, 22936177926750895, 11468263948075831, 5734153847876408, 2867079658191483, 1433540170878135 ] ++
  [ 716770128161890, 358385069421298, 179192535378193, 89596267772540, 44798133896700, 22399066949654 ] ++
  [ 11199533474990, 5599766737515, 2799883368760, 1399941684380, 699970842190, 349985421095 ] ++
  [ 174992710548, 87496355274, 43748177637, 21874088818, 10937044409, 5468522205 ] ++
  [ 2734261102, 1367130551, 683565276, 341782638, 170891319, 85445659 ] ++
  [ 42722830, 21361415, 10680707, 5340354, 2670177, 1335088 ] ++
  [ 667544, 333772, 166886, 83443, 41722, 20861 ] ++
  [ 10430, 5215, 2608, 1304, 652, 326 ] ++
  [ 163, 81, 41, 20, 10, 5 ]

/-- The angle that turns (x, y), x ≥ 0, onto the x axis, in 2^-64 cycle: rotations by the table's angles. -/
def rotate : Nat → List Nat → Int → Int → Int → Int
  | _, [], _, _, z => z
  | i, a :: rest, x, y, z =>
    if 0 ≤ y then rotate (i + 1) rest (x + y / 2 ^ i) (y - x / 2 ^ i) (z + a)
    else rotate (i + 1) rest (x - y / 2 ^ i) (y + x / 2 ^ i) (z - a)

/-- The angle of x + jy in 2^-64 cycle, to within 64 units. -/
def angle (x y : Int) : Int :=
  let x' := x * 2 ^ 64
  let y' := y * 2 ^ 64
  if 0 ≤ x then rotate 0 atanTable x' y' 0
  else if 0 ≤ y then rotate 0 atanTable (-x') (-y') 0 + 2 ^ 63
  else rotate 0 atanTable (-x') (-y') 0 - 2 ^ 63

/-- (x, y) turned by an angle of `z` 2^-64 cycle, within the reach of the table's angles. -/
def spin : Nat → List Nat → Int → Int → Int → Int × Int
  | _, [], x, y, _ => (x, y)
  | i, a :: rest, x, y, z =>
    if 0 ≤ z then spin (i + 1) rest (x - y / 2 ^ i) (y + x / 2 ^ i) (z - a)
    else spin (i + 1) rest (x + y / 2 ^ i) (y - x / 2 ^ i) (z + a)

/-- Cosine and sine of a phase in 2^-64 cycle, times 2^62, to within 2^8 units; exact at the quarters. The start is 2^62 less the gain of the
table's turns. -/
def cosSin (phase : Nat) : Int × Int :=
  let k : Nat := (phase + 2 ^ 61) / 2 ^ 62
  let r : Int := (phase : Int) - (k : Int) * 2 ^ 62
  let (c, s) : Int × Int := if r = 0 then (2 ^ 62, 0) else spin 0 atanTable 2800459870029452954 0 r
  match k % 4 with
  | 0 => (c, s)
  | 1 => (-s, c)
  | 2 => (-c, -s)
  | _ => (s, -c)

/-- A number of the range from `lo` to `hi` that the free value `f` chooses. -/
def choose (lo hi : Int) (f : Nat) : Int := lo + (f : Int) % (hi - lo + 1)

/-- atan2c32 of x + jy: any C32 number within 2^-16 cycle of the angle, by the free value `f`; (0, 0) gives 0 with ZDEN (R164). -/
def atan2c32 (f : Nat) (x y : Int) : Flagged :=
  if x = 0 ∧ y = 0 then (0, 2)
  else
    let lim : Int := 2 ^ 48 - 64
    plain (signed 32 (choose (-((lim - angle x y) / 2 ^ 32)) ((angle x y + lim) / 2 ^ 32) f % 2 ^ 32).toNat)

/-- The least number whose square is at least `x`. -/
def isqrtUp (x : Nat) : Nat := if x = 0 then 0 else isqrt (x - 1) + 1

/-- mag: any number within a relative 2^-15, plus 1 LSB, of the length, by the free value `f` (R164). -/
def magOf (f : Nat) (x y : Int) : Flagged :=
  let s := (x * x + y * y).toNat
  let hi := isqrt (s * 32769 ^ 2 / 2 ^ 30) + 1
  let lo := isqrtUp ((s * 32767 ^ 2 + 2 ^ 30 - 1) / 2 ^ 30) - 1
  sat32 (choose lo hi f)

end Sys2Proof.Machine
end

