-- ==== Sys2Proof/Machine/Sieve.lean ====
section
/-! DEFINITION. What is computed of a block's filtered samples: the pulse blanker, σ, SCALE, the quantiser and the blank count (R103, R108,
R109). The filters themselves lie before it: a block's filtered samples come with BLOCK_COMPLETE (log 6). -/

namespace Sys2Proof.Machine

/-! ### Stream geometry (R101, R104, R112) -/

/-- SCLK periods in one millisecond of the grid. -/
def gridMs : Nat := 245760

/-- Decimation, samples per block, blocks per page and fixed delay of a RATE code. -/
def decOf (rate : Nat) : Nat := 64 / 2 ^ rate
def samplesOf (rate : Nat) : Nat := 3840 * 2 ^ rate
def perPage (rate : Nat) : Nat := 16 / 2 ^ rate
def delayOf (rate : Nat) : Nat := 2458 + 96 * decOf rate

/-- Pages a stream of this rate and depth occupies. -/
def pagesOf (rate depth : Nat) : Nat := (depth + perPage rate - 1) / max 1 (perPage rate)

/-- The first byte of block `seq`'s slot. -/
def slotAddr (c : StreamCfg) (seq : Nat) : Nat :=
  let q := seq % max 1 c.depth
  0x20000000 + (c.base + q / max 1 (perPage c.rate)) * 0x10000 + q % max 1 (perPage c.rate) * samplesOf c.rate

/-- A block's samples, and the first byte of its slot. -/
def Block.len (b : Block) : Nat := samplesOf b.cfg.rate
def Block.addr (b : Block) : Nat := slotAddr b.cfg b.seq

/-! ### The pulse blanker (R108) -/

/-- The square of a sample's magnitude. -/
def normSq (x : Int × Int) : Nat := x.1.natAbs ^ 2 + x.2.natAbs ^ 2

/-- Does a sample's magnitude exceed THR × σ / 4? A THR below 8 acts as 8. -/
def crosses (thr sigma : Nat) (x : Int × Int) : Bool := decide ((max 8 thr * sigma) ^ 2 < 16 * normSq x)

/-- Each mark and the `k` places after it, with `left` places still to mark at the start; and what is left at the end. -/
def spread (k : Nat) : Nat → List Bool → List Bool × Nat
  | left, [] => ([], left)
  | left, c :: cs =>
    let rest := spread k (if c then k else left - 1) cs
    ((c || decide (0 < left)) :: rest.1, rest.2)

/-- Settings of a pulse blanker, as a block has them: the words of SIEVE_PBn_CFG and SIEVE_PBn_EXT. -/
def pbEn (cfg : Word) : Bool := cfg.toNat.testBit 0
def pbThr (cfg : Word) : Nat := bits cfg 8 6
def pbPre (cfg : Word) : Nat := bits cfg 16 6
def pbPost (ext : Word) : Nat := bits ext 0 12

/-- The samples the Sieve blanks, and how many of the next block a crossing in this one still blanks. `ahead` are the 64 samples of the
look-ahead (R104), whose crossings blank up to PRE samples here; σ in force judges them too (log 132). -/
def Block.blanks (b : Block) (xs ahead : List (Int × Int)) : List Bool × Nat :=
  if pbEn b.pbCfg then
    let hit := xs.map (crosses (pbThr b.pbCfg) b.sigmaIn)
    let next := (ahead.take 64).map (crosses (pbThr b.pbCfg) b.sigmaIn)
    let after := spread (pbPost b.pbExt) b.leftIn hit
    let before := (spread (pbPre b.pbCfg) 0 (hit ++ next).reverse).1.reverse
    (List.zipWith (· || ·) after.1 before, after.2)
  else (xs.map fun _ => false, 0)

/-! ### External blanking and the blank count (R97, R109) -/

/-- Is an ADC sample in the span of output sample `i` of the block blanked by BLANK0–BLANK3? -/
def Block.outerBlank (b : Block) (spans : List (Nat × Nat)) (i : Nat) : Bool :=
  let lo := b.start + i * decOf b.cfg.rate
  spans.any fun e => decide (e.1 < lo + decOf b.cfg.rate ∧ lo < e.2 ∧ e.1 < e.2)

/-- Samples blanked on either ground, each once. -/
def Block.blankMarks (b : Block) (spans : List (Nat × Nat)) (sieve : List Bool) : List Bool :=
  sieve.mapIdx fun i x => x || b.outerBlank spans i

/-- How many marks there are. -/
def marked (l : List Bool) : Nat := l.countP id

/-- BLANK16 of `count` blanked samples among `size`. -/
def blank16Of (count size : Nat) : Nat := min 65535 (count * 65536 / max 1 size)

/-! ### σ and SCALE (R103, R108) -/

/-- The samples that are not marked. -/
def unmarked (xs : List (Int × Int)) (marks : List Bool) : List (Int × Int) := (xs.zip marks).filterMap fun e => if e.2 then none else some e.1

/-- The per-component mean square of samples, as a fraction. -/
def meanSquare (xs : List (Int × Int)) : Nat × Nat := ((xs.map normSq).sum, 2 * xs.length)

/-- The largest root whose square is at most a fraction. -/
def rootOf (q : Nat × Nat) : Nat := Nat.sqrt (q.1 / max 1 q.2)

/-- σ of unblanked samples. How it is rounded, and what it is of none, is open: bits of `free` (log 132). -/
def sigmaOf (xs : List (Int × Int)) (free : Nat) : Nat :=
  if xs = [] then free % 65536
  else
    let r := rootOf (meanSquare xs)
    min 65535 (r + if r ^ 2 * (meanSquare xs).2 = (meanSquare xs).1 then 0 else free % 2)

/-- SCALE with which an RMS of `sigma` meets QTARGET, in 0.125 LSB: 2^(SCALE / 8) = 8 σ / QTARGET, held to 0–255. How it is rounded is open
(log 132). -/
def scaleOf (sigma qtarget free : Nat) : Nat :=
  if qtarget = 0 then (if sigma = 0 then free % 256 else 255)
  else if 8 * sigma ≤ qtarget then 0
  else
    let l := Nat.log2 ((8 * sigma) ^ 8 / qtarget ^ 8)
    min 255 (l + if 2 ^ l * qtarget ^ 8 = (8 * sigma) ^ 8 then 0 else free % 2)

/-! ### The quantiser (R103) -/

/-- One component scaled by 2^(−SCALE/8) and held to ±7: the largest code k with k × 2^(SCALE/8) at most its size, or, where that is not
exact, the next by a free bit (log 132). -/
def quantised (scale : Nat) (up : Bool) (v : Int) : Int :=
  let fits (k : Nat) : Bool := decide (k ^ 8 * 2 ^ scale ≤ v.natAbs ^ 8)
  let k := ((List.range 8).filter fits).length - 1
  let k := if up && decide (k ^ 8 * 2 ^ scale ≠ v.natAbs ^ 8) then min 7 (k + 1) else k
  if v < 0 then -k else k

/-- The byte of a sample: I in bits [3:0], Q in bits [7:4], 0 where the Sieve blanks it. -/
def sampleByte (scale free i : Nat) (x : Int × Int) (blank : Bool) : Nat :=
  if blank then 0
  else unsigned 4 (quantised scale (free.testBit (2 * i)) x.1) + 16 * unsigned 4 (quantised scale (free.testBit (2 * i + 1)) x.2)

/-- The bytes of a block. -/
def Block.bytes (b : Block) (free : Nat) (xs : List (Int × Int)) (sieve : List Bool) : List Nat :=
  (xs.zip sieve).mapIdx fun i e => sampleByte b.scale free i e.1 e.2

/-! ### The NCO (R102) -/

/-- The NCO phase of a channelizer at SCLK count `n` of the grid. -/
def ncoPhase (freq : Word) (n : Nat) : Nat := freq.toNat * n % 2 ^ 32

/-- A component times 2^62, rounded down, or up by `up` where it is not whole. -/
def turnRound (up : Bool) (v : Int) : Int := v / 2 ^ 62 + if up && decide (v % 2 ^ 62 ≠ 0) then 1 else 0

/-- Samples mixed with an NCO that stood at `phase` (2^-32 cycle) where they assume phase 0: each turned back by it, with a free rounding
(R102; log 165). -/
def turned (phase free : Nat) (xs : List (Int × Int)) : List (Int × Int) :=
  let (c, s) := cosSin (phase * 2 ^ 32)
  xs.mapIdx fun i x =>
    (turnRound (free.testBit (2 * i)) (x.1 * c + x.2 * s), turnRound (free.testBit (2 * i + 1)) (x.2 * c - x.1 * s))

end Sys2Proof.Machine
end

