-- ==== Sys2Proof/Machine/Sample.lean ====
section
/-! DEFINITION. The sample path: grid, streams, the Sieve, AGC, the sample ring and its pins (R10, R11, R82, R86, R87, R97–R115). -/

namespace Sys2Proof.Machine

/-! ### Streams and their blocks -/

def State.stream (s : State) (n : Nat) : Stream := look {} s.sample.streams n

def State.setStream (s : State) (n : Nat) (x : Stream) : State :=
  { s with sample := { s.sample with streams := put {} s.sample.streams n x } }

/-- A stream's state in both of its status registers. -/
def State.streamGo (s : State) (n st : Nat) : State := (s.wr (F.CHZ_STR_STAT_STATE n) st).wr (F.RING_STR_STAT_STATE n) st

/-! ### The configuration committed for a stream (R105, R106, R113) -/

def State.cfgRate (s : State) (n : Nat) : Nat := s.rd (F.CHZ_STR_CFG_RATE n)
def State.cfgPages (s : State) (n : Nat) : Nat := pagesOf (s.cfgRate n) (s.rd (F.RING_STR_ALLOC_DEPTH n))

/-- CFG_ERR of the CHZ and of the RING status (R106). -/
def State.chzErr (s : State) (n : Nat) : Bool := decide (4 < s.cfgRate n ∨ 11 < s.rd (F.CHZ_STR_CFG_ADC n))
def State.ringErr (s : State) (n : Nat) : Bool :=
  let d := s.rd (F.RING_STR_ALLOC_DEPTH n)
  decide (d < 2 ∨ 16 < d ∨ (s.cfgRate n ≤ 4 ∧ 96 < s.rd (F.RING_STR_ALLOC_BASE n) + s.cfgPages n))

/-- EN = 1 with a valid configuration. -/
def State.streamWanted (s : State) (n : Nat) : Bool := s.on (F.CHZ_STR_CFG_EN n) && !s.chzErr n && !s.ringErr n

/-- Is every page of the range claimed? -/
def State.pagesClaimed (s : State) (n : Nat) : Bool :=
  (List.range (s.cfgPages n)).all fun i => decide (s.ownerOf (0x7000 + s.rd (F.RING_STR_ALLOC_BASE n) + i) ≠ 0)

/-- The committed configuration. -/
def State.cfgOf (s : State) (n : Nat) : StreamCfg :=
  { rate := s.cfgRate n, adc := s.rd (F.CHZ_STR_CFG_ADC n), freq := s.reg (Reg.CHZ_STR_FREQ n)
    base := s.rd (F.RING_STR_ALLOC_BASE n), depth := s.rd (F.RING_STR_ALLOC_DEPTH n) }

/-- Does the running stream keep its configuration? -/
def State.streamSame (s : State) (n : Nat) : Bool := decide ((s.stream n).cfg = s.cfgOf n)

def State.streamRuns (s : State) (n : Nat) : Bool := decide (s.rd (F.CHZ_STR_STAT_STATE n) = 2)

/-- The stream goes on at this boundary; it starts or restarts at it. -/
def State.streamKeeps (s : State) (n : Nat) : Bool := s.streamRuns n && s.streamWanted n && s.streamSame n && s.pagesClaimed n
def State.streamStarts (s : State) (n : Nat) : Bool :=
  s.streamWanted n && s.pagesClaimed n && !(s.streamRuns n && s.streamSame n)

/-- Do the page ranges of two streams overlap? -/
def State.pagesOverlap (s : State) (n k : Nat) : Bool :=
  let b := s.rd (F.RING_STR_ALLOC_BASE n)
  let c := s.rd (F.RING_STR_ALLOC_BASE k)
  decide (b < c + s.cfgPages k ∧ c < b + s.cfgPages n)

/-- A stream that would start meets the range of one that runs or starts (R113). -/
def State.streamConflicts (s : State) (n : Nat) : Bool :=
  (List.range 24).any fun k => decide (k ≠ n) && (s.streamKeeps k || s.streamStarts k) && s.pagesOverlap n k

/-! ### What a boundary does to ports, AGC and notches (R82, R86, R87, R107) -/

/-- Is the chain of ADC m on? -/
def State.chainOn (s : State) (m : Nat) : Bool :=
  s.inRun (3 + m / 3) && (s.rd (F.RFP_CTRL_CHAIN_EN (m / 3))).testBit (m % 3)

/-- The gain in force in the chain of ADC m. -/
def State.gainOf (s : State) (m : Nat) : Nat := look 80 (s.port (m / 3)).gain (m % 3)

/-- The tuner code and a finished or running AUTOTUNE at a boundary: the port's new blocks are TUNER while AUTOTUNE runs, and for
the millisecond that a committed change begins (log 19). -/
def State.tunerBoundary (s : State) (p : Nat) : State :=
  let x := s.port p
  let ser := s.rd (F.RFP_TUNE_C_SER p)
  let shunt := s.rd (F.RFP_TUNE_C_SHUNT p)
  let busy := s.on (F.RFP_STAT_TUNE_BUSY p)
  let moved := decide (x.ser ≠ ser ∨ x.shunt ≠ shunt)
  let s := s.setPort p { x with ser, shunt, tuning := busy }
  if busy || (moved && !x.tuning) then s.markAdcs tunerBit (portAdcs p) else s

/-- One AGC at a boundary, with the RMS of the millisecond that ended. -/
def State.agcBoundary (s : State) (m : Nat) (rms : Nat) : State :=
  if ¬ s.chainOn m then s
  else
    let p := m / 3
    let g := m % 3
    let cur : Int := s.gainOf m
    let mode := s.rd (F.RFP_AGC_CFG_MODE p g)
    let step : Int := s.rd (F.RFP_AGC_CFG_STEP_MAX p g)
    let want := Int.tdiv ((rms : Int) - 5 * s.rd (F.RFP_AGC_CFG_TARGET p g)) 5
    let next := if mode = 0 then held 0 127 (cur + held (-step) step want)
      else if mode = 2 then s.rd (F.RFP_AGC_GAIN_GAIN p g) else cur
    let s := s.setPort p { s.port p with gain := put 80 (s.port p).gain g next.toNat }
    s.wr (F.RFP_AGC_GAIN_RAIL p g) (if mode = 0 ∧ (next = 0 ∨ next = 127) then 1 else 0)

/-- MODE and ENG_THR of a notch's configuration, and SPAN in the units of FREQ. -/
def ntMode (cfg : Word) : Nat := bits cfg 0 2
/-- The −3 dB width of a notch in Hz; BW above 9 acts as 9 (R107). -/
def ntWidth (cfg : Word) : Nat := 7500 * 2 ^ min 9 (bits cfg 4 4)
def ntThr (cfg : Word) : Nat := bits cfg 16 8
def ntSpan (cfg : Word) : Nat := bits cfg 8 8 * 100000 * 2 ^ 32 / 245760000

/-- The configuration that notch `i` of 48 has in force. -/
def State.ntCfg (s : State) (i : Nat) : Word := look (resetOf (Reg.SIEVE_NT_CFG i)) s.sample.notchCfg i
def State.ntFreq (s : State) (i : Nat) : Word := look 0 s.sample.notchFreq i

/-- A tone's frequency, held within ±SPAN of FREQ. -/
def ntHeld (cfg freq : Word) (f : Int) : Word :=
  BitVec.ofInt 32 (held ((freq.toNat : Int) - ntSpan cfg) (freq.toNat + ntSpan cfg) f)

/-- Is an adaptive notch engaged for the coming block? The block that ends decides, by the settings it had; a notch that has just become
adaptive has no such block (R107; log 132). -/
def State.ntEngages (s : State) (i lo hi : Nat) : Bool :=
  let cfg := s.ntCfg i
  if ntMode cfg ≠ 2 then false
  else if ntThr cfg < lo then true
  else if hi + 3 < ntThr cfg then false
  else s.on (F.SIEVE_NT_STAT_ENGAGED i)

/-- One notch at a boundary: it adopts its settings, and is engaged or not for the coming block (R105, R107). -/
def State.notchBoundary (s : State) (m j : Nat) (tone : Nat × Nat × Nat) : State :=
  let i := 4 * m + j
  let (lo, hi, f) := tone
  let cfg := s.reg (Reg.SIEVE_NT_CFG i)
  let freq := s.reg (Reg.SIEVE_NT_FREQ i)
  let on := if ntMode cfg = 1 then true else if ntMode cfg = 2 then s.ntEngages i lo hi else false
  let s := (s.wr (F.SIEVE_NT_STAT_ENGAGED i) (if on then 1 else 0)).wr (F.SIEVE_NT_STAT_TONE i) (min 255 hi)
  let s := { s with sample := { s.sample with
    notchCfg := put (resetOf (Reg.SIEVE_NT_CFG i)) s.sample.notchCfg i cfg, notchFreq := put 0 s.sample.notchFreq i freq } }
  if ntMode cfg = 1 then s.setReg (Reg.SIEVE_NT_CUR i) freq
  else if ntMode cfg = 2 then s.setReg (Reg.SIEVE_NT_CUR i) (ntHeld cfg freq f) else s

/-- A read of SIEVE_NTm_j_CUR: an engaged adaptive notch follows its tone every 256 SCLK, so that inside a block it stands anywhere within
±SPAN (R107; log 132). -/
def State.readNtCur (s : State) (owner i : Nat) : State :=
  if ntMode (s.ntCfg i) = 2 ∧ s.on (F.SIEVE_NT_STAT_ENGAGED i) then
    let (v, s) := s.draw
    let cfg := s.ntCfg i
    s.okay owner (ntHeld cfg (s.ntFreq i) ((s.ntFreq i).toNat - ntSpan cfg + (v % (2 * ntSpan cfg + 1) : Nat)))
  else s.okay owner (s.reg (Reg.SIEVE_NT_CUR i))

/-- Engaged notches of ADC m. -/
def State.notchMask (s : State) (m : Nat) : Nat :=
  (List.range 4).foldl (fun v j => if s.on (F.SIEVE_NT_STAT_ENGAGED (4 * m + j)) then v + 2 ^ j else v) 0

/-- The first SCLK period whose blanking is still asked for: of the last millisecond, or of a block that is not complete. -/
def State.spanFloor (s : State) (m : Nat) : Nat :=
  s.sample.streams.foldl (fun v e => e.2.blocks.foldl (fun v b =>
    if b.cfg.adc = m ∧ ¬ b.complete then min v b.start else v) v) (s.sample.gridCount - gridMs)

/-- What the ADC registers show of the millisecond that ended (R97; clipped samples saturate). -/
def State.adcBoundary (s : State) (m : Nat) (x : AdcMeas) : State :=
  if ¬ s.inRun (3 + m / 3) then s
  else
    let spans := look [] s.sample.blanked m
    let s := (s.wr (F.ADC_STAT_RMS m) (min 1023 x.rms)).sat (F.ADC_STAT_OVR m) x.clipped
    let s := s.wr (F.ADC_BLANKCNT_COUNT m) (s.blankCount m)
    { s with sample := { s.sample with blanked := put [] s.sample.blanked m (spans.filter fun e => decide (s.spanFloor m < e.2)) } }

/-- Reasons that hold for a whole millisecond from its start. -/
def State.adcConditions (s : State) (m : Nat) : State :=
  let s := if s.locked (m % 3) then s else s.markAdc loOffBit m
  let st := s.rd (F.PLL_STAT_STATE 3)
  let s := if st = 2 ∨ st = 3 then s else s.markAdc spllBypBit m
  if s.chainOn m then s else s.markAdc chainOffBit m

/-! ### Blocks and streams at a boundary -/

/-- The running blocks of the millisecond that ends take its reasons. -/
def State.endBlocks (s : State) (n : Nat) : State :=
  let x := s.stream n
  s.setStream n { x with blocks := x.blocks.map fun b =>
    if b.ended then b else { b with ended := true, reasons := b.reasons ||| look 0 s.sample.adcReasons b.cfg.adc } }

/-- Would a write of `len` bytes from `a` on go into a pinned slot? -/
def State.slotPinned (s : State) (a len : Nat) : Bool :=
  [s.sample.pin0, s.sample.pin1].any fun p => match p with
    | none => false
    | some p => decide (p.block.addr < a + len ∧ a < p.block.addr + p.block.len)

/-- Every block of the stream leaves its window, and sweeps of them are abandoned (R105, R113). -/
def State.closeWindows (s : State) (n : Nat) : State :=
  let x := s.stream n
  let s := s.setStream n { x with blocks := x.blocks.map fun b =>
    { b with window := false, ended := true, last := b.last || decide (b.seq + 1 = x.nextSeq) } }
  let pods := s.fabric.pods.map fun e =>
    (e.1, match e.2.sweep with
      | none => e.2
      | some w => if w.stream = n then { e.2 with sweep := none } else e.2)
  { s with fabric := { s.fabric with pods } }

/-- What the engaged notches of ADC m take from a block: the frequency of each at the block's boundary and its −3 dB width in Hz (R107). -/
def State.notchStops (s : State) (m : Nat) : List (Word × Nat) :=
  (List.range 4).filterMap fun j =>
    let i := 4 * m + j
    if s.on (F.SIEVE_NT_STAT_ENGAGED i) then some (s.reg (Reg.SIEVE_NT_CUR i), ntWidth (s.ntCfg i)) else none

/-- A new block of a running stream, tagged with the DT of its boundary, with the Sieve and QTARGET adopted there (R105); one whose slot is
pinned is PIN_DROP (R114). SCALE and σ are those of the block before, once that is complete; of a first block they are unmeasured. -/
def State.openBlock (s : State) (n : Nat) (first : Bool) : State :=
  let x := s.stream n
  let dropped := s.slotPinned (slotAddr x.cfg x.nextSeq) (samplesOf x.cfg.rate)
  let b : Block := {
    seq := x.nextSeq, cfg := x.cfg, start := s.sample.gridCount, tag := s.dtNow
    pbCfg := s.reg (Reg.SIEVE_PB_CFG n), pbExt := s.reg (Reg.SIEVE_PB_EXT n), qtarget := s.rd (F.CHZ_STR_CFG_QTARGET n)
    notch := s.notchMask x.cfg.adc, stops := s.notchStops x.cfg.adc, gain := s.gainOf x.cfg.adc
    reasons := (if first then restartBit else 0) ||| (if dropped then pinDropBit else 0) }
  let old := x.blocks.map fun c => if c.seq + x.cfg.depth ≤ b.seq then { c with window := false } else c
  let s := if dropped then s.wr F.RING_EVT_PIN_DROP 1 else s
  if first then
    let (v, s) := s.draw
    let b := { b with scale := v % 256, sigmaIn := v / 256 % 65536 }
    (s.setStream n { x with nextSeq := x.nextSeq + 1, blocks := b :: old }).wr (F.CHZ_STR_STAT_SCALE n) b.scale
  else s.setStream n { x with nextSeq := x.nextSeq + 1, blocks := b :: old }

/-- A start or restart adopts the committed configuration; SEQ restarts at 0 (R105). -/
def State.startStream (s : State) (n : Nat) : State :=
  let s := s.closeWindows n
  let s := s.setStream n { s.stream n with cfg := s.cfgOf n, nextSeq := 0 }
  let s := (s.streamGo n 2).wr (F.RING_STR_STAT_PAGES n) (s.cfgPages n)
  let s := (s.wr (F.RING_STR_STAT_CONFLICT n) 0).wr (F.RING_STR_STAT_CLAIM n) 0
  s.openBlock n true

/-- A stream enters ERROR. -/
def State.streamError (s : State) (n : Nat) (flag : Fld) : State :=
  let s := if s.streamRuns n then s.closeWindows n else s
  let s := if s.rd (F.CHZ_STR_STAT_STATE n) = 3 then s else s.wr F.RING_EVT_CONFLICT 1
  ((s.streamGo n 3).wr flag 1).wr (F.RING_STR_STAT_PAGES n) 0

/-- One stream at a boundary; `o` is the state all streams see. -/
def State.streamBoundary (s o : State) (n : Nat) : State :=
  let s := (s.wr (F.CHZ_STR_STAT_CFG_ERR n) (if o.chzErr n then 1 else 0)).wr (F.RING_STR_STAT_CFG_ERR n) (if o.ringErr n then 1 else 0)
  let s := s.wr (F.CHZ_STR_STAT_DELAY n) (if o.cfgRate n ≤ 4 then delayOf (o.cfgRate n) else 0)
  if ¬ o.streamWanted n then
    let s := (s.wr (F.RING_STR_STAT_CONFLICT n) 0).wr (F.RING_STR_STAT_CLAIM n) 0
    (s.streamGo n 0).wr (F.RING_STR_STAT_PAGES n) 0
  else if o.streamKeeps n then s.openBlock n false
  else if ¬ o.pagesClaimed n then s.streamError n (F.RING_STR_STAT_CLAIM n)
  else if o.streamConflicts n then s.streamError n (F.RING_STR_STAT_CONFLICT n)
  else s.startStream n

/-- What a pod's load registers show of the millisecond that ended. -/
def State.podLoads (s : State) (p : Nat) : State :=
  if ¬ s.inRun (8 + p) then s
  else
    let x := look {} s.fabric.pods p
    let s := (s.wr (F.POD_LOAD_SWEEP p) (min 65535 (x.sweepFclk / 8))).wr (F.POD_LOAD_SEQ p) (min 65535 (x.seqCycles / 32))
    let s := (s.wr (F.POD_SWEEPS_SWEEPS p) (min 65535 x.sweeps)).wr (F.POD_SWEEPS_SELFCHK p) (min 65535 x.selfchk)
    let x := { x with sweeps := 0, selfchk := 0, sweepFclk := 0, seqCycles := 0 }
    { s with fabric := { s.fabric with pods := put {} s.fabric.pods p x } }

/-! ### Block completion and the LAST registers (R11, R108–R110) -/

/-- The oldest block of a stream whose sampling is over and that is not complete. -/
def Stream.ripe (x : Stream) : Option Block := x.blocks.reverse.find? fun b => b.ended && !b.complete

/-- The first `len` of a list of samples, 0 where it is shorter. -/
def padded (len : Nat) (xs : List (Int × Int)) : List (Int × Int) := (List.range len).map fun i => xs.getD i (0, 0)

/-- Does block `c` follow block `b` of the same run of a stream? -/
def Block.follows (c b : Block) : Bool := decide (c.seq = b.seq + 1 ∧ c.start = b.start + gridMs)

/-- SIEVE_PBn_STAT and _TOTAL follow a complete block. -/
def State.showSieve (s : State) (n sieve sigma : Nat) : State :=
  ((s.wr (F.SIEVE_PB_STAT_BLANKED n) (min 65535 sieve)).wr (F.SIEVE_PB_STAT_SIGMA n) sigma).sat (F.SIEVE_PB_TOTAL_COUNT n) sieve

/-- The oldest ended block of stream `n` is complete: σ, blank count and samples. The block after it takes its σ, its SCALE, and the
samples that a crossing at its end still blanks (R103, R108). One whose tracks have passed over it leaves the list. -/
def State.completeBlock (s : State) (n : Nat) (b : Block) (samples ahead : List (Int × Int)) : State :=
  let x := s.stream n
  let xs := padded b.len samples
  let (sieve, left) := b.blanks xs ahead
  let marks := b.blankMarks (look [] s.sample.blanked b.cfg.adc) sieve
  let (u, s) := s.draw
  let (v, s) := s.draw
  let sigma := sigmaOf (unmarked xs marks) (v / 2)
  let done := { b with complete := true, sigma, blank16 := blank16Of (marked marks) b.len }
  let next := fun (c : Block) => { c with scale := scaleOf sigma c.qtarget v, sigmaIn := sigma, leftIn := left }
  let s := s.setStream n { x with
    newest := some done
    blocks := (x.blocks.map fun c => if c = b then done else if c.follows b then next c else c).filter fun c => !(c.complete && c.passed) }
  let s := match x.blocks.find? (·.follows b) with
    | some c => s.wr (F.CHZ_STR_STAT_SCALE n) (next c).scale
    | none => s
  let s := s.showSieve n (marked sieve) sigma
  if b.reasons &&& pinDropBit ≠ 0 then s else s.stBytes b.addr (b.bytes u xs sieve)

/-- BLOCK_COMPLETE: the block's filtered samples, and the 64 of the look-ahead, in LSBs of the 16-bit filter output, as an NCO makes them that
stands at phase 0 at the block's first edge; the NCO's own phase there turns them (R102; log 165). -/
def execBlockComplete (n : Nat) (i q aheadI aheadQ : List Int) (s : State) : Out :=
  .next (match decide (n < 24) && s.inRun 7, (s.stream n).ripe with
  | true, some b =>
    let (v, s) := s.draw
    let xs := turned (ncoPhase b.cfg.freq b.start) v (padded b.len (i.zip q) ++ aheadI.zip aheadQ)
    s.completeBlock n b (xs.take b.len) (xs.drop b.len)
  | _, _ => s)

/-- Is a byte of the slot of a block that is being written among the `len` from `a` on? A read there is a mix of old and new samples
(R112). -/
def State.beingWritten (s : State) (a len : Nat) : Bool :=
  s.sample.streams.any fun e => e.2.blocks.any fun b =>
    !b.complete && decide (b.reasons &&& pinDropBit = 0 ∧ b.addr < a + len ∧ a < b.addr + b.len)

/-- FLAGS of a descriptor (R110). -/
def Block.flags (b : Block) : Nat := b.reasons ||| if b.reasons = 0 then 1 else 0

/-- Is the block valid? -/
def Block.valid (b : Block) : Bool := decide (b.reasons = 0)

/-- The 32 bytes of a descriptor, as words. -/
def descriptor (n : Nat) (b : Block) : List Word :=
  [ BitVec.ofNat 32 b.seq, BitVec.ofNat 32 (dtNs b.tag), BitVec.ofNat 32 (dtSec b.tag),
    BitVec.ofNat 32 (dtSec b.tag / 2 ^ 32 + 65536 * dtFrac b.tag), BitVec.ofNat 32 (b.blank16 + 65536 * b.sigma),
    BitVec.ofNat 32 (b.flags + 256 * b.notch + 65536 * b.gain + 2 ^ 24 * b.scale), BitVec.ofNat 32 (n + 32 * b.cfg.rate), 0 ]

/-- A read of RING_STRn_LAST_SEQ latches the other LAST registers from the most recent complete block. -/
def State.readLastSeq (s : State) (owner n : Nat) : State :=
  match (s.stream n).newest with
  | none => s.okay owner 0
  | some b =>
    let s := (s.wr (F.RING_STR_LAST_NS_NS n) (dtNs b.tag)).wr (F.RING_STR_LAST_SEC_LO_SEC_LO n) (dtSec b.tag)
    let s := (s.wr (F.RING_STR_LAST_SEC_HI_SEC_HI n) (dtSec b.tag / 2 ^ 32)).wr (F.RING_STR_LAST_SEC_HI_FRAC n) (dtFrac b.tag)
    let s := ((s.wr (F.RING_STR_LAST_INFO_FLAGS n) b.flags).wr (F.RING_STR_LAST_INFO_NOTCH n) b.notch).wr
      (F.RING_STR_LAST_INFO_BLANK16 n) b.blank16
    s.okay owner (BitVec.ofNat 32 b.seq)

/-- LAST_SEQ_READ. -/
def execLastSeqRead (owner n : Nat) (s : State) : Out :=
  .next (if n < 24 then s.readCmd owner (Reg.RING_STR_LAST_SEQ n) (·.readLastSeq owner n) else s)

/-! ### Pins (R114) -/

/-- The pin slots and what RING_PINSTAT shows of them. -/
def State.setPins (s : State) (p0 p1 : Option Pin) : State :=
  let s := { s with sample := { s.sample with pin0 := p0, pin1 := p1 } }
  let s := (s.wr F.RING_PINSTAT_P0_BUSY (if p0.isSome then 1 else 0)).wr F.RING_PINSTAT_P1_BUSY (if p1.isSome then 1 else 0)
  let s := match p0 with | some p => s.wr F.RING_PINSTAT_P0_STREAM p.stream | none => s
  match p1 with | some p => s.wr F.RING_PINSTAT_P1_STREAM p.stream | none => s

/-- FCLK left of a block's window: until the boundary at which the stream writes into its slot again. -/
def State.windowLeft (s : State) (n : Nat) (b : Block) : Nat :=
  (b.seq + b.cfg.depth + 1 - (s.stream n).nextSeq) * 491520 - (s.now - s.sample.boundaryNow)

end Sys2Proof.Machine
end

