-- ==== Sys2Proof/Machine/Fabric.lean ====
section
/-! DEFINITION. Pods, sweeps, stacks, the husk lane, and the TRK block (R12, R16, R116–R121, R133–R150). -/

namespace Sys2Proof.Machine

/-! ### Tracks -/

def State.trk (s : State) (t : Nat) : TrackRt := look {} s.fabric.tracks t

def State.setTrk (s : State) (t : Nat) (x : TrackRt) : State :=
  { s with fabric := { s.fabric with tracks := put {} s.fabric.tracks t x } }

def State.pod (s : State) (p : Nat) : Pod := look {} s.fabric.pods p

def State.setPod (s : State) (p : Nat) (x : Pod) : State := { s with fabric := { s.fabric with pods := put {} s.fabric.pods p x } }

/-- Fields of CTRL (R139). -/
def State.trkState (s : State) (t : Nat) : Nat := s.cx t 0 0 3
def State.trkEn (s : State) (t : Nat) : Bool := decide (s.cx t 0 3 1 = 1)
def State.trkPod (s : State) (t : Nat) : Nat := s.cx t 0 4 3
def State.trkStream (s : State) (t : Nat) : Nat := s.cx t 0 7 5
def State.trkPrio (s : State) (t : Nat) : Nat := s.cx t 0 12 2
def State.seqNext (s : State) (t : Nat) : Nat := s.cx t 8 0 32

/-- STACK, at least 1. -/
def State.trkStack (s : State) (t : Nat) : Nat := max 1 (s.cx t 0 14 5)

/-- Is block `seq` a duty block of the track (R136)? -/
def State.dutyBlock (s : State) (t seq : Nat) : Bool :=
  decide (s.trkState t ≠ 4) || decide (seq % 2 ^ 32 % max 1 (s.cx t 0 19 4) = s.cx t 0 23 4)

/-- How many blocks of its stream block `seq` lies ahead of a track's SEQ_NEXT; negative where it lies behind. SEQ counts modulo 2^32. -/
def State.aheadOf (s : State) (t seq : Nat) : Int := signed 32 (unsigned 32 ((seq : Int) - s.seqNext t))

/-- Every track number. -/
def allTracks : List Nat := List.range 4096

/-- TRK_ACTIVE and TRK_PODCNT count a track in or out. -/
def State.countTrack (s : State) (p : Nat) (up : Bool) : State :=
  let step (f : Fld) (s : State) : State := s.wr f (if up then s.rd f + 1 else s.rd f - 1)
  let s := step F.TRK_ACTIVE_COUNT s
  (if p < 6 then step (F.TRK_PODCNT_COUNT p) s else s).settle

/-- A track's program neither runs nor waits any more. -/
def State.unlist (s : State) (t : Nat) : State :=
  let pods := s.fabric.pods.map fun e => (e.1, { e.2 with listed := e.2.listed.filter (· ≠ t) })
  let s := { s with fabric := { s.fabric with pods } }
  s.setTrk t { s.trk t with busy := false }

/-- EN clears: the track is out of the counts and of its pod's list. -/
def State.disableTrack (s : State) (t st : Nat) : State :=
  if s.trkEn t then
    let s := (s.countTrack (s.trkPod t) false).unlist t
    ((s.setCx t 0 3 1 0).setCx t 0 0 3 st).setTrk t { s.trk t with unscanned := true }
  else s.setCx t 0 0 3 st

/-! ### Stacks (R133–R138) -/

/-- Is a track of this STATE listed for its program: SEARCH, SPROUT, LOCK or VECTOR (R220)? -/
def State.runsProgram (s : State) (t : Nat) : Bool := decide (1 ≤ s.trkState t ∧ s.trkState t ≤ 4)

/-- The stack closes: the mean blank ratio is set and the track listed for its program; the other states keep no stack (R134, R220). -/
def State.closeStack (s : State) (t : Nat) : State :=
  if ¬ s.runsProgram t then (s.setCx t 0x0C 5 5 0).setTrk t { s.trk t with closed := true }
  else
    let n := s.cx t 0x0C 0 5
    let s := s.setCx t 0x2C 0 16 (if n = 0 then 0 else (s.trk t).blankSum / n)
    let p := s.trkPod t
    let s := s.setTrk t { s.trk t with busy := true, closed := true }
    s.setPod p { s.pod p with listed := (s.pod p).listed ++ [t] }

/-- The first block of a stack: tag, snapshots and zeroed sums (R135). -/
def State.openStack (s : State) (t : Nat) (tag : Nat) : State :=
  let s := (s.setCx t 0x10 0 32 (dtNs tag)).setCx t 0x14 0 32 (dtSec tag)
  let s := s.setCx t 0x18 0 32 (dtSec tag / 2 ^ 32 + 65536 * dtFrac tag)
  let s := s.stWords (ctxAddr t + 0x130)
    [s.ld32 (ctxAddr t + 0x50), s.ld32 (ctxAddr t + 0x54), s.ld32 (ctxAddr t + 0x40), s.ld32 (ctxAddr t + 0x60)]
  let s := (s.setCx t 0x0C 0 32 0).stWords (ctxAddr t + 0xE0) (List.replicate 18 0)
  (s.setCx t 0x12C 0 24 0).setTrk t { s.trk t with blankSum := 0, closed := false }

/-- Does the track's next block open a stack: its last one has closed, or there was none? -/
def State.stackOpens (s : State) (t : Nat) : Bool := decide (s.cx t 0x0C 5 5 = 0) || (s.trk t).closed

/-- The counters of a context that saturate. -/
def State.satCx (s : State) (t off lo w : Nat) : State := s.setCx t off lo w (min (2 ^ w - 1) (s.cx t off lo w + 1))

/-- How a block of a track ended. -/
inductive BlockEnd where
  /-- Swept, with the dump's eight taps, its PE and the block's blank ratio. -/
  | swept (taps : List (Int × Int)) (pe : Int × Int) (blank : Nat)
  /-- Missed by its window; not swept for another reason; not a duty block. -/
  | missed | other | idle
  deriving DecidableEq, Repr

/-- I and Q are added to the two words at `a`. -/
def State.addIQ (s : State) (a : Nat) (v : Int × Int) : State :=
  (s.st32 a (s.ld32 a + BitVec.ofInt 32 v.1)).st32 (a + 4) (s.ld32 (a + 4) + BitVec.ofInt 32 v.2)

/-- A valid dump joins the stack's sums. -/
def State.addDump (s : State) (t : Nat) (taps : List (Int × Int)) (pe : Int × Int) (blank : Nat) : State :=
  let s := (taps.zipIdx.foldl (fun (s : State) (e : (Int × Int) × Nat) => s.addIQ (ctxAddr t + 0xE0 + 8 * e.2) e.1) s).addIQ
    (ctxAddr t + 0x120) pe
  let s := (s.setCx t 0x0C 0 5 (s.cx t 0x0C 0 5 + 1)).setCx t 0x20 0 32 (s.cx t 0x20 0 32 + 1)
  s.setTrk t { s.trk t with blankSum := (s.trk t).blankSum + blank }

/-- A block more since the last record, with the BLANK16 of its dump where it gave a valid one (R236). -/
def SinceRecord.count (c : SinceRecord) (dump : Option Nat) : SinceRecord :=
  match dump with
  | some blank => { c with blocks := c.blocks + 1, dumps := c.dumps + 1, blank := c.blank + blank, missing := 0 }
  | none => { c with blocks := c.blocks + 1, missing := min 200 (c.missing + 1), gap := c.gap || decide (199 ≤ c.missing) }

/-- The BLANK16 of the valid dump that a block ended with. -/
def BlockEnd.dump : BlockEnd → Option Nat
  | .swept _ _ blank => some blank
  | _ => none

/-- What a block leaves in the sums and the counters of MISS. -/
def State.countBlock (s : State) (t : Nat) : BlockEnd → State
  | .swept taps pe blank => s.addDump t taps pe blank
  | .missed => s.satCx t 0x1C 0 16
  | .other => s.satCx t 0x1C 16 16
  | .idle => s

/-- The first symbol boundary of the stack, where it lies in this block of `n` samples (R137). -/
def State.noteSplit (s : State) (t n : Nat) : State :=
  let nblk := s.cx t 0x0C 5 5
  match decide (s.cx t 0x0C 17 1 = 0), s.boundaryIn t n with
  | true, some i => if i < n ∨ nblk + 1 < s.trkStack t then (s.setCx t 0x0C 17 1 1).setCx t 0x12C 0 24 (nblk * n + i) else s
  | _, _ => s

/-- The stack counts a block, and closes when it has all. -/
def State.countStack (s : State) (t : Nat) : State :=
  let nblk := s.cx t 0x0C 5 5 + 1
  let s := s.setCx t 0x0C 5 5 nblk
  if nblk = s.trkStack t then s.closeStack t else s

/-- Block SEQ_NEXT of a track is done with: sums and counters, NCOs, and the stack's close. A block that passes while the program
of the last stack is still to retire belongs to no stack, and changes nothing of the one that the program reads (R135; log 22). -/
def State.finishBlock (s : State) (t n tag : Nat) (e : BlockEnd) : State :=
  let running := (s.trk t).busy
  let s := s.whenB (!running && s.stackOpens t) (·.openStack t tag)
  let s := (s.countBlock t e).satCx t 0x24 16 8
  let s := s.setTrk t { s.trk t with since := (s.trk t).since.count e.dump }
  let s := s.whenB (!running) (·.noteSplit t n)
  let s := s.whenB (!running && s.wipeUnder t n) (·.setCx t 0x0C 16 1 1)
  let s := (s.advanceNco t n).setCx t 8 0 32 (s.seqNext t + 1)
  s.whenB (!running) (·.countStack t)

/-- STACK_STAT.WIPE_UNDER as the track's next block of `n` samples will leave it. -/
def State.underAfter (s : State) (t n : Nat) : Bool := s.wipeUnder t n || (!s.stackOpens t && decide (s.cx t 0x0C 16 1 = 1))

/-- A valid dump of a RAW track goes to the raw dump ring, or is dropped and counted (R138). -/
def State.rawRecord (s : State) (t : Nat) (b : Block) (taps : List (Int × Int)) (pe : Int × Int) : State :=
  if s.cx t 0 28 1 = 0 then s
  else
    let base := s.rd F.TRK_RAW_BASE_BASE
    let size := s.rd F.TRK_RAW_SIZE_RECORDS
    let wr := s.rd F.TRK_RAW_WR_INDEX
    let full := decide ((wr + 1) % max 1 size = s.rd F.TRK_RAW_RD_INDEX)
    let okBase := decide (base % 128 = 0 ∧ 0x10000000 ≤ base ∧ base + 128 * size ≤ 0x10800000 ∧ 2 ≤ size ∧ size ≤ 8192)
    if full ∨ ¬ okBase then s.sat F.TRK_RAW_DROP_COUNT
    else
      let w := fun (i : Int) => BitVec.ofInt 32 i
      let words : List Word :=
        [ BitVec.ofNat 32 (t + 4096 * s.trkPod t + 65536 * s.trkState t), BitVec.ofNat 32 b.seq, BitVec.ofNat 32 (dtNs b.tag),
          BitVec.ofNat 32 (dtSec b.tag), BitVec.ofNat 32 (dtSec b.tag / 2 ^ 32 + 65536 * dtFrac b.tag),
          BitVec.ofNat 32 (b.blank16 + if s.underAfter t b.len then 65536 else 0), w pe.1, w pe.2 ] ++
        taps.flatMap (fun v => [w v.1, w v.2]) ++
        [ s.ld32 (ctxAddr t + 0x50), s.ld32 (ctxAddr t + 0x54), s.ld32 (ctxAddr t + 0x40), s.ld32 (ctxAddr t + 0x60), 0, 0, 0, 0 ]
      ((s.putWords (base + 128 * wr) words).wr F.TRK_RAW_WR_INDEX ((wr + 1) % size)).pace

/-! ### Uncorrectable errors (R14, R141) -/

/-- An uncorrectable error in a context: the track is lost (R141). -/
def State.trackEcc (s : State) (a : Nat) (owner : Nat := 0) : State :=
  let t := (a - 0x30000000) / 0x200
  let s := (s.disableTrack t 6).sat F.TRK_ECC_UNCORR
  (s.wr F.TRK_UNCORR_ADDR_ADDR (a / 4)).raise 12 (BitVec.ofNat 32 a) (s.reg Reg.TRK_ECC) owner

/-- The word at `a` is upset: 1 correctably, 2 uncorrectably, 0 not at all. -/
def State.setUpset (s : State) (a n : Nat) : State := { s with ecc := put 0 s.ecc (a / 4) n }

/-- An access of `owner` to pool `p` meets an uncorrectable error in the word at `a` (R14, R141, R347). -/
def State.eccAccess (s : State) (owner : Nat) (p : Pool) (a : Nat) : State :=
  match p.eccSource with
  | none => s
  | some 12 => s.trackEcc (a / 4 * 4) owner
  | some n => s.pulseSrc n (BitVec.ofNat 32 (a / 4 * 4)) 0 owner

/-- Hardware reads the `n` bytes from `a` on, of pool `p`, for a unit: an uncorrectable word among them raises its source. -/
def State.eccScan (s : State) (owner : Nat) (p : Pool) (a n : Nat) : State :=
  match s.ecc.find? fun e => decide (e.2 = 2 ∧ a < 4 * e.1 + 4 ∧ 4 * e.1 < a + n) with
  | none => s
  | some e => s.eccAccess owner p (4 * e.1)

/-- A unit has read the `n` words from `a` on, of whichever pool holds them: an uncorrectable word among them raises its pool's source, and
the free values in its place are spent (R347, R351; log 150). -/
def State.readDone (s : State) (owner a n : Nat) : State :=
  match poolOf a with
  | none => s
  | some p => if s.badIn a (4 * n) then let t := s.eccScan owner p a (4 * n); { t with free := t.free + n } else s

/-! ### Sweeps (R116–R121) -/

/-- May the track be swept on this block by pod `p` (R119)? -/
def State.eligible (s : State) (p t n : Nat) (b : Block) : Bool :=
  s.trkEn t && decide (1 ≤ s.trkState t ∧ s.trkState t ≤ 4 ∧ s.trkPod t = p ∧ s.trkStream t = n ∧ s.seqNext t = b.seq % 2 ^ 32) &&
  b.valid && b.complete && b.window && !(s.trk t).busy && s.dutyBlock t b.seq && (s.trk t).admitted.contains (b.seq % 2 ^ 32)

/-- The blocks a pod may sweep now, with the FCLK left of their windows. -/
def State.candidates (s : State) (p : Nat) : List (Nat × Nat × Block) :=
  (List.range 24).flatMap fun n =>
    ((s.stream n).blocks.filter fun b =>
      decide (b.len / 16 + 64 ≤ s.windowLeft n b) && allTracks.any fun t => s.eligible p t n b).map
      fun b => (s.windowLeft n b, n, b)

/-- The candidate whose window closes first, the lower stream on a tie (R120). -/
def earliest : List (Nat × Nat × Block) → Option (Nat × Nat × Block)
  | [] => none
  | c :: rest => match earliest rest with
    | none => some c
    | some d => if d.1 < c.1 then some d else some c

/-- A track due for its compare (R144). -/
def State.due (s : State) (t : Nat) : Bool := decide (12 ≤ s.cx t 0x24 16 8)

/-- At most one due track of a list. -/
def oneDue (due : Nat → Bool) : Bool → List Nat → List Nat
  | _, [] => []
  | seen, t :: rest => if due t then (if seen then oneDue due seen rest else t :: oneDue due true rest) else t :: oneDue due seen rest

/-- The tracks for a block's lanes: P0 to P3, then by number. -/
def State.laneTracks (s : State) (p n : Nat) (b : Block) : List Nat :=
  oneDue s.due false ((List.range 4).flatMap fun pr =>
    allTracks.filter fun t => decide (s.trkPrio t = pr) && s.eligible p t n b)

/-- Working lanes in service. -/
def State.lanesOk (s : State) (p : Nat) : List Nat := (List.range 8).filter fun l => (s.rd (F.POD_STAT_LANE_OK p)).testBit l

/-- The lane the husk takes: a suspect lane in use, else the due track's, else the next after the one checked last (R144, R146). -/
def State.huskLane (s : State) (p : Nat) (lanes : List (Nat × Nat)) : Nat :=
  let used := lanes.map (·.1)
  let sus := used.find? fun l => (s.rd (F.POD_HUSK_STAT_SUSPECT p)).testBit l
  let due := (lanes.find? fun e => s.due e.2).map (·.1)
  let next := ((List.range 8).map fun i => ((s.pod p).lastLane + 1 + i) % 8).find? fun l => used.contains l
  (sus.or (due.or next)).getD 0

/-- Would the sweep retry a SUSPECT lane with the track whose compare failed there? The pod runs the retry as a self-check instead (R424). -/
def State.retryBars (s : State) (p : Nat) (lanes : List (Nat × Nat)) : Bool :=
  lanes.any fun e => (s.rd (F.POD_HUSK_STAT_SUSPECT p)).testBit e.1 && decide (look 0 (s.pod p).failed e.1 = e.2 + 1)

/-- Would a lane in service go more than 30,720 FCLK without a compare (R145)? -/
def State.selfCheckDue (s : State) (p len : Nat) : Bool :=
  (s.lanesOk p).any fun l => decide (look 0 (s.pod p).compared l + 30720 < s.now + len)

/-- May the pod sweep at all? -/
def State.podSweeps (s : State) (p : Nat) : Bool :=
  decide (p < 6) && s.inRun (8 + p) && s.on (F.POD_CTRL_EN p) && decide (s.rd (F.POD_STAT_STATE p) = 1)

/-- The code memory that a track's lane reads: its memory code, its secondary code and its AltBOC table (R129, R130, R132). -/
def State.codeReads (s : State) (t : Nat) : List (Nat × Nat) :=
  let wide := if s.altBoc t then 2 else 1
  (if s.cx t 0x80 0 2 = 2 then [(s.cx t 0xA4 0 21, (s.codeLen t * wide + 7) / 8)] else []) ++
  (if s.cx t 0xAC 12 1 = 1 then [(s.cx t 0xA8 0 21, (s.cx t 0xAC 0 12 * wide + 7) / 8)] else []) ++
  (if s.altBoc t then [(s.cx t 0xBC 0 21, 32)] else [])

/-- SWEEP_START (R120): a lane whose context has an uncorrectable error at its preload stays empty (R141, R150). -/
def execSweepStart (p : Nat) (s : State) : Out :=
  .next (s.whenB (s.podSweeps p && (s.pod p).sweep.isNone && (s.pod p).verdict.isEmpty) fun s =>
    match earliest (s.candidates p) with
    | none => s
    | some (_, n, b) =>
      let lanes := (s.lanesOk p).zip (s.laneTracks p n b)
      if s.selfCheckDue p (b.len / 16) || s.retryBars p lanes then s
      else
        let husk := s.huskLane p lanes
        let bad := fun (e : Nat × Nat) => s.badIn (ctxAddr e.2) 0x200
        let s := lanes.foldl (fun s e => s.eccScan 0 .context (ctxAddr e.2) 0x200) s
        let s := lanes.foldl (fun s e => (s.codeReads e.2).foldl (fun s r => s.eccScan 0 .code (0x34000000 + r.1) r.2) s) s
        let s := s.eccScan 0 .ring b.addr b.len
        s.setPod p { s.pod p with sweep := some ⟨n, b.seq, lanes.filter fun e => !bad e, husk⟩ })

/-- The block of a stream with this number. -/
def State.blockOf (s : State) (n seq : Nat) : Option Block := (s.stream n).blocks.find? fun b => decide (b.seq % 2 ^ 32 = seq % 2 ^ 32)

/-- E06: an enabled tap beyond ±4 chips on a track with a subcarrier (R147, R424). -/
def State.falseMismatch (s : State) (t : Nat) : Bool :=
  decide (s.cx t 0xB0 0 3 ≠ 0) && (List.range 8).any fun tap => decide (s.cx t 0xD0 tap 1 = 1 ∧ 1024 < (s.tapOff t tap).natAbs)

/-- A mismatch is counted. -/
def State.countMismatch (s : State) (p : Nat) : State := (s.sat (F.POD_HUSK_MISM_MISM p)).wr (F.POD_EVT_MISMATCH p) 1

/-- A lane's compare fails: it becomes SUSPECT, or, on its retry, the verdict is due (R146). -/
def State.laneMismatch (s : State) (p l : Nat) : State :=
  let s := s.countMismatch p
  let s := s.setPod p { s.pod p with compared := put 0 (s.pod p).compared l s.now }
  let sus : Fld := ⟨Reg.POD_HUSK_STAT p, l, 1⟩
  if s.on sus then
    s.setPod p { s.pod p with verdict := if (s.pod p).verdict.contains l then (s.pod p).verdict else (s.pod p).verdict ++ [l] }
  else s.wr sus 1

/-- A lane's compare passes; a SUSPECT lane returns to service. -/
def State.lanePass (s : State) (p l : Nat) : State :=
  let sus : Fld := ⟨Reg.POD_HUSK_STAT p, l, 1⟩
  let s := if s.on sus then (s.wr sus 0).sat (F.POD_HUSK_MISM_RETRY_OK p) else s
  s.setPod p { s.pod p with compared := put 0 (s.pod p).compared l s.now }

/-- The husk compare of a sweep, once its result is known. -/
def State.huskResult (s : State) (p l t : Nat) (bad : Bool) : State :=
  let s := s.setPod p { s.pod p with lastLane := l }
  if bad then
    let s := ((s.setCx t 0x0C 18 1 1).setCx t 0x24 24 8 (min 255 (s.cx t 0x24 24 8 + 1))).setCx t 0x24 16 8 0
    let s := s.laneMismatch p l
    s.setPod p { s.pod p with failed := put 0 (s.pod p).failed l (t + 1) }
  else
    let s := s.setCx t 0x24 0 16 (s.cx t 0x24 0 16 + 1)
    (s.setCx t 0x24 16 8 0).lanePass p l

/-- One lane of a sweep is written back. -/
def State.laneBack (s : State) (b : Block) (t : Nat) (valid : Bool) (samples : List Nat) : State :=
  if valid then
    let split := decide (s.cx t 0 29 1 = 1) && (decide (s.cx t 0x0C 17 1 = 0) || s.stackOpens t)
    let (taps, pe, s) := s.dump t split samples
    let s := s.rawRecord t b taps pe
    s.finishBlock t b.len b.tag (.swept taps pe b.blank16)
  else s.finishBlock t b.len b.tag .other

/-- Residue faults of a sweep (R133). -/
def State.residues (s : State) (p mask : Nat) : State :=
  if mask % 512 = 0 then s.lower p
  else
    let faults := ((List.range 9).filter mask.testBit).length
    let s := (s.sat (F.POD_RESID_COUNT p) faults).wr (F.POD_RESID_LANES p) mask
    (s.wr (F.POD_EVT_RESIDUE p) 1).raise p 0 (s.reg (Reg.POD_RESID p))

/-- SWEEP_WRITEBACK: `residue` has a bit for each lane with a residue fault, `mismatch` says that the husk compare failed (log 6). -/
def execSweepWriteback (p residue : Nat) (mismatch : Bool) (s : State) : Out :=
  .next (match (s.pod p).sweep with
  | none => s
  | some w =>
    match s.blockOf w.stream w.seq with
    | none => s.setPod p { s.pod p with sweep := none }
    | some b =>
      let samples := s.ldBytes b.addr b.len
      let husk := s.on (F.POD_STAT_HUSK_OK p)
      let checked := (w.lanes.find? fun e => decide (e.1 = w.husk)).map (·.2)
      let bad := husk && match checked with
        | none => false
        | some t => mismatch || s.falseMismatch t
      let s := s.setPod p { s.pod p with
        sweep := none, sweeps := (s.pod p).sweeps + 1, sweepFclk := (s.pod p).sweepFclk + b.len / 16 }
      let s := s.residues p residue
      let s := w.lanes.foldl (fun s e =>
        s.laneBack b e.2 (!residue.testBit e.1 && !(bad && decide (e.1 = w.husk))) samples) s
      match husk, checked with
      | true, some t => s.huskResult p w.husk t bad
      | _, _ => s)

/-- Is the track in a sweep of this block of stream `n`? -/
def State.sweptNow (s : State) (n t : Nat) (b : Block) : Bool :=
  (List.range 6).any fun p => match (s.pod p).sweep with
    | none => false
    | some w => decide (w.stream = n ∧ w.seq = b.seq) && w.lanes.any fun e => decide (e.2 = t)

/-- One track passes a block that has left its window. -/
def State.passTrack (s : State) (n : Nat) (b : Block) (t : Nat) : State :=
  if s.trkEn t && decide (s.trkStream t = n ∧ s.seqNext t = b.seq % 2 ^ 32) && !s.sweptNow n t b then
    let p := s.trkPod t
    let could := s.eligible p t n { b with window := true } && s.podSweeps p
    let e : BlockEnd := if ¬ s.dutyBlock t b.seq then .idle
      else if could || ((s.trk t).busy && b.valid) then .missed else .other
    let s := if could && decide (p < 6) then (s.sat (F.POD_MISS_COUNT p)).wr (F.POD_EVT_MISS p) 1 else s
    let s := s.finishBlock t b.len b.tag e
    if b.last then s.setCx t 8 0 32 0 else s
  else s

/-- A block has left its window: the tracks whose next block it is advance over it, and go on from SEQ 0 after the last block before a
restart (R12, R105, R120, R121; log 25). -/
def State.passBlock (s : State) (n : Nat) (b : Block) : State :=
  let s' := allTracks.foldl (fun s t => s.passTrack n b t) s
  let x := s'.stream n
  s'.setStream n { x with blocks := (x.blocks.map fun c => if c = b then { c with passed := true } else c).filter fun c =>
    !(c.complete && c.passed) }

/-- BLOCK_WINDOW_CLOSE. -/
def execBlockWindowClose (n seq : Nat) (s : State) : Out :=
  .next (match (s.stream n).blocks.reverse.find? fun b => decide (b.seq % 2 ^ 32 = seq % 2 ^ 32) && !b.window && !b.passed with
  | none => s
  | some b => s.passBlock n b)

/-- The stream's blocks are gone with the ring: every track passes those of its stream that had ended, oldest first (R121; log 168). -/
def State.passAll (s : State) (n : Nat) : State :=
  let s := s.closeWindows n
  (s.stream n).blocks.reverse.foldl (fun s b => if b.passed then s else s.passBlock n b) s

/-! ### Self-checks and retests (R145, R146) -/

/-- The Proofer's MOVEs to a pod that have not taken effect are dropped: a pod in FAULT is no packing target (R326; log 170). -/
def State.dropMoves (s : State) (p : Nat) : State :=
  let tracks := s.fabric.tracks.map fun e =>
    (e.1, if e.2.moveTo = some p ∧ ¬ e.2.byCommand then { e.2 with moveTo := none } else e.2)
  { s with fabric := { s.fabric with tracks := tracks.filter fun e => decide (e.2 ≠ {}) } }

/-- The pod enters FAULT and stops sweeping. -/
def State.podFault (s : State) (p : Nat) : State :=
  let s := (s.wr (F.POD_STAT_STATE p) 3).dropMoves p
  s.setPod p { s.pod p with sweep := none }

/-- One lane in the self-check that decides on the lanes `ls`: those are counted and compared, every other as in any self-check. -/
def State.verdictLane (s : State) (p : Nat) (ls : List Nat) (mismatch : Nat) (k : Nat) : State :=
  let s := if ¬ ls.contains k then (if mismatch.testBit k then s.laneMismatch p k else s.lanePass p k)
    else if mismatch.testBit k then s.countMismatch p else s
  s.setPod p { s.pod p with compared := put 0 (s.pod p).compared k s.now }

/-- A lane is taken out of service. -/
def State.laneOut (s : State) (p l : Nat) : State :=
  let s := (s.wr ⟨Reg.POD_STAT p, 2 + l, 1⟩ 0).wr ⟨Reg.POD_HUSK_STAT p, 8 + l, 1⟩ 1
  (s.wr ⟨Reg.POD_HUSK_STAT p, l, 1⟩ 0).wr (F.POD_EVT_LANE_FAIL p) 1

/-- The verdict on the lanes `ls` after failed retries: the husk lane failed where two working lanes mismatch, those lanes otherwise
(log 169). -/
def State.verdict (s : State) (p : Nat) (ls : List Nat) (bad : Nat) : State :=
  let s := s.setPod p { s.pod p with verdict := [] }
  let s := if 2 ≤ bad then
      let s := ((s.wr (F.POD_STAT_HUSK_OK p) 0).wr (F.POD_HUSK_STAT_HUSK_FAILED p) 1).wr (F.POD_EVT_HUSK_FAIL p) 1
      s.podFault p
    else
      let s := ls.foldl (fun s l => s.laneOut p l) s
      if s.rd (F.POD_STAT_LANE_OK p) = 0 then s.podFault p else s
  s.raise (6 + p) 0 (s.reg (Reg.POD_HUSK_STAT p))

/-- SELF_CHECK_SWEEP: `mismatch` has a bit for each working lane whose compare failed. -/
def execSelfCheckSweep (p mismatch : Nat) (s : State) : Out :=
  .next (s.whenB (s.podSweeps p && (s.pod p).sweep.isNone && s.on (F.POD_STAT_HUSK_OK p)) fun s =>
    let x := s.pod p
    let s := s.setPod p { x with selfchk := x.selfchk + 1, sweepFclk := x.sweepFclk + 240 }
    let bad := (s.lanesOk p).filter mismatch.testBit
    match x.verdict with
    | l :: ls => ((s.lanesOk p).foldl (fun s k => s.verdictLane p (l :: ls) mismatch k) s).verdict p (l :: ls) bad.length
    | [] => (s.lanesOk p).foldl (fun s l => if mismatch.testBit l then s.laneMismatch p l else s.lanePass p l) s)

/-- PODn_CMD.RETEST: the lanes of `pass` passed all 16 self-check sweeps. -/
def State.retest (s : State) (p lanes pass : Nat) : State :=
  let s := s.setPod p { s.pod p with selfchk := (s.pod p).selfchk + 16, sweepFclk := (s.pod p).sweepFclk + 3840 }
  let s := (List.range 8).foldl (fun s l =>
    if lanes.testBit l && pass.testBit l then
      let s := (s.wr ⟨Reg.POD_STAT p, 2 + l, 1⟩ 1).wr ⟨Reg.POD_HUSK_STAT p, 8 + l, 1⟩ 0
      (s.wr ⟨Reg.POD_HUSK_STAT p, l, 1⟩ 0).setPod p { s.pod p with compared := put 0 (s.pod p).compared l s.now }
    else s) s
  let s := if lanes.testBit 8 && pass.testBit 8 then
      (s.wr (F.POD_STAT_HUSK_OK p) 1).wr (F.POD_HUSK_STAT_HUSK_FAILED p) 0
    else s
  let s := if s.rd (F.POD_STAT_STATE p) = 3 ∧ s.on (F.POD_STAT_HUSK_OK p) ∧ s.rd (F.POD_STAT_LANE_OK p) ≠ 0 then
      s.wr (F.POD_STAT_STATE p) 1 else s
  if s.on (F.POD_STAT_HUSK_OK p) ∧ s.rd (F.POD_HUSK_STAT_FAILED p) = 0 then s.lower (6 + p) else s

/-- RETEST, with the lanes that passed. -/
def execRetest (owner p lanes pass : Nat) (s : State) : Out :=
  .next (if p < 6 then s.command owner (Reg.POD_CMD p) (·.retest p lanes pass) else s)

/-! ### TRK commands (R142) -/

/-- The store is being cleared after a CORE wake (R16), or a command waits for its moment. -/
def State.trkBusy (s : State) : Bool := s.on F.TRK_SCRUB_CLEARING || s.on F.TRK_RESULT_PENDING

/-- Do `bytes` from a word-aligned byte offset lie inside code memory (R129)? -/
def inCode (base bytes : Nat) : Bool := decide (base % 4 = 0 ∧ base + bytes ≤ 0x200000)

/-- Why START refuses a context (R142); the lowest-numbered reason (log 26). -/
def State.startReason (s : State) (t : Nat) : Option Nat :=
  let mode := s.cx t 0x80 0 2
  let sc := s.cx t 0xB0 0 3
  let wide := if sc = 5 then 2 else 1
  let lenBad := fun n => decide (n < 2 ∨ 27 < n)
  let duty := s.cx t 0 19 4
  if s.cx t 0 14 5 < 1 ∨ 20 < s.cx t 0 14 5 then some 1
  else if mode = 3 then some 2
  else if (mode ≤ 1 && lenBad (s.cx t 0x80 3 5)) || (mode = 0 && lenBad (s.cx t 0x80 8 5)) then some 3
  else if (mode = 2 && !inCode (s.cx t 0xA4 0 21) ((s.codeLen t * wide + 7) / 8)) ||
      (s.cx t 0xAC 12 1 = 1 && !inCode (s.cx t 0xA8 0 21) ((s.cx t 0xAC 0 12 * wide + 7) / 8)) then some 4
  else if 6 ≤ sc ∨ (sc = 3 ∧ 16 < s.cx t 0xB0 13 4 + s.cx t 0xB0 17 4) ∨ (sc = 5 ∧ mode ≠ 2) then some 5
  else if s.cx t 0x5C 0 2 = 3 then some 6
  else if 5 < s.trkPod t ∨ 23 < s.trkStream t then some 7
  else if 10 < duty ∨ max 1 duty ≤ s.cx t 0 23 4 then some 8
  else if s.trkState t = 7 then some 0
  else none

/-- A result of TRK_CMD. -/
def State.trkResult (s : State) (code : Nat) : State := s.wr F.TRK_RESULT_RESULT code

/-- CFG_ERR, with the track and the reason. -/
def State.trkCfgErr (s : State) (t reason : Nat) : State :=
  ((s.wr F.TRK_CFGERR_TRACK t).wr F.TRK_CFGERR_REASON reason).trkResult 3

/-- The next block of a stream to complete. -/
def State.nextToComplete (s : State) (n : Nat) : Nat :=
  match ((s.stream n).blocks.reverse.find? fun b => b.window && !b.complete) with
  | some b => b.seq
  | none => (s.stream n).nextSeq

/-- How many blocks of stream `n` from `seq` on have left their windows (R142). -/
def State.behind (s : State) (n seq : Nat) : Nat :=
  (signed 32 (unsigned 32 (((s.stream n).nextSeq : Int) - (s.stream n).cfg.depth - seq))).toNat

/-- Advances a starting track over `k` blocks whose windows have closed; a tag no descriptor keeps any more is a free value. -/
def State.catchUp (s : State) (t : Nat) : Nat → State
  | 0 => s
  | k + 1 =>
    let n := s.trkStream t
    let e : BlockEnd := if s.dutyBlock t (s.seqNext t) then .other else .idle
    let (tag, s) := match s.blockOf n (s.seqNext t) with
      | some b => (b.tag, s)
      | none => s.draw
    (s.finishBlock t (samplesOf (s.stream n).cfg.rate) tag e).catchUp t k

/-- Tap offsets outside ±2,048 are held at START (R126). -/
def State.holdTaps (s : State) (t : Nat) : State :=
  (List.range 8).foldl (fun s i =>
    s.setCx t (0xC0 + 4 * (i / 2)) (16 * (i % 2)) 16 (unsigned 16 (held (-2048) 2047 (s.tapOff t i)))) s

/-- TRK_CMD START. -/
def State.trkStart (s : State) (t : Nat) (atSeq : Bool) : State :=
  if s.trkBusy then s.trkResult 1
  else if s.trkEn t then s.trkResult 2
  else match s.startReason t with
    | some r => s.trkCfgErr t r
    | none =>
      if ¬ s.inRun (8 + s.trkPod t) then s.trkResult 4
      else
        let n := s.trkStream t
        let x := s.stream n
        let seq := if atSeq then s.rd F.TRK_START_SEQ_SEQ else s.nextToComplete n
        let behind := s.behind n seq
        if 64 < behind then s.trkResult 5
        else
          let s := ((s.holdTaps t).setCx t 8 0 32 seq).setCx t 0x0C 0 32 0
          let s := (s.setCx t 0x20 0 32 0).setCx t 0x60 0 32 0
          let s := { s with nav := { s.nav with scanned := put 0 s.nav.scanned t (s.ld32 (ctxAddr t + 0x1BC)) } }
          let moves := look 0 s.rf.loMoves (x.cfg.adc % 3)
          let s := (s.setTrk t { fresh := true, bare := decide (s.cx t 0x68 26 6 = 0), loSeen := moves }).setCx t 0 3 1 1
          let s := s.countTrack (s.trkPod t) true
          (s.catchUp t behind).trkResult 0

/-- TRK_START. -/
def execTrkStart (owner t : Nat) (atSeq : Bool) (s : State) : Out :=
  .next (if t < 4096 then s.command owner Reg.TRK_CMD (·.trkStart t atSeq) else s)

/-- TRK_CMD STOP: requested for a track that is enabled; one that is not becomes IDLE (R221). -/
def State.trkStop (s : State) (t : Nat) : State :=
  if s.trkBusy then s.trkResult 1
  else if s.trkEn t then
    ((s.setTrk t { s.trk t with stopping := true, moveTo := none, byCommand := true }).wr F.TRK_RESULT_PENDING 1).trkResult 0
  else (s.setCx t 0 0 3 0).trkResult 0

/-- TRK_STOP. -/
def execTrkStop (owner t : Nat) (s : State) : Out :=
  .next (if t < 4096 then s.command owner Reg.TRK_CMD (·.trkStop t) else s)

/-- A track moves to another pod now. -/
def State.movePod (s : State) (t p : Nat) : State :=
  if s.trkEn t then ((s.countTrack (s.trkPod t) false).setCx t 0 4 3 p).countTrack p true else s.setCx t 0 4 3 p

/-- TRK_CMD MOVE. -/
def State.trkMove (s : State) (t p : Nat) : State :=
  if s.trkBusy then s.trkResult 1
  else if 5 < p then s.trkCfgErr t 7
  else if ¬ s.inRun (8 + p) then s.trkResult 4
  else if (s.trk t).stopping then s.trkResult 0
  else if ¬ s.trkEn t then (s.movePod t p).trkResult 0
  else ((s.setTrk t { s.trk t with moveTo := some p, byCommand := true }).wr F.TRK_RESULT_PENDING 1).trkResult 0

/-- TRK_MOVE. -/
def execTrkMove (owner t p : Nat) (s : State) : Out :=
  .next (if t < 4096 then s.command owner Reg.TRK_CMD (·.trkMove t p) else s)

/-- TRK_CMD CLEAR. -/
def State.trkClear (s : State) (t : Nat) : State :=
  if s.trkBusy then s.trkResult 1
  else if s.trkEn t then s.trkResult 2
  else (s.forget (ctxAddr t) (ctxAddr t + 0x1FF)).trkResult 0

/-- TRK_CLEAR. -/
def execTrkClear (owner t : Nat) (s : State) : Out :=
  .next (if t < 4096 then s.command owner Reg.TRK_CMD (·.trkClear t) else s)

/-- Is the track in a sweep? -/
def State.inSweep (s : State) (t : Nat) : Bool :=
  (List.range 6).any fun p => match (s.pod p).sweep with
    | none => false
    | some w => w.lanes.any fun e => decide (e.2 = t)

/-- Does a sequencer run the track's program? -/
def State.programRuns (s : State) (t : Nat) : Bool :=
  (List.range 24).any fun e => (look {} s.lyz.engines e).on && decide ((look {} s.lyz.engines e).track = t)

/-- A pending command of TRK_CMD is done. -/
def State.trkDone (s : State) (t : Nat) : State :=
  let s := if (s.trk t).byCommand then s.wr F.TRK_RESULT_PENDING 0 else s
  s.setTrk t { s.trk t with stopping := false, moveTo := none, byCommand := false }

/-- TRK_STOP_EFFECT. -/
def execTrkStopEffect (t : Nat) (s : State) : Out :=
  .next (s.whenB ((s.trk t).stopping && !s.inSweep t && !s.programRuns t) fun s =>
    ((s.disableTrack t 0).setCx t 0x0C 0 32 0).trkDone t)

/-- TRK_MOVE_EFFECT: at a stack boundary, with the program retired. -/
def execTrkMoveEffect (t : Nat) (s : State) : Out :=
  .next (match (s.trk t).moveTo with
  | none => s
  | some p =>
    s.whenB (!(s.trk t).busy && !s.inSweep t && s.stackOpens t) fun s => (s.movePod t p).trkDone t)

/-! ### The context store (R16, R140, R141) -/

/-- A write of a context word by an owner that is not the track's own program (R140). EN changes only by TRK_CMD. -/
def State.writeContext (s : State) (owner a : Nat) (v : Word) : State :=
  let t := (a - 0x30000000) / 0x200
  let off := (a - 0x30000000) % 0x200 / 4 * 4
  if s.on F.TRK_SCRUB_CLEARING then s.tgtErr owner
  else if s.trkEn t ∧ off < 0x140 then
    let s := (s.sat F.TRK_WRBLOCK_COUNT).wr F.TRK_WRBLOCK_OWNER owner
    (s.wr F.TRK_WRBLOCK_ADDR_ADDR ((ctxAddr t + off) / 4)).tgtErr owner
  else
    let v := v &&& ctxMask off
    (s.st32 (ctxAddr t + off) (if off = 0 then withBits v 3 1 0 else v)).okay owner

/-- TRACK_CONTEXT_WRITE. -/
def execTrackContextWrite (owner a : Nat) (v : Word) (s : State) : Out :=
  .next (if 0x30000000 ≤ a ∧ a < 0x30200000 then
    s.ifHeard owner a true fun s => if s.inRun 1 then s.writeContext owner a v else s.offBlock owner a true
  else s)

/-- SCRUB: the next word is read and checked; an upset that has struck it is the operand, or stands there already (log 128): corrected
(1) and written back, or uncorrectable (2). -/
def execScrub (err : Nat) (s : State) : Out :=
  .next (s.whenB (s.inRun 1 && !s.on F.TRK_SCRUB_CLEARING) fun s =>
    let w := s.fabric.scrubAt
    let s := { s with fabric := { s.fabric with scrubAt := (w + 1) % 524288 } }
    let s := if w + 1 = 524288 then s.inc F.TRK_SCRUB_PASSES else s
    let a := 0x30000000 + 4 * w
    match max err (look 0 s.ecc (a / 4)) with
    | 0 => s.lower 12
    | 1 => (s.setUpset a 0).sat F.TRK_ECC_CORRECTED
    | _ => (s.setUpset a 2).trackEcc a)

/-- TRK_WAKE_CLEAR_DONE (R16). -/
def execTrkWakeClearDone (s : State) : Out :=
  .next (s.whenB (s.inRun 1 && s.on F.TRK_SCRUB_CLEARING) fun s =>
    (s.forget 0x30000000 0x301FFFFF).wr F.TRK_SCRUB_CLEARING 0)

end Sys2Proof.Machine
end

