-- ==== Sys2Proof/Machine/Operands.lean ====
section
/-! DEFINITION. A Lyzovel engine's operands and how it goes from one instruction to the next (R151–R162, R174–R179, R196–R198).
Engines: 0–23 track sequencers (pod × 4 + n), 32–39 control contexts, 40–47 DMA program channels. -/

namespace Sys2Proof.Machine

/-! ### Engines -/

inductive Kind where
  | track | ctx | dma
  deriving DecidableEq, Repr

def kindOf (e : Nat) : Kind := if e < 32 then .track else if e < 40 then .ctx else .dma

/-- Is this the number of an engine? -/
def isEngine (e : Nat) : Bool := decide (e < 24) || decide (32 ≤ e ∧ e < 48)

/-- The owner ID of an engine (R31). -/
def ownerOfEngine (e : Nat) : Nat :=
  match kindOf e with
  | .track => 24 + e
  | .ctx => e - 24
  | .dma => e + 8

def State.eng (s : State) (e : Nat) : Engine := look {} s.lyz.engines e

def State.setEng (s : State) (e : Nat) (x : Engine) : State :=
  { s with lyz := { s.lyz with engines := put {} s.lyz.engines e x } }

/-- A program channel ends its move before it pauses (R374). -/
def State.pausing (s : State) (e : Nat) : Bool :=
  decide (kindOf e = .dma ∧ s.rd (F.DMA_PCH_STAT_STATE (e - 40)) = 4 ∧ (s.eng e).moved ≠ 0)

/-- Does the engine issue instructions now: a track program runs, a context or channel is in RUN, or a channel ends its move before it
pauses (R374)? No channel fetches while HALT_BUSERR is set (R371). -/
def State.issues (s : State) (e : Nat) : Bool :=
  isEngine e && match kindOf e with
  | .track => (s.eng e).on
  | .ctx => s.inRun 18 && decide (s.rd (F.LYZ_CTX_STAT_STATE (e - 32)) = 2)
  | .dma => s.inRun 18 && !s.on F.DMA_STAT_HALT_BUSERR && decide (s.rd (F.DMA_PCH_STAT_STATE (e - 40)) = 1 ∨ s.pausing e)

/-! ### Registers and the k-window (R151, R153, R174) -/

/-- g[r]; g0 reads zero. -/
def State.g (s : State) (e r : Nat) : Word := if r = 0 then 0 else look 0 (s.eng e).g r

/-- g[r] as a signed number. -/
def State.gi (s : State) (e r : Nat) : Int := (s.g e r).toInt

/-- g[r] takes a value; writes to g0 are discarded. -/
def State.setG (s : State) (e r : Nat) (v : Word) : State :=
  if r = 0 then s else s.setEng e { s.eng e with g := put 0 (s.eng e).g r v }

/-- Sticky bits of FL are set. -/
def State.orFl (s : State) (e m : Nat) : State := s.setEng e { s.eng e with fl := (s.eng e).fl ||| m }

/-- The byte address of k0 where the k-window lies in memory. -/
def State.kBase (s : State) (e : Nat) : Nat :=
  match kindOf e with
  | .track => ctxAddr (s.eng e).track
  | _ => s.rd (F.DMA_PCH_KBASE_KBASE (e - 40)) * 512

/-- k[w]. -/
def State.k (s : State) (e w : Nat) : Word :=
  if kindOf e = .ctx then look 0 (s.eng e).k w else s.ld32 (s.kBase e + 4 * w)

/-- k[w] as a signed number. -/
def State.ki (s : State) (e w : Nat) : Int := (s.k e w).toInt

/-- k[w] takes a value. -/
def State.setK (s : State) (e w : Nat) (v : Word) : State :=
  match kindOf e with
  | .ctx => s.setEng e { s.eng e with k := put 0 (s.eng e).k w v }
  | .track => s.st32 (s.kBase e + 4 * w) v
  | .dma => s.putRam (s.kBase e + 4 * w) 4 v.toNat

/-! ### Signals and interrupts of DMA channels (R367) -/

/-- A channel's bit is set in DMA_IRQ or DMA_IRQ_ERR; with its DMA_IEN bit it signals its vector (R25, R367). -/
def State.dmaIrq (s : State) (err : Bool) (ch : Nat) : State :=
  let s := s.wr ⟨if err then Reg.DMA_IRQ_ERR else Reg.DMA_IRQ, ch, 1⟩ 1
  if s.on ⟨Reg.DMA_IEN, ch, 1⟩ then s.signal (9 + ch) else s

/-! ### Votes of the control sequencer (R189, R360) -/

/-- Does any context hold the vote on domain `d`, or run while SEQ is up? -/
def State.ctxWants (s : State) (d : Nat) : Bool :=
  (List.range 8).any fun n => decide (look 0 s.power.ctxVotes (n * 32 + d) = 1) ||
    (decide (d = 18) && decide (s.rd (F.LYZ_CTX_STAT_STATE n) = 2 ∨ s.rd (F.LYZ_CTX_STAT_STATE n) = 3))

/-- The votes of client 6 follow, and the domains settle, client 7's vote among the hardware's. -/
def State.seqVotes (s : State) : State :=
  ((List.range 19).foldl (fun s d => s.vote 6 d (s.ctxWants d)) s).settle

/-- A context's STATE changes (R195). -/
def State.ctxGo (s : State) (n st : Nat) : State := (s.wr (F.LYZ_CTX_STAT_STATE n) st).seqVotes

/-- A program channel's STATE changes. -/
def State.pchGo (s : State) (p st : Nat) : State := (s.wr (F.DMA_PCH_STAT_STATE p) st).seqVotes

/-- An engine's RUN or WAIT state, where it has one. -/
def State.engGo (s : State) (e : Nat) (waiting : Bool) : State :=
  match kindOf e with
  | .track => s
  | .ctx => s.ctxGo (e - 32) (if waiting then 3 else 2)
  | .dma => s.pchGo (e - 40) (if waiting then 2 else 1)

/-! ### Program positions (R176–R179) -/

/-- The byte address of the word the engine executes; a DMA channel's program counter is a byte address in words. -/
def State.pcByte (s : State) (e : Nat) : Nat :=
  if kindOf e = .dma then 4 * (s.eng e).pc else 0x10780000 + 4 * (s.eng e).pc

/-- May this word be fetched: inside the program store, or, for a DMA channel, inside system SRAM (R176, R372)? -/
def State.fetchOk (e pc : Nat) : Bool :=
  if kindOf e = .dma then decide (0x10000000 ≤ 4 * pc ∧ 4 * pc < 0x10800000) else decide (pc < 131072)

/-- The engine goes on at word `pc`; CUR_PC of a channel follows. -/
def State.setPc (s : State) (e pc : Nat) : State :=
  let s := s.setEng e { s.eng e with pc := pc }
  if kindOf e = .dma then s.wr (F.DMA_PCH_CUR_PC_CUR_PC (e - 40)) pc else s

/-- The word after `pc` in program order, with the loops of this call depth stepped: from a body's last word back to its first while
iterations remain, out of the loop after the last. -/
def nextPc (depth pc : Nat) : List LoopFrame → Nat × List LoopFrame
  | [] => (pc + 1, [])
  | f :: rest =>
    if f.depth = depth ∧ f.last = pc then
      if 1 < f.left then (f.first, { f with left := f.left - 1 } :: rest)
      else nextPc depth pc rest
    else (pc + 1, f :: rest)

/-- On to the instruction after word `pc`. -/
def State.advanceFrom (s : State) (e pc : Nat) : State :=
  let x := s.eng e
  let (pc', loops) := nextPc x.calls.length pc x.loops
  (s.setEng e { x with loops }).setPc e pc'

/-- On to the instruction after the present one. -/
def State.advance (s : State) (e : Nat) : State := s.advanceFrom e (s.eng e).pc

/-- A taken branch to word `pc`: it ends the loops of this call depth whose body does not hold the target (R179). -/
def State.branchTo (s : State) (e pc : Nat) : State :=
  let x := s.eng e
  let loops := x.loops.dropWhile fun f => decide (f.depth = x.calls.length) && !decide (f.first ≤ pc ∧ pc ≤ f.last)
  (s.setEng e { x with loops }).setPc e pc

/-! ### Faults (R162, R196, R197) -/

/-- A fault is recorded (first only), counted and written to the crumb log (R197). -/
def State.recordFault (s : State) (e code : Nat) : State :=
  let track := if kindOf e = .track then (s.eng e).track else 0
  let info := BitVec.ofNat 32 (ownerOfEngine e + 256 * code + 65536 * track + 2 ^ 31)
  let a := BitVec.ofNat 32 (s.pcByte e)
  let s := if s.on F.LYZ_FLT_INFO_VALID then s
    else (s.setReg Reg.LYZ_FLT_INFO info).setReg Reg.LYZ_FLT_ADDR a
  (s.sat F.LYZ_FLT_CNT_COUNT).addCrumb 0x08 0xFF (ownerOfEngine e) [info, a]

/-- FCLK that an invocation took on track sequencer `e`, for PODn_LOAD (R161). -/
def State.countCycles (s : State) (e n : Nat) : State :=
  s.setPod (e / 4) { s.pod (e / 4) with seqCycles := (s.pod (e / 4)).seqCycles + n }

/-- The engine faults at the present instruction. A track program is abandoned with its N-class effects and its track is LOST; a
context is FAULTED and posts CMD_FAULT; a DMA channel is FAULTED (R162, R196, R374). -/
def State.engFault (s : State) (e code : Nat) : State :=
  let s := s.recordFault e code
  let a := BitVec.ofNat 32 (s.pcByte e)
  match kindOf e with
  | .track =>
    let t := (s.eng e).track
    let s := s.countCycles e (s.eng e).ran
    let s := (s.setEng e {}).unlist t
    let s := s.setCx t 0 0 3 6
    if s.on F.LYZ_CTRL_TRKEV_EN then s.postEvent (s.rd F.LYZ_CTRL_TRKEV_RING) (24 + e) 0x04 t code a else s
  | .ctx =>
    let n := e - 32
    let s := (s.wr (F.LYZ_CTX_STAT_FAULT n) code).ctxGo n 5
    s.postEvent n (8 + n) 0x02 (s.eng e).tag code a
  | .dma =>
    let p := e - 40
    let s := s.setEng e { s.eng e with wait := .none, moved := 0 }
    ((s.wr (F.DMA_PCH_STAT_FAULT p) code).pchGo p 8).dmaIrq true (16 + p)

end Sys2Proof.Machine
end

