-- ==== Sys2Proof/Machine/Words.lean ====
section
/-! DEFINITION. The words of the Lyzovel instruction set (R156, R157, R163, R165, R168, R177, R180, R182–R184, R186–R188): which command a
fetched word spells on an engine, and the word of a command. A word that spells none is ILLEGAL_OP. -/

namespace Sys2Proof.Machine

/-! ### Fields (R156) -/

/-- A word of the R form. -/
def rForm (op d a b fn : Nat) : Word := BitVec.ofNat 32 (op * 2 ^ 26 + d * 2 ^ 21 + a * 2 ^ 16 + b * 2 ^ 11 + fn)

/-- A word of the I form. -/
def iForm (op d a imm : Nat) : Word := BitVec.ofNat 32 (op * 2 ^ 26 + d * 2 ^ 21 + a * 2 ^ 16 + imm)

/-- An answer where a field that must have one value has it. -/
def given (p : Prop) [Decidable p] (i : Option Instr) : Option Instr := if p then i else none

/-! ### Decoding, class by class (R157) -/

/-- Opcode 0x00. -/
def decodeA0 (e d a b : Nat) : Nat → Option Instr
  | 0x000 => some (.add e d a b)
  | 0x001 => some (.sub e d a b)
  | 0x002 => some (.addS e d a b)
  | 0x003 => some (.subS e d a b)
  | 0x004 => some (.and e d a b)
  | 0x005 => some (.or e d a b)
  | 0x006 => some (.xor e d a b)
  | 0x007 => some (.slt e d a b)
  | 0x008 => some (.sltu e d a b)
  | 0x009 => some (.min e d a b)
  | 0x00A => some (.max e d a b)
  | 0x00B => given (b = 0) (some (.abs e d a))
  | 0x00C => some (.sll e d a b)
  | 0x00D => some (.srl e d a b)
  | 0x00E => some (.sra e d a b)
  | _ => none

/-- Opcode 0x05: the shift by a constant that fn[6:5] names. -/
def decodeA5 (e d a n : Nat) : Nat → Option Instr
  | 0 => some (.slli e d a n)
  | 1 => some (.srli e d a n)
  | 2 => some (.srai e d a n)
  | 3 => some (.srar e d a n)
  | _ => none

/-- Class A, opcodes 0x00–0x0F (R163); `sat` has no n = 0 (R164). -/
def decodeA (e d a b fn imm : Nat) : Nat → Option Instr
  | 0x00 => decodeA0 e d a b fn
  | 0x01 => some (.addi e d a (signed 16 imm))
  | 0x02 => some (.andi e d a imm)
  | 0x03 => some (.ori e d a imm)
  | 0x04 => given (a = 0) (some (.lui e d imm))
  | 0x05 => given (b = 0) (decodeA5 e d a (fn % 32) (fn / 32))
  | 0x06 => match fn with
    | 0x000 => some (.mul e d a b)
    | 0x001 => some (.mulh e d a b)
    | 0x002 => some (.mulhu e d a b)
    | 0x003 => some (.mulQ e d a b)
    | _ => none
  | 0x07 => match fn with
    | 0x000 => some (.mac e d a b)
    | 0x001 => some (.macQ e d a b)
    | 0x002 => some (.msubQ e d a b)
    | _ => none
  | 0x08 => given (b = 0 ∧ 1 ≤ fn ∧ fn < 32) (some (.sat e d a fn))
  | 0x09 => match fn with
    | 0x000 => given (b = 0) (some (.norm e d a))
    | 0x001 => given (b = 0) (some (.clz e d a))
    | _ => none
  | 0x0A => match fn with
    | 0x000 => some (.mag e d a b)
    | 0x001 => some (.atan2 e d a b)
    | _ => none
  | _ => none

/-- Class D, opcodes 0x10–0x17 (R165). -/
def decodeD (e d a b fn : Nat) : Nat → Option Instr
  | 0x10 => given (a = 0 ∧ b = 0 ∧ fn < 64) (some (.dllNelp e d (fn % 8) (fn / 8)))
  | 0x11 => given (a = 0 ∧ b = 0 ∧ fn < 512) (some (.dllDot e d (fn % 8) (fn / 8 % 8) (fn / 64)))
  | 0x12 => given (a = 0 ∧ b = 0 ∧ fn < 32) (some (.pllCostas e d (fn % 8) (decide (fn / 8 % 2 = 1)) (decide (fn / 16 = 1))))
  | 0x13 => given (fn < 16) (some (.fllCross e d a b (fn % 8) (decide (fn / 8 = 1))))
  | 0x14 => given (fn < 32) (some (.fllAtan e d a b (fn % 8) (decide (fn / 8 % 2 = 1)) (decide (fn / 16 = 1))))
  | 0x15 => given (b = 0 ∧ fn < 256) (some (.lfUpd e d a (fn % 128) (decide (fn / 128 = 1))))
  | 0x16 => given (fn < 128) (some (.lfBlend e d a b fn))
  | 0x17 => given (a = 0 ∧ b = 0 ∧ fn / 16 % 4 ≠ 3)
      (some (.dPow e d (fn % 8) (decide (fn / 8 % 2 = 1)) (fn / 16 % 4) (fn / 64)))
  | _ => none

/-- Class N, opcodes 0x18–0x1F (R168). -/
def decodeN (e d a b fn : Nat) : Nat → Option Instr
  | 0x18 => match fn with
    | 0x000 => given (b = 0) (some (.ncoCarr e d a))
    | 0x001 => given (b = 0) (some (.ncoCarrAdd e d a))
    | _ => none
  | 0x19 => match fn with
    | 0x000 => some (.ncoCode e d a b)
    | 0x001 => given (b = 0) (some (.ncoCodeAdd e d a))
    | _ => none
  | 0x1A => given (d = 0 ∧ b = 0 ∧ fn = 0) (some (.ncoCphs e a))
  | 0x1B => given (d = 0 ∧ b = 0 ∧ fn ≤ 8) (some (.ncoKphs e a fn))
  | 0x1C => match fn / 8 with
    | 0 => given (b = 0) (some (.tapOff e d a (fn % 8)))
    | 1 => given (b = 0) (some (.tapAdd e d a (fn % 8)))
    | 2 => given (b = 0 ∧ fn % 8 = 0) (some (.tapEn e d a))
    | _ => none
  | 0x1D => match fn with
    | 0x000 => given (b = 0) (some (.codeSympos e d a))
    | 0x001 => given (b = 0) (some (.codeSymlen e d a))
    | 0x002 => given (b = 0) (some (.codeSel e d a))
    | _ => none
  | 0x1E => match fn with
    | 0x000 => given (b = 0) (some (.trkStack e d a))
    | 0x001 => some (.trkDuty e d a b)
    | 0x002 => given (b = 0) (some (.trkState e d a))
    | _ => none
  | 0x1F => given (fn = 0) (some (.wipeLd e d a b))
  | _ => none

/-- Is this a branch condition, with its register where it takes one (R177)? -/
def branchOk (cond a : Nat) : Bool := decide (cond < 6) || decide (a = 0 ∧ (cond = 6 ∨ 8 ≤ cond ∧ cond ≤ 10))

/-- Class F, opcodes 0x20–0x24 (R177). -/
def decodeF (e d a b fn imm : Nat) : Nat → Option Instr
  | 0x20 => given (branchOk d a = true) (some (.bCond e d a (signed 16 imm)))
  | 0x21 => match d with
    | 0 => given (a = 0) (some (.jmp e imm))
    | 1 => given (a = 0) (some (.jmp e (65536 + imm)))
    | 2 => given (a = 0) (some (.call e imm))
    | 3 => given (a = 0) (some (.call e (65536 + imm)))
    | _ => none
  | 0x22 => given (d = 0 ∧ imm ≠ 0) (some (.loop e a imm))
  | 0x23 => given (a = 0) (some (.link e (0x10000000 + 4 * (d * 65536 + imm))))
  | 0x24 => match fn with
    | 0x000 => given (d = 0 ∧ a = 0 ∧ b = 0) (some (.end_ e))
    | 0x001 => given (d = 0 ∧ a = 0 ∧ b = 0) (some (.ret e))
    | 0x002 => given (d = 0 ∧ a = 0 ∧ b = 0) (some (.nop e))
    | 0x003 => given (d = 0 ∧ b = 0) (some (.jr e a))
    | 0x004 => given (d = 0 ∧ b = 0) (some (.callr e a))
    | _ => none
  | _ => none

/-- Class M, opcodes 0x28–0x2E (R180, R182, R183). -/
def decodeM (e d a b fn imm : Nat) : Nat → Option Instr
  | 0x28 => match fn with
    | 0x000 => given (b = 0) (some (.mov e d a))
    | 0x001 => given (a = 0 ∧ b = 0) (some (.movfl e d))
    | _ => none
  | 0x29 => given (a = 0 ∧ imm < 128) (some (.ldK e d imm))
  | 0x2A => given (d = 0 ∧ imm < 128) (some (.stK e a imm))
  | 0x2B => given (b = 0) (some (.ld e d a (signed 11 fn)))
  | 0x2C => some (.st e d a b (signed 11 fn))
  | 0x2D => given (fn < 64) (some (.move e d a b (fn % 4) (fn / 4 % 4) (decide (fn / 16 % 2 = 1)) (decide (fn / 32 = 1))))
  | 0x2E => given (imm < 64) (some (.waitq e d a imm))
  | _ => none

/-- Class T, opcodes 0x30–0x35 (R184, R186, R187). -/
def decodeT (e d a b fn : Nat) : Nat → Option Instr
  | 0x30 => match fn % 4 with
    | 0 => given (fn = 0) (some (.waittAbs e d a b))
    | 1 => given (a = 0 ∧ b = 0 ∧ fn < 16) (some (.waittTp e d (fn / 4)))
    | 2 => given (b = 0 ∧ fn = 2) (some (.waittRel e d a))
    | _ => none
  | 0x31 => given (a = 0 ∧ b = 0 ∧ fn ≤ 5) (some (if fn = 0 then .stamp e d else .stampRead e d fn))
  | 0x32 => given (a = 0 ∧ b = 0 ∧ fn < 4) (some (.txnBegin e d fn))
  | 0x33 => given (a = 0 ∧ b = 0 ∧ fn < 4) (some (.txnCommit e d fn))
  | 0x34 => given (fn < 8 ∧ (fn < 4 ∨ a = 0 ∧ b = 0)) (some (.txnCommitat e d a b (fn % 4) (decide (4 ≤ fn))))
  | 0x35 => given (a = 0 ∧ b = 0 ∧ fn < 8) (some (if fn < 4 then .txnAbort e d fn else .txnWait e d (fn - 4)))
  | _ => none

/-- Class S, opcodes 0x38–0x3C (R188); only a raise has the wait bit. -/
def decodeS (e d a b fn : Nat) : Nat → Option Instr
  | 0x38 => given (a = 0 ∧ b = 0 ∧ fn < 128 ∧ fn % 32 ≤ 18 ∧ (fn < 64 ∨ 96 ≤ fn))
      (some (.vote e d (fn % 32) (decide (fn / 32 % 2 = 1)) (decide (fn / 64 = 1))))
  | 0x39 => match fn with
    | 0x001 => given (b = 0) (some (.claim e d a))
    | 0x002 => given (b = 0) (some (.release e d a))
    | _ => none
  | 0x3A => given (0x40 ≤ fn % 256) (some (.event e d a b (fn % 256) (fn / 256)))
  | 0x3B => given (d = 0 ∧ a = 0 ∧ b = 0 ∧ fn < 32) (some (.signal e fn))
  | 0x3C => given (d = 0 ∧ a = 0 ∧ b = 0 ∧ fn = 0) (some (.halt e))
  | _ => none

/-- What a word spells on engine `e`: its major opcode selects the class (R157). -/
def lyzDecode (e : Nat) (w : Word) : Option Instr :=
  let op := bits w 26 6
  let d := bits w 21 5
  let a := bits w 16 5
  let b := bits w 11 5
  let fn := bits w 0 11
  let imm := bits w 0 16
  match op / 8 with
  | 0 | 1 => decodeA e d a b fn imm op
  | 2 => decodeD e d a b fn op
  | 3 => decodeN e d a b fn op
  | 4 => decodeF e d a b fn imm op
  | 5 => decodeM e d a b fn imm op
  | 6 => decodeT e d a b fn op
  | _ => decodeS e d a b fn op

/-! ### Encoding -/

def flagBit (b : Bool) : Nat := if b then 1 else 0

/-- The engine and the word of a class A command. -/
def encodeA : Instr → Option (Nat × Word)
  | .add e d a b => some (e, rForm 0x00 d a b 0x000)
  | .sub e d a b => some (e, rForm 0x00 d a b 0x001)
  | .addS e d a b => some (e, rForm 0x00 d a b 0x002)
  | .subS e d a b => some (e, rForm 0x00 d a b 0x003)
  | .and e d a b => some (e, rForm 0x00 d a b 0x004)
  | .or e d a b => some (e, rForm 0x00 d a b 0x005)
  | .xor e d a b => some (e, rForm 0x00 d a b 0x006)
  | .slt e d a b => some (e, rForm 0x00 d a b 0x007)
  | .sltu e d a b => some (e, rForm 0x00 d a b 0x008)
  | .min e d a b => some (e, rForm 0x00 d a b 0x009)
  | .max e d a b => some (e, rForm 0x00 d a b 0x00A)
  | .abs e d a => some (e, rForm 0x00 d a 0 0x00B)
  | .sll e d a b => some (e, rForm 0x00 d a b 0x00C)
  | .srl e d a b => some (e, rForm 0x00 d a b 0x00D)
  | .sra e d a b => some (e, rForm 0x00 d a b 0x00E)
  | .addi e d a imm => some (e, iForm 0x01 d a (unsigned 16 imm))
  | .andi e d a imm => some (e, iForm 0x02 d a imm)
  | .ori e d a imm => some (e, iForm 0x03 d a imm)
  | .lui e d imm => some (e, iForm 0x04 d 0 imm)
  | .slli e d a n => some (e, rForm 0x05 d a 0 n)
  | .srli e d a n => some (e, rForm 0x05 d a 0 (32 + n))
  | .srai e d a n => some (e, rForm 0x05 d a 0 (64 + n))
  | .srar e d a n => some (e, rForm 0x05 d a 0 (96 + n))
  | .mul e d a b => some (e, rForm 0x06 d a b 0x000)
  | .mulh e d a b => some (e, rForm 0x06 d a b 0x001)
  | .mulhu e d a b => some (e, rForm 0x06 d a b 0x002)
  | .mulQ e d a b => some (e, rForm 0x06 d a b 0x003)
  | .mac e d a b => some (e, rForm 0x07 d a b 0x000)
  | .macQ e d a b => some (e, rForm 0x07 d a b 0x001)
  | .msubQ e d a b => some (e, rForm 0x07 d a b 0x002)
  | .sat e d a n => if n = 0 then none else some (e, rForm 0x08 d a 0 n)
  | .norm e d a => some (e, rForm 0x09 d a 0 0x000)
  | .clz e d a => some (e, rForm 0x09 d a 0 0x001)
  | .mag e d a b => some (e, rForm 0x0A d a b 0x000)
  | .atan2 e d a b => some (e, rForm 0x0A d a b 0x001)
  | _ => none

/-- Of a class D or N command. -/
def encodeDN : Instr → Option (Nat × Word)
  | .dllNelp e d early late => some (e, rForm 0x10 d 0 0 (early + 8 * late))
  | .dllDot e d early late prompt => some (e, rForm 0x11 d 0 0 (early + 8 * late + 64 * prompt))
  | .pllCostas e d p pe mode => some (e, rForm 0x12 d 0 0 (p + 8 * flagBit pe + 16 * flagBit mode))
  | .fllCross e d a b p pe => some (e, rForm 0x13 d a b (p + 8 * flagBit pe))
  | .fllAtan e d a b p pe data => some (e, rForm 0x14 d a b (p + 8 * flagBit pe + 16 * flagBit data))
  | .lfUpd e d a n third => some (e, rForm 0x15 d a 0 (n + 128 * flagBit third))
  | .lfBlend e d a b n => some (e, rForm 0x16 d a b n)
  | .dPow e d t pe mode shift => if mode = 3 then none else some (e, rForm 0x17 d 0 0 (t + 8 * flagBit pe + 16 * mode + 64 * shift))
  | .ncoCarr e d a => some (e, rForm 0x18 d a 0 0x000)
  | .ncoCarrAdd e d a => some (e, rForm 0x18 d a 0 0x001)
  | .ncoCode e d a b => some (e, rForm 0x19 d a b 0x000)
  | .ncoCodeAdd e d a => some (e, rForm 0x19 d a 0 0x001)
  | .ncoCphs e a => some (e, rForm 0x1A 0 a 0 0x000)
  | .ncoKphs e a n => if 8 < n then none else some (e, rForm 0x1B 0 a 0 n)
  | .tapOff e d a t => some (e, rForm 0x1C d a 0 t)
  | .tapAdd e d a t => some (e, rForm 0x1C d a 0 (8 + t))
  | .tapEn e d a => some (e, rForm 0x1C d a 0 0x010)
  | .codeSympos e d a => some (e, rForm 0x1D d a 0 0x000)
  | .codeSymlen e d a => some (e, rForm 0x1D d a 0 0x001)
  | .codeSel e d a => some (e, rForm 0x1D d a 0 0x002)
  | .trkStack e d a => some (e, rForm 0x1E d a 0 0x000)
  | .trkDuty e d a b => some (e, rForm 0x1E d a b 0x001)
  | .trkState e d a => some (e, rForm 0x1E d a 0 0x002)
  | .wipeLd e d a b => some (e, rForm 0x1F d a b 0x000)
  | _ => none

/-- Of a class F or M command. -/
def encodeFM : Instr → Option (Nat × Word)
  | .bCond e cond a off => if branchOk cond a then some (e, iForm 0x20 cond a (unsigned 16 off)) else none
  | .jmp e tgt => some (e, iForm 0x21 (tgt / 65536) 0 (tgt % 65536))
  | .call e tgt => some (e, iForm 0x21 (2 + tgt / 65536) 0 (tgt % 65536))
  | .loop e a len => if len = 0 then none else some (e, iForm 0x22 0 a len)
  | .link e addr =>
    let k := (addr - 0x10000000) / 4
    if 0x10000000 ≤ addr ∧ addr < 0x10800000 ∧ addr % 4 = 0 then some (e, iForm 0x23 (k / 65536) 0 (k % 65536)) else none
  | .end_ e => some (e, rForm 0x24 0 0 0 0x000)
  | .ret e => some (e, rForm 0x24 0 0 0 0x001)
  | .nop e => some (e, rForm 0x24 0 0 0 0x002)
  | .jr e a => some (e, rForm 0x24 0 a 0 0x003)
  | .callr e a => some (e, rForm 0x24 0 a 0 0x004)
  | .mov e d a => some (e, rForm 0x28 d a 0 0x000)
  | .movfl e d => some (e, rForm 0x28 d 0 0 0x001)
  | .ldK e d k => some (e, iForm 0x29 d 0 k)
  | .stK e a k => some (e, iForm 0x2A 0 a k)
  | .ld e d a off => some (e, rForm 0x2B d a 0 (unsigned 11 off))
  | .st e d a b off => some (e, rForm 0x2C d a b (unsigned 11 off))
  | .move e d a b size swap srcFix dstFix =>
    some (e, rForm 0x2D d a b (size + 4 * swap + 16 * flagBit srcFix + 32 * flagBit dstFix))
  | .waitq e d a src => some (e, iForm 0x2E d a src)
  | _ => none

/-- Of a class T or S command. -/
def encodeTS : Instr → Option (Nat × Word)
  | .waittAbs e d a b => some (e, rForm 0x30 d a b 0x000)
  | .waittTp e d n => some (e, rForm 0x30 d 0 0 (1 + 4 * n))
  | .waittRel e d a => some (e, rForm 0x30 d a 0 0x002)
  | .stamp e d => some (e, rForm 0x31 d 0 0 0x000)
  | .stampRead e d fn => if 1 ≤ fn ∧ fn ≤ 5 then some (e, rForm 0x31 d 0 0 fn) else none
  | .txnBegin e d n => some (e, rForm 0x32 d 0 0 n)
  | .txnCommit e d n => some (e, rForm 0x33 d 0 0 n)
  | .txnCommitat e d a b n tp0 => if tp0 ∧ (a ≠ 0 ∨ b ≠ 0) then none else some (e, rForm 0x34 d a b (n + 4 * flagBit tp0))
  | .txnAbort e d n => some (e, rForm 0x35 d 0 0 n)
  | .txnWait e d n => some (e, rForm 0x35 d 0 0 (4 + n))
  | .vote e d dom up wait =>
    if 18 < dom ∨ (wait ∧ ¬ up) then none else some (e, rForm 0x38 d 0 0 (dom + 32 * flagBit up + 64 * flagBit wait))
  | .claim e d a => some (e, rForm 0x39 d a 0 0x001)
  | .release e d a => some (e, rForm 0x39 d a 0 0x002)
  | .event e d a b type ring => if type < 0x40 then none else some (e, rForm 0x3A d a b (type + 256 * ring))
  | .signal e n => some (e, rForm 0x3B 0 0 0 n)
  | .halt e => some (e, rForm 0x3C 0 0 0 0x000)
  | _ => none

/-- The engine that a command runs on and its word; none for a command that is no instruction, or has no encoding. -/
def lyzEncode (i : Instr) : Option (Nat × Word) :=
  (encodeA i).or ((encodeDN i).or ((encodeFM i).or (encodeTS i)))

/-! ### Who may execute a word (R158) -/

/-- May a DMA program channel execute the word: class M, a loop form, `waitt` or `signal`? -/
def dmaMay (w : Word) : Bool :=
  let op := bits w 26 6
  decide (0x28 ≤ op ∧ op ≤ 0x2E ∨ op = 0x22 ∨ op = 0x23 ∨ (op = 0x24 ∧ bits w 0 11 = 0) ∨ op = 0x30 ∨ op = 0x3B)

/-- May a track sequencer: classes A, D, N and F, the local forms of class M, `event`? -/
def trackMay (w : Word) : Bool := decide (bits w 26 6 ≤ 0x2A ∨ bits w 26 6 = 0x3A)

/-- May a control context: every class but D and N? -/
def ctxMay (w : Word) : Bool := decide (bits w 26 6 < 0x10 ∨ 0x20 ≤ bits w 26 6)

end Sys2Proof.Machine
end

