-- ==== Sys2Proof/Machine/DmaCtl.lean ====
section
/-! DEFINITION. DMA channels: their commands, the checks of a transfer, pacing and bus errors (R360–R375). -/

namespace Sys2Proof.Machine

/-! ### Checks of a transfer (R362, R363) -/

/-- A transfer as its registers and CFG describe it: element and swap codes, ends, elements left. -/
structure Xfer where
  size : Nat
  swap : Nat
  srcFix : Bool
  dstFix : Bool
  srcPcie : Bool
  dstPcie : Bool
  src : Nat
  dst : Nat
  count : Nat
  /-- For a program channel. -/
  pch : Bool
  deriving DecidableEq, Repr

/-- Bytes of an element. -/
def Xfer.elem (x : Xfer) : Nat := 2 ^ (x.size % 4)

/-- The unit on which the swap acts (R365). -/
def Xfer.unit (x : Xfer) : Nat := if x.swap = 1 then 2 else if 2 ≤ x.swap then 4 else 1

/-- ALIGN_ERR (R362). -/
def Xfer.alignErr (x : Xfer) : Bool :=
  decide (x.count = 0) || decide (x.src % x.elem ≠ 0 ∨ x.dst % x.elem ≠ 0) ||
  decide (x.src % x.unit ≠ 0 ∨ x.dst % x.unit ≠ 0 ∨ x.count * x.elem % x.unit ≠ 0) ||
  (decide (x.size ≠ 2) && ((!x.srcPcie && decide (0x40000000 ≤ x.src)) || (!x.dstPcie && decide (0x40000000 ≤ x.dst))))

/-- Does one valid region hold the bytes from `a` on, with the right of `write` and of the channel's class (R363)? -/
def State.inRegion (s : State) (pch write : Bool) (a len : Nat) : Bool :=
  (List.range 8).any fun r =>
    let perm := s.rd (F.DMA_RGN_ATTR_PERM r)
    s.on (F.DMA_RGN_ATTR_VALID r) && perm.testBit (if write then 1 else 0) && perm.testBit (if pch then 3 else 2) &&
    decide (s.rd (F.DMA_RGN_BASE_BASE r) * 4096 ≤ a ∧ a + len ≤ (s.rd (F.DMA_RGN_LIMIT_LIMIT r) + 1) * 4096)

/-- Is host memory in reach of the engine (R363)? -/
def State.hostReach (s : State) : Bool := s.on F.DMA_CTRL_HOST_EN && s.inRun 17 && decide (s.host.sel = 0)

/-- May the engine touch this end? -/
def State.endOk (s : State) (pch write pcie fix : Bool) (a len elem : Nat) : Bool :=
  if pcie then s.hostReach else s.inRegion pch write a (if fix then elem else len)

/-- REGION_ERR (R363). -/
def State.regionErr (s : State) (x : Xfer) : Bool :=
  let len := x.count * x.elem
  !(s.endOk x.pch false x.srcPcie x.srcFix x.src len x.elem && s.endOk x.pch true x.dstPcie x.dstFix x.dst len x.elem)

/-- The code of R362 and R363; 0 where the transfer passes. -/
def State.xferErr (s : State) (x : Xfer) : Nat := if x.alignErr then 1 else if s.regionErr x then 2 else 0

/-! ### Register channels (R361, R369) -/

/-- What CFG and the CUR registers of channel `c` describe. -/
def State.bchXfer (s : State) (c : Nat) : Xfer :=
  { size := s.rd (F.DMA_BCH_CFG_SIZE c), swap := s.rd (F.DMA_BCH_CFG_SWAP c)
    srcFix := s.on (F.DMA_BCH_CFG_SRC_FIX c), dstFix := s.on (F.DMA_BCH_CFG_DST_FIX c)
    srcPcie := s.on (F.DMA_BCH_CFG_SRC_PCIE c), dstPcie := s.on (F.DMA_BCH_CFG_DST_PCIE c)
    src := (s.reg (Reg.DMA_BCH_CUR_SRC_LO c)).toNat + 2 ^ 32 * (s.reg (Reg.DMA_BCH_CUR_SRC_HI c)).toNat
    dst := (s.reg (Reg.DMA_BCH_CUR_DST_LO c)).toNat + 2 ^ 32 * (s.reg (Reg.DMA_BCH_CUR_DST_HI c)).toNat
    count := s.rd (F.DMA_BCH_CUR_COUNT_COUNT c), pch := false }

def State.setBch (s : State) (c : Nat) (b : Bch) : State := { s with dma := { s.dma with bch := put {} s.dma.bch c b } }

/-- A register channel's STATE changes. -/
def State.bchGo (s : State) (c st : Nat) : State := (s.wr (F.DMA_BCH_STAT_STATE c) st).seqVotes

/-- A register channel enters ERROR with its code. -/
def State.bchError (s : State) (c code : Nat) : State := ((s.wr (F.DMA_BCH_STAT_ERR c) code).bchGo c 5).dmaIrq true c

/-- START of a register channel on behalf of `owner` (R361). -/
def State.bchStart (s : State) (owner c : Nat) : State :=
  let st := s.rd (F.DMA_BCH_STAT_STATE c)
  if ¬ (st = 0 ∨ st = 5) ∨ s.on F.DMA_STAT_HALT_BUSERR then s.wr (F.DMA_BCH_STAT_START_IGN c) 1
  else
    let s := (s.setReg (Reg.DMA_BCH_CUR_SRC_LO c) (s.reg (Reg.DMA_BCH_SRC_LO c))).setReg (Reg.DMA_BCH_CUR_SRC_HI c)
      (s.reg (Reg.DMA_BCH_SRC_HI c))
    let s := (s.setReg (Reg.DMA_BCH_CUR_DST_LO c) (s.reg (Reg.DMA_BCH_DST_LO c))).setReg (Reg.DMA_BCH_CUR_DST_HI c)
      (s.reg (Reg.DMA_BCH_DST_HI c))
    let s := (s.setReg (Reg.DMA_BCH_CUR_COUNT c) (s.reg (Reg.DMA_BCH_COUNT c))).wr (F.DMA_BCH_STAT_OWNER c) owner
    let s := (s.wr (F.DMA_BCH_STAT_ERR c) 0).setBch c {}
    let code := s.xferErr (s.bchXfer c)
    if code ≠ 0 then s.bchError c code else s.bchGo c 1

/-- A command written to a channel: only from its owner (R48, R360). -/
def State.channelCommand (s : State) (owner a res : Nat) (k : State → State) : State :=
  s.command owner a fun s => if s.mayConfigure owner res then k s else s.refuse owner 0x0C

/-- Only commands to channels that exist act. -/
def State.bchCommand (s : State) (owner c : Nat) (k : State → State) : State :=
  s.whenB (decide (c < 16)) fun s => s.channelCommand owner (Reg.DMA_BCH_CMD c) (0x3000 + c) k

def execBchStart (owner c : Nat) (s : State) : Out := .next (s.bchCommand owner c (·.bchStart owner c))

/-- PAUSE acts in RUN only (R369). -/
def State.bchPause (s : State) (c : Nat) : State := s.whenB (decide (s.rd (F.DMA_BCH_STAT_STATE c) = 1)) (·.bchGo c 2)

def execBchPause (owner c : Nat) (s : State) : Out := .next (s.bchCommand owner c (·.bchPause c))

/-- RESUME acts in PAUSED and HALTED, once HALT_BUSERR is clear (R369, R371). -/
def State.bchResume (s : State) (c : Nat) : State :=
  let st := s.rd (F.DMA_BCH_STAT_STATE c)
  s.whenB (decide (st = 3 ∨ st = 4) && !s.on F.DMA_STAT_HALT_BUSERR) fun s => (s.wr (F.DMA_BCH_STAT_ERR c) 0).bchGo c 1

def execBchResume (owner c : Nat) (s : State) : Out := .next (s.bchCommand owner c (·.bchResume c))

def execBchStop (owner c : Nat) (s : State) : Out := .next (s.bchCommand owner c fun s => (s.stopBch c).seqVotes)

/-! ### Program channels (R372–R374) -/

/-- A channel parked in IDLE_END with DB_PEND reads its END word again (R373), unless HALT_BUSERR keeps every read back (R371). -/
def State.pchDoorbell (s : State) (p : Nat) : State :=
  if ¬ (s.rd (F.DMA_PCH_STAT_STATE p) = 3 ∧ s.on (F.DMA_PCH_STAT_DB_PEND p)) ∨ s.on F.DMA_STAT_HALT_BUSERR then s
  else
    let s := s.wr (F.DMA_PCH_STAT_DB_PEND p) 0
    let s := s.setEng (40 + p) { s.eng (40 + p) with ran := 0, since := s.now }
    match lyzDecode (40 + p) (s.ld32 (s.pcByte (40 + p))) with
    | some (.link _ addr) => (s.branchTo (40 + p) (addr / 4)).pchGo p 1
    | some (.end_ _) => s
    | _ => s.pchGo p 1

/-- START of a program channel (R372). -/
def State.pchStart (s : State) (p : Nat) : State :=
  let st := s.rd (F.DMA_PCH_STAT_STATE p)
  if ¬ (st = 0 ∨ st = 3 ∨ st = 7 ∨ st = 8) then s.wr (F.DMA_PCH_STAT_START_IGN p) 1
  else
    let x := s.eng (40 + p)
    let s := s.setEng (40 + p) { x with fl := 0, loops := [], calls := [], wait := .none, ran := 0, moved := 0, since := s.now }
    let s := (s.wr (F.DMA_PCH_STAT_DB_PEND p) 0).setPc (40 + p) (s.rd (F.DMA_PCH_PC_PC p))
    ((s.wr (F.DMA_PCH_STAT_ERR p) 0).wr (F.DMA_PCH_STAT_FAULT p) 0).pchGo p 1

def State.pchCommand (s : State) (owner p : Nat) (k : State → State) : State :=
  s.whenB (decide (p < 8)) fun s => s.channelCommand owner (Reg.DMA_PCH_CMD p) (0x4000 + p) k

def execPchStart (owner p : Nat) (s : State) : Out := .next (s.pchCommand owner p (·.pchStart p))

/-- PAUSE: at the next instruction boundary; a wait is abandoned, a move ends first (R374). -/
def State.pchPause (s : State) (p : Nat) : State :=
  let st := s.rd (F.DMA_PCH_STAT_STATE p)
  if st = 1 ∧ (s.eng (40 + p)).moved ≠ 0 then s.pchGo p 4
  else if st = 1 ∨ st = 2 then (s.setEng (40 + p) { s.eng (40 + p) with wait := .none }).pchGo p 5
  else s

def execPchPause (owner p : Nat) (s : State) : Out := .next (s.pchCommand owner p (·.pchPause p))

/-- RESUME from PAUSED or HALTED (R374). -/
def State.pchResume (s : State) (p : Nat) : State :=
  let st := s.rd (F.DMA_PCH_STAT_STATE p)
  s.whenB (decide (st = 5 ∨ st = 6) && !s.on F.DMA_STAT_HALT_BUSERR) fun s =>
    (s.setEng (40 + p) { s.eng (40 + p) with ran := 0, since := s.now }).pchGo p 1

def execPchResume (owner p : Nat) (s : State) : Out := .next (s.pchCommand owner p (·.pchResume p))

def execPchReset (owner p : Nat) (s : State) : Out := .next (s.pchCommand owner p fun s => (s.resetPch p).seqVotes)

/-- A write to DMA_DOORBELL: DB_PEND of each channel the writer owns (R373). -/
def State.doorbell (s : State) (owner mask : Nat) : State :=
  (List.range 8).foldl (fun s p =>
    if mask.testBit p && s.mayConfigure owner (0x4000 + p) then (s.wr (F.DMA_PCH_STAT_DB_PEND p) 1).pchDoorbell p else s) s

/-- A write to DMA_STAT: where it clears HALT_BUSERR, reads issue again (R371, R373). -/
def State.clearHalt (s : State) : State :=
  if s.on F.DMA_STAT_HALT_BUSERR then s else (List.range 8).foldl State.pchDoorbell s

def execDmaDoorbell (owner mask : Nat) (s : State) : Out := .next (s.command owner Reg.DMA_DOORBELL (·.doorbell owner mask))

/-- A write to DMA_PACEp_ADD: the SEL 0 counter moves by a signed amount, within its range (R366). -/
def State.paceAdd (s : State) (p v : Nat) : State :=
  let l := (held 0 16777215 (((look 0 s.dma.level p : Nat) : Int) + signed 24 v)).toNat
  ({ s with dma := { s.dma with level := put 0 s.dma.level p l } } : State).pace

def execPaceAdd (owner p v : Nat) (s : State) : Out :=
  .next (if p < 16 then s.command owner (Reg.DMA_PACE_ADD p) (·.paceAdd p v) else s)

/-! ### Bus errors (R371) -/

/-- A channel in RUN, WAIT or PAUSING halts; E05 shows where PAUSING ends so (R423). -/
def State.e05 (s : State) (c : Nat) : State :=
  let x := s.bchXfer c
  if (x.swap = 1 ∨ x.swap = 2) ∧ x.count < s.rd (F.DMA_BCH_COUNT_COUNT c) ∧ ¬ x.dstFix then
    let d := x.dst + 4
    (s.setReg (Reg.DMA_BCH_CUR_DST_LO c) (BitVec.ofNat 32 d)).setReg (Reg.DMA_BCH_CUR_DST_HI c) (BitVec.ofNat 32 (d / 2 ^ 32))
  else s

/-- Every active channel enters HALTED. -/
def State.haltChannels (s : State) : State :=
  let s := (List.range 16).foldl (fun s c =>
    let st := s.rd (F.DMA_BCH_STAT_STATE c)
    if st = 1 ∨ st = 2 then
      let s := (if st = 2 then s.e05 c else s).setBch c {}
      ((s.wr (F.DMA_BCH_STAT_STATE c) 4).wr (F.DMA_BCH_STAT_ERR c) 3).dmaIrq true c
    else s) s
  (List.range 8).foldl (fun s p =>
    let st := s.rd (F.DMA_PCH_STAT_STATE p)
    if st = 1 ∨ st = 2 ∨ st = 4 then
      let s := s.setEng (40 + p) { s.eng (40 + p) with wait := .none, moved := 0 }
      ((s.wr (F.DMA_PCH_STAT_STATE p) 6).wr (F.DMA_PCH_STAT_ERR p) 3).dmaIrq true (16 + p)
    else s) s

/-- A bus error: the access is captured, every channel halts and one crumb is written, whose type and words the spec does not state
(log 35). `ch` is given for writes and fetches. -/
def State.busError (s : State) (addr : Nat) (write pcie fetch : Bool) (ch : Option Nat) : State :=
  let s := s.wr F.DMA_STAT_HALT_BUSERR 1
  let s := (s.setReg Reg.DMA_ERR_ADDR_LO (BitVec.ofNat 32 addr)).setReg Reg.DMA_ERR_ADDR_HI
    (if pcie then BitVec.ofNat 32 (addr / 2 ^ 32) else 0)
  let b := fun (x : Bool) => if x then 1 else 0
  let s := ((s.wr F.DMA_ERR_INFO_WRITE (b write)).wr F.DMA_ERR_INFO_PCIE (b pcie)).wr F.DMA_ERR_INFO_FETCH (b fetch)
  let s := ((s.wr F.DMA_ERR_INFO_CHAN_VALID (b ch.isSome)).wr F.DMA_ERR_INFO_CHAN (ch.getD 0)).sat F.DMA_ERR_INFO_COUNT
  let s := s.haltChannels
  let (type, s) := s.draw
  let (words, s) := (List.range 8).foldl (fun (acc : List Word × State) _ =>
    let (w, s) := acc.2.draw
    (acc.1 ++ [BitVec.ofNat 32 w], s)) ([], s)
  (s.addCrumb type 0xFF 0 words).seqVotes

/-- DMA_BUS_ERROR: any access of the engine failed on its bus. A fetch that failed is a BUS fault of its program channel too (R374). -/
def execDmaBusError (addr ch : Nat) (write pcie fetch : Bool) (s : State) : Out :=
  .next (s.whenB (s.inRun 18) fun s =>
    if fetch then
      s.whenB (decide (16 ≤ ch ∧ ch < 24) && s.issues (24 + ch)) (·.oneCycle fun s =>
        (s.engFault (24 + ch) 0x09).busError addr false pcie true (some ch))
    else s.busError addr write pcie false (if write then some ch else none))

end Sys2Proof.Machine
end

