-- ==== Sys2Proof/Machine/Issue.lean ====
section
/-! DEFINITION. How an engine issues an instruction: fetch, legality, effect, advance (R156–R158, R177–R179). -/

namespace Sys2Proof.Machine

/-- The engine's run time, in FCLK, grows. -/
def State.spend (s : State) (e n : Nat) : State := s.setEng e { s.eng e with ran := (s.eng e).ran + n }

/-- A fetch outside the program store, or a channel's outside system SRAM, which is a bus error as well (R374). -/
def State.fetchFault (s : State) (e : Nat) : State :=
  if kindOf e = .dma then s.oneCycle fun s => (s.engFault e 0x09).busError (s.pcByte e) false false true (some (e - 24))
  else s.engFault e 0x04

/-- A track sequencer's fetch goes through its pod's program cache: a miss stalls it for 24 FCLK and brings the line in, in place of one that
the spec does not name (R160; log 12). -/
def State.cacheFetch (s : State) (e : Nat) : State :=
  let p := e / 4
  let line := (s.eng e).pc / 16
  if (s.pod p).cache.contains line then s
  else
    let (v, s) := (s.spend e 24).draw
    let old := (s.pod p).cache
    let kept := if old.length < 512 then old.eraseIdx (v % 512) else old.eraseIdx (v % old.length)
    s.setPod p { s.pod p with cache := line :: kept }

/-- The word at the engine's position is fetched. -/
def State.fetch (s : State) (e : Nat) : State := if kindOf e = .track then s.cacheFetch e else s

/-- What one instruction does: a next state, and the code of the fault it raises there, 0 for none. -/
abbrev Effect := State → State × Nat

/-- What a fetched word does: ILLEGAL_OP where it is not legal on the engine (R158), else its effect, a fault or the next word. -/
def State.execute (s : State) (e : Nat) (legal : Kind → Bool) (cyc : Nat) (seq : Bool) (k : Effect) : State :=
  if ¬ legal (kindOf e) then s.engFault e 0x01
  else
    let (t, code) := k (s.spend e cyc)
    if code ≠ 0 then t.engFault e code
    else if seq then t.advance e else t

/-- An instruction of `cyc` FCLK on engine `e`: nothing where the engine does not issue, PC_RANGE outside the program store, ECC where the
word has an uncorrectable error (R162, R197), else what the word does; `seq` says that the next word follows. A channel's failed fetch is a
BUS fault (R374). -/
def State.instr (s : State) (e : Nat) (legal : Kind → Bool) (cyc : Nat) (seq : Bool) (k : Effect) : State :=
  if ¬ s.issues e then s
  else if ¬ State.fetchOk e (s.eng e).pc then s.fetchFault e
  else if (s.fetch e).badIn (s.pcByte e) 4 then ((s.fetch e).eccAccess (ownerOfEngine e) .sram (s.pcByte e)).engFault e 0x05
  else (s.fetch e).execute e legal cyc seq k

/-- An instruction that reads k words first: an uncorrectable error in one of them faults ECC, and R141 applies to a track's (R162, R173). -/
def State.reading (s : State) (e : Nat) (ws : List Nat) (k : Effect) : State × Nat :=
  match ws.find? fun w => decide (kindOf e ≠ .ctx) && s.badIn (s.kBase e + 4 * w) 4 with
  | some w => (s.eccAccess (ownerOfEngine e) (if kindOf e = .track then .context else .sram) (s.kBase e + 4 * w), 0x05)
  | none => k s

/-! ### Which engine may execute what (R158) -/

def onTrack (k : Kind) : Bool := decide (k = .track)
def onCtx (k : Kind) : Bool := decide (k = .ctx)
def onAll (_ : Kind) : Bool := true
def notDma (k : Kind) : Bool := decide (k ≠ .dma)
def notTrack (k : Kind) : Bool := decide (k ≠ .track)

/-! ### Shapes of instructions -/

/-- d takes a value, FL the bits it set. -/
def putResult (e d : Nat) (v : Flagged) (s : State) : State := (s.setG e d (BitVec.ofInt 32 v.1)).orFl e v.2

/-- An instruction whose only effect is a value for d and bits of FL. -/
def State.valueOp (s : State) (e : Nat) (legal : Kind → Bool) (cyc d : Nat) (f : State → Flagged) : State :=
  s.instr e legal cyc true fun s => (putResult e d (f s) s, 0)

/-- One whose value has a free part. -/
def State.freeOp (s : State) (e : Nat) (legal : Kind → Bool) (cyc d : Nat) (f : Nat → State → Flagged) : State :=
  s.instr e legal cyc true fun s =>
    let (v, t) := s.draw
    (putResult e d (f v s) t, 0)

end Sys2Proof.Machine
end

