-- ==== Sys2Proof/Machine/Arith.lean ====
section
/-! DEFINITION. Class A: arithmetic (R163, R164). -/

namespace Sys2Proof.Machine

/-- A class A instruction on two registers, as signed numbers. -/
def State.arith (s : State) (e d a b : Nat) (f : Int → Int → Flagged) : State :=
  s.valueOp e notDma 1 d fun s => f (s.gi e a) (s.gi e b)

/-- One on two registers, as words. -/
def State.logic (s : State) (e d a b : Nat) (f : Word → Word → Word) : State :=
  s.valueOp e notDma 1 d fun s => plain (f (s.g e a) (s.g e b)).toInt

/-- One on the destination register and two others. -/
def State.accum (s : State) (e d a b : Nat) (f : Int → Int → Int → Flagged) : State :=
  s.valueOp e notDma 1 d fun s => f (s.gi e d) (s.gi e a) (s.gi e b)

def execAdd (e d a b : Nat) (s : State) : Out := .next (s.arith e d a b fun x y => plain (x + y))
def execSub (e d a b : Nat) (s : State) : Out := .next (s.arith e d a b fun x y => plain (x - y))
def execAddS (e d a b : Nat) (s : State) : Out := .next (s.arith e d a b fun x y => sat32 (x + y))
def execSubS (e d a b : Nat) (s : State) : Out := .next (s.arith e d a b fun x y => sat32 (x - y))
def execAnd (e d a b : Nat) (s : State) : Out := .next (s.logic e d a b (· &&& ·))
def execOr (e d a b : Nat) (s : State) : Out := .next (s.logic e d a b (· ||| ·))
def execXor (e d a b : Nat) (s : State) : Out := .next (s.logic e d a b (· ^^^ ·))
def execSlt (e d a b : Nat) (s : State) : Out := .next (s.arith e d a b fun x y => plain (if x < y then 1 else 0))
def execSltu (e d a b : Nat) (s : State) : Out :=
  .next (s.logic e d a b fun x y => if x.toNat < y.toNat then 1 else 0)
def execMin (e d a b : Nat) (s : State) : Out := .next (s.arith e d a b fun x y => plain (min x y))
def execMax (e d a b : Nat) (s : State) : Out := .next (s.arith e d a b fun x y => plain (max x y))
def execAbs (e d a : Nat) (s : State) : Out := .next (s.arith e d a 0 fun x _ => sat32 x.natAbs)

/-- Shifts take b[4:0]. -/
def shamt (b : Word) : Nat := b.toNat % 32

def execSll (e d a b : Nat) (s : State) : Out := .next (s.logic e d a b fun x y => x <<< shamt y)
def execSrl (e d a b : Nat) (s : State) : Out := .next (s.logic e d a b fun x y => x >>> shamt y)
def execSra (e d a b : Nat) (s : State) : Out := .next (s.logic e d a b fun x y => x.sshiftRight (shamt y))
def execAddi (e d a : Nat) (imm : Int) (s : State) : Out := .next (s.arith e d a 0 fun x _ => plain (x + imm))
def execAndi (e d a imm : Nat) (s : State) : Out := .next (s.logic e d a 0 fun x _ => x &&& BitVec.ofNat 32 (imm % 65536))
def execOri (e d a imm : Nat) (s : State) : Out := .next (s.logic e d a 0 fun x _ => x ||| BitVec.ofNat 32 (imm % 65536))
def execLui (e d imm : Nat) (s : State) : Out := .next (s.logic e d 0 0 fun _ _ => BitVec.ofNat 32 (imm * 65536))
def execSlli (e d a n : Nat) (s : State) : Out := .next (s.logic e d a 0 fun x _ => x <<< (n % 32))
def execSrli (e d a n : Nat) (s : State) : Out := .next (s.logic e d a 0 fun x _ => x >>> (n % 32))
def execSrai (e d a n : Nat) (s : State) : Out := .next (s.logic e d a 0 fun x _ => x.sshiftRight (n % 32))
def execSrar (e d a n : Nat) (s : State) : Out := .next (s.arith e d a 0 fun x _ => plain (rndShift x (n % 32)))
def execMul (e d a b : Nat) (s : State) : Out := .next (s.arith e d a b fun x y => plain (x * y))
def execMulh (e d a b : Nat) (s : State) : Out := .next (s.arith e d a b fun x y => plain (x * y / 2 ^ 32))
def execMulhu (e d a b : Nat) (s : State) : Out :=
  .next (s.logic e d a b fun x y => BitVec.ofNat 32 (x.toNat * y.toNat / 2 ^ 32))
def execMulQ (e d a b : Nat) (s : State) : Out := .next (s.arith e d a b mulr)
def execMac (e d a b : Nat) (s : State) : Out := .next (s.accum e d a b fun z x y => plain (z + x * y))
def execMacQ (e d a b : Nat) (s : State) : Out := .next (s.accum e d a b fun z x y => sat32 (z + rndShift (x * y) 31))
def execMsubQ (e d a b : Nat) (s : State) : Out := .next (s.accum e d a b fun z x y => sat32 (z - rndShift (x * y) 31))

/-- sat with n = 0 raises ILLEGAL_OP (R164). -/
def execSat (e d a n : Nat) (s : State) : Out :=
  .next (s.instr e notDma 1 true fun s =>
    if n % 32 = 0 then (s, 0x01) else (putResult e d (clampSat (-(2 ^ (n % 32))) (2 ^ (n % 32) - 1) (s.gi e a)) s, 0))

/-- Leading zeros of a number below 2^n. -/
def leadingZeros : Nat → Nat → Nat
  | 0, _ => 0
  | n + 1, x => if x < 2 ^ n then leadingZeros n x + 1 else 0

/-- Redundant sign bits: the leading zeros of a number or of its complement, without the sign bit. -/
def execNorm (e d a : Nat) (s : State) : Out :=
  .next (s.logic e d a 0 fun x _ => BitVec.ofNat 32 (leadingZeros 31 (if x.msb then (~~~x).toNat else x.toNat)))

def execClz (e d a : Nat) (s : State) : Out := .next (s.logic e d a 0 fun x _ => BitVec.ofNat 32 (leadingZeros 32 x.toNat))

def execMag (e d a b : Nat) (s : State) : Out :=
  .next (s.freeOp e notDma 8 d fun f s => magOf f (s.gi e a) (s.gi e b))

def execAtan2 (e d a b : Nat) (s : State) : Out :=
  .next (s.freeOp e notDma 8 d fun f s => atan2c32 f (s.gi e a) (s.gi e b))

end Sys2Proof.Machine
end

