-- ==== Sys2Proof/Machine/Island.lean ====
section
/-! DEFINITION. The safety island, the fault collector's commands and the crumb writer (R342–R359). -/

namespace Sys2Proof.Machine

/-! ### The crumb writer (R356–R358) -/

/-- One bit of the CRC-32 of IEEE 802.3, reflected. -/
def crcBit (c : Nat) : Nat := if c % 2 = 1 then (c / 2) ^^^ 0xEDB88320 else c / 2

/-- The CRC register after one more byte. -/
def crcByte (c b : Nat) : Nat :=
  crcBit (crcBit (crcBit (crcBit (crcBit (crcBit (crcBit (crcBit (c ^^^ b))))))))

/-- CRC-32 (R356): initial value and final XOR 0xFFFFFFFF. -/
def crc32 (bs : List Nat) : Nat := (bs.foldl crcByte 0xFFFFFFFF) ^^^ 0xFFFFFFFF

/-- Bytes 0–59 of a crumb. -/
def Crumb.body (c : Crumb) (seq : Nat) : List Nat :=
  [0xCB, c.type % 256, c.source % 256, c.owner % 64 + (if c.dtValid then 64 else 0)] ++ leBytes 4 seq ++ leBytes 4 c.dtNs ++
    leBytes 6 c.dtSec ++ leBytes 6 c.rtcSec ++
    ((List.range 8).flatMap fun i => leBytes 4 ((c.payload[i]?).getD 0).toNat) ++ leBytes 2 c.rtcFrac ++ [0, 0]

/-- The 64 bytes of a crumb (R356). -/
def Crumb.bytes (c : Crumb) (seq : Nat) : List Nat := c.body seq ++ leBytes 4 (crc32 (c.body seq))

/-- The first byte of crumb `seq` in mirror 0 or 1 (R357). -/
def crumbAddr (mirror seq : Nat) : Nat := 0x04730000 + 0x10000 * mirror + 64 * (seq % 1024)

/-- A crumb goes to its slot of both mirrors. -/
def State.storeCrumb (s : State) (c : Crumb) (seq : Nat) : State :=
  ((s.stBytes (crumbAddr 0 seq) (c.bytes seq)).stBytes (crumbAddr 1 seq) (c.bytes seq)).countMram 5 16

/-- A crumb is written with the next SEQ (R357). -/
def State.writeCrumb (s : State) (c : Crumb) : State := (s.storeCrumb c (s.rd F.CRUMB_SEQ_SEQ)).inc F.CRUMB_SEQ_SEQ

/-- A LOST crumb is queued as soon as the queue has room again (R357). -/
def State.queueLost (s : State) : State :=
  if s.crumb.lostSince = 0 ∨ ¬ s.crumbRoom then s
  else
    let n := s.crumb.lostSince
    { s with crumb := { s.crumb with lostSince := 0 } }.addCrumb 0x0F 0xFF 0 [BitVec.ofNat 32 n, s.reg Reg.CRUMB_LOST]

/-- The POWER_LOSS crumb leaves its slot, unless the power-up scan still runs (R358). -/
def State.writePowerLoss (s : State) : State :=
  match s.crumb.powerLoss with
  | none => s
  | some c =>
    if s.on F.CRUMB_STAT_SCAN then s
    else ({ s with crumb := { s.crumb with powerLoss := none } }.writeCrumb c).wr F.CRUMB_STAT_PF 1

/-- The crumb at the head of the queue is written: with the next SEQ, or, after an abandoned write, with the SEQ it had (R357, R358). -/
def State.writeHead (s : State) : State :=
  match s.crumb.queue with
  | [] => s
  | c :: rest =>
    let t := { s with crumb := { s.crumb with queue := rest, abandoned := none } }
    match s.crumb.abandoned with
    | none => t.writeCrumb c
    | some seq => t.storeCrumb c seq

/-- The next queued crumb is written (R357). -/
def execCrumbWrite (s : State) : Out :=
  .next (if s.on F.CRUMB_STAT_SCAN || !s.aon then s
    else if s.crumb.powerLoss.isSome then s.writePowerLoss
    else if s.crumb.queue.isEmpty then s
    else s.writeHead.queueLost)

/-- The SEQ in a slot of a mirror, where magic and CRC are right (R357). -/
def State.seqAt (s : State) (a : Nat) : Option Nat :=
  let b := s.ldBytes a 60
  if (s.byte a).toNat = 0xCB ∧ s.load (a + 60) 4 = crc32 b then some (s.load (a + 4) 4) else none

/-- The higher SEQ of two, compared modulo 2^32. -/
def newer (a b : Nat) : Nat := if (b + 2 ^ 32 - a) % 2 ^ 32 < 2 ^ 31 then b else a

/-- The highest valid SEQ of both mirrors. -/
def State.lastSeq (s : State) : Option Nat :=
  (List.range 2048).foldl (fun best i =>
    match best, s.seqAt (crumbAddr (i / 1024) i) with
    | b, none => b
    | none, some q => some q
    | some b, some q => some (newer b q)) none

/-- The scan at power-up ends (R357); a POWER_LOSS that waited is the first crumb written (R358). -/
def execCrumbScanComplete (s : State) : Out :=
  .next (if s.aon && s.on F.CRUMB_STAT_SCAN then
    let t := match s.lastSeq with
      | none => (s.wr F.CRUMB_SEQ_SEQ 0).wr F.CRUMB_STAT_EMPTY 1
      | some q => s.wr F.CRUMB_SEQ_SEQ (q + 1)
    (t.wr F.CRUMB_STAT_SCAN 0).writePowerLoss
  else s)

/-- A CRUMB_SW_CMD write (R356): the owner's words, or a result that says why not. -/
def State.swCrumb (s : State) (owner type : Nat) : State :=
  s.access owner Reg.CRUMB_SW_CMD fun s =>
    let res := if type % 256 < 0x80 then 2 else if s.crumbRoom then 0 else 1
    let words := (List.range 8).map fun n => look 0 s.crumb.swData (owner * 16 + n)
    let s := if res = 2 then s else s.addCrumb (type % 256) 0xFF owner words
    { s with crumb := { s.crumb with swRes := put 0 s.crumb.swRes owner res } }

def execSwCrumb (owner type : Nat) (s : State) : Out := .next (s.ifHeard owner Reg.CRUMB_SW_CMD true (·.swCrumb owner type))

/-- The supply comparators of LEAVEN: bit n for source 52 + n (R356). -/
def State.supplyBits (s : State) : Nat :=
  ((List.range 12).map fun n => look 0 s.safety.level (52 + n) % 2 * 2 ^ n).foldl (· + ·) 0

/-- The write of the crumb at the head of the queue, which the writer is at whenever one waits, is abandoned: it keeps the SEQ it took, and
its slot holds as much of it as a free value says (R358, log 185). -/
def State.abandonWrite (s : State) : State :=
  match s.crumb.queue with
  | [] => s
  | c :: _ =>
    if s.on F.CRUMB_STAT_SCAN then s
    else
      let seq := (s.crumb.abandoned).getD (s.rd F.CRUMB_SEQ_SEQ)
      let (n, s) := s.draw
      let s := (s.stBytes (crumbAddr 0 seq) ((c.bytes seq).take (n % 129))).stBytes (crumbAddr 1 seq) ((c.bytes seq).take (n % 129 - 64))
      if s.crumb.abandoned.isSome then s
      else { s.inc F.CRUMB_SEQ_SEQ with crumb := { s.crumb with abandoned := some seq } }

/-- Power is failing: the POWER_LOSS crumb goes first (R358). -/
def State.powerFail (s : State) : State :=
  if s.crumb.powerLoss.isSome then s
  else
    let s := s.abandonWrite
    let c := s.crumbNow 0x0E 0xFF 0
      [BitVec.ofNat 32 s.crumb.queue.length, BitVec.ofNat 32 s.supplyBits, BitVec.ofNat 32 (rtcFrac s.rtc.count)]
    { s with crumb := { s.crumb with powerLoss := some c } }.writePowerLoss

def execPwrFail (s : State) : Out := .next (s.whenB s.aon State.powerFail)

/-! ### The island (R345, R346) -/

/-- A FATAL event: safe state until device reset, the island in reset, one SAFE_ENTER crumb (R345). -/
def State.fatalEvent (s : State) (cause : Nat) : State :=
  if ¬ (s.inRun 2 && s.on F.OCQ_STAT_RUN) then s
  else
    let s := { s with safety := { s.safety with fatal := true, fatalCause := cause } }
    let s := ((s.wr F.OCQ_STAT_FATAL 1).wr F.OCQ_STAT_RUN 0).wr F.OCQ_STEST_STAT_BUSY 0
    if s.on F.OCQ_STAT_SAFE then (s.wr F.OCQ_STAT_CAUSE cause).safeCrumb else s.enterSafe cause

def execLockstepMismatch (s : State) : Out := .next (s.fatalEvent 0xFE)

def execIslandWatchdog (s : State) : Out := .next (s.fatalEvent 0xFD)

/-- Cores 0–3 (R31). -/
def isCore (owner : Nat) : Bool := decide (1 ≤ owner ∧ owner ≤ 4)

/-- A write to OCQ_HB: a new value from cores 0–3 is a heartbeat (R346). -/
def State.heartbeat (s : State) (owner : Nat) (v : Word) : State :=
  s.access owner Reg.OCQ_HB fun s =>
    if ¬ isCore owner then s.tgtErr owner
    else if s.reg Reg.OCQ_HB = v then s
    else ((s.setReg Reg.OCQ_HB v).mark .heartbeat).lower 67 owner

def execHeartbeat (owner : Nat) (v : Word) (s : State) : Out := .next (s.ifHeard owner Reg.OCQ_HB true (·.heartbeat owner v))

/-- The time in ms that cores 0–3 have for a heartbeat: MISS periods; 0 acts as 1 in both (R346). -/
def State.heartbeatMs (s : State) : Nat := max 1 (s.rd F.OCQ_HBCFG_PERIOD_MS) * max 1 (s.rd F.OCQ_HBCFG_MISS)

/-- MISS periods have passed without a heartbeat, or since the island began to monitor (R346). -/
def execHeartbeatMiss (s : State) : Out :=
  .next (s.whenB (s.inRun 2 && s.on F.OCQ_STAT_RUN && s.ranMs .heartbeat s.heartbeatMs) (·.raise 67))

/-- The two DT accumulators differ; the monitoring stops with the island (R345, R346). -/
def execKyoShadowMismatch (s : State) : Out :=
  .next (s.whenB (s.inRun 2 && s.on F.OCQ_STAT_RUN && s.inRun 15) (·.pulseSrc 66 0 (s.reg Reg.KYO_STATE)))

def execStestStart (owner : Nat) (s : State) : Out := .next (s.command owner Reg.OCQ_STEST_CMD State.selfTest)

/-- PERIOD_MIN: 1–60; 0 acts as 1, more as 60. -/
def State.selfTestMs (s : State) : Nat := 60000 * max 1 (min 60 (s.rd F.OCQ_STEST_CFG_PERIOD_MIN))

/-- PERIOD_MIN minutes have passed since the island started or since the last periodic self-test (log 142). -/
def execStestPeriodic (s : State) : Out :=
  .next (s.whenB (s.inRun 2 && s.on F.OCQ_STAT_RUN && s.ranMs .selfTest s.selfTestMs) fun s => (s.mark .selfTest).selfTest)

/-- A self-test ends, once no test is to be rerun: with `fail`, the lowest source whose checker did not rise (R346, R354, R359). -/
def execStestComplete (fail : Option Nat) (s : State) : Out :=
  .next (if ¬ s.on F.OCQ_STEST_STAT_BUSY ∨ s.safety.retest ≠ [] then s
  else
    let s := (s.wr F.OCQ_STEST_STAT_BUSY 0).inc F.OCQ_STEST_STAT_RUNS
    match fail with
    | none =>
      let s := ((s.wr F.OCQ_STEST_STAT_PASS 1).wr F.OCQ_STEST_STAT_FAIL 0).lower 69
      { s with safety := { s.safety with selfTested := true } }.addCrumb 0x10 0xFF 0 [1, 0]
    | some n =>
      let s := (((s.wr F.OCQ_STEST_STAT_PASS 0).wr F.OCQ_STEST_STAT_FAIL 1).wr F.OCQ_STEST_STAT_FAIL_SRC n)
      (s.raise 69 (BitVec.ofNat 32 n) (s.reg Reg.OCQ_STEST_STAT)).addCrumb 0x10 0xFF 0 [2, BitVec.ofNat 32 n])

/-! ### Safe-state requests (R352, R353) -/

/-- May this owner write OCQ_SAFE_REQ with this key (R352)? -/
def safeReqOk (owner key : Nat) : Bool := (isCore owner || isHost owner) && decide (key = 0x5AFE)

/-- Safe state on request; a request while it is in force changes nothing. -/
def State.safeEnter (s : State) (owner key : Nat) : State :=
  s.access owner Reg.OCQ_SAFE_REQ fun s =>
    if ¬ safeReqOk owner key then s.tgtErr owner
    else if s.on F.OCQ_STAT_SAFE then s
    else s.enterSafe 0xFC owner

def execSafeEnter (owner key : Nat) (s : State) : Out := .next (s.ifHeard owner Reg.OCQ_SAFE_REQ true (·.safeEnter owner key))

/-- Why an exit cannot happen now: 3 FATAL, 1 class A active, 2 hold running, 0 it can. -/
def State.exitRes (s : State) : Nat :=
  if ¬ s.on F.OCQ_STAT_SAFE then 0
  else if s.safety.fatal then 3
  else if s.classAActive then 1
  else if s.holdOver then 0 else 2

/-- An EXIT ends a non-FATAL safe state, or is refused with its reason (R353). -/
def State.safeExit (s : State) (owner key : Nat) : State :=
  s.access owner Reg.OCQ_SAFE_REQ fun s =>
    if ¬ safeReqOk owner key then s.tgtErr owner
    else
      let r := s.exitRes
      let s := s.wr F.OCQ_STAT_EXIT_RES r
      if r = 0 ∧ s.on F.OCQ_STAT_SAFE then s.exitSafe owner else s

def execSafeExit (owner key : Nat) (s : State) : Out := .next (s.ifHeard owner Reg.OCQ_SAFE_REQ true (·.safeExit owner key))

/-- AUTO_EXIT ends a safe state whose other conditions hold (R353). -/
def execSafeAutoExit (s : State) : Out :=
  .next (s.whenB (s.inRun 2 && s.on F.OCQ_STAT_SAFE && s.on F.OCQ_SAFE_CFG_AUTO_EXIT && decide (s.exitRes = 0))
    (·.exitSafe))

/-! ### The fault collector's commands (R347, R350) -/

/-- May this owner write FLT (R350)? -/
def fltWriter (owner : Nat) : Bool := isCore owner || decide (owner = 5) || isHost owner

/-- FLT_SWRAISE raises or lowers a software source. -/
def State.fltSwraise (s : State) (owner src : Nat) (up : Bool) : State :=
  s.access owner Reg.FLT_SWRAISE fun s =>
    if ¬ fltWriter owner then s.tgtErr owner
    else if src < 128 ∨ 191 < src then s
    else if up then s.raise src (owner := owner) else s.lower src owner

def execFltSwraise (owner src : Nat) (up : Bool) (s : State) : Out := .next (s.ifHeard owner Reg.FLT_SWRAISE true (·.fltSwraise owner src up))

/-- The island tests a source's checker: the source rises and falls, and its action is suppressed (R346, log 185). -/
def State.testSource (s : State) (src : Nat) : State :=
  let again := if look 0 s.safety.level src = 1 then s.safety.retest else s.safety.retest.filter (· ≠ src)
  { s with safety := { s.safety with testing := some src, retest := again } }

/-- FLT_INJECT.GO: the source's checker sees one fault, of the self-test or of an owner; reserved sources never rise (R346, R347). -/
def State.fltInject (s : State) (owner src : Nat) : State :=
  s.access owner Reg.FLT_INJECT fun s =>
    if ¬ fltWriter owner ∨ (s.on F.FLT_CTRL_LOCK ∧ owner ≠ 5) then s.tgtErr owner
    else if owner = 5 ∧ s.on F.OCQ_STEST_STAT_BUSY ∧ src ≤ 66 then s.testSource src
    else if src < 70 then s.pulseSrc src 0 0 owner else s

def execFltInject (owner src : Nat) (s : State) : Out := .next (s.ifHeard owner Reg.FLT_INJECT true (·.fltInject owner src))

/-! ### Supplies and the interconnect (R347, R348) -/

/-- The I/O bank of a supply monitor: 9 is that of VDDIO_A, 12 that of VDDIO_B, and both share source 61 (R347). -/
def bankOf (k : Nat) : Option Nat := if k = 9 then some 0 else if k = 12 then some 1 else none

def State.setBanksOut (s : State) (l : List Nat) : State := { s with safety := { s.safety with banksOut := l } }

/-- Supply monitor source 52 + k rises, that of a bank only once LEAVEN has decided its supply (R400); under-voltage of VDD_AON is a power-fail warning too (R348, R358). -/
def execSupplyFault (k : Nat) (s : State) : Out :=
  .next (s.whenB (s.aon && decide (k < 13)) fun s =>
    match bankOf k with
    | none => if k = 2 then (s.raise 54).powerFail else s.raise (52 + k)
    | some b =>
      s.whenB (decide ((s.safety.banks[b]?).getD 0 ≠ 0)) fun s =>
        (s.setBanksOut (b :: s.safety.banksOut.filter (· ≠ b))).raise 61)

def execSupplyRecover (k : Nat) (s : State) : Out :=
  .next (s.whenB (s.aon && decide (k < 13)) fun s =>
    match bankOf k with
    | none => s.lower (52 + k)
    | some b =>
      let s := s.setBanksOut (s.safety.banksOut.filter (· ≠ b))
      s.whenB s.safety.banksOut.isEmpty (·.lower 61))

/-- An access that did not complete within 10 µs is answered with TGT_ERR and raises source 68 (R347). -/
def execInterconnectTimeout (owner : Nat) (s : State) : Out := .next (s.whenB (s.heard owner) fun s => (s.pulseSrc 68 0 0 owner).tgtErr owner)

end Sys2Proof.Machine
end

