-- ==== Sys2Proof/Machine/Rtc.lean ====
section
/-! DEFINITION. The RTC, the calendar and the Ledger (R327–R341). -/

namespace Sys2Proof.Machine

/-! ### The Ledger's records (R338) -/

/-- The hottest sensor in 0.25 °C. -/
def State.hottest (s : State) : Int := s.rdS F.MON_TEMP_MAX_TEMP

/-- One second has passed: operating seconds of every domain in Run, and, with CORE in Run, time at temperature. -/
def State.ledgerSecond (s : State) : State :=
  let s := { s with ledger := { s.ledger with since := s.ledger.since + 1 } }
  let s := (List.range 19).foldl (fun s d => if s.inRun d then s.ledgerCount (0x40 + 8 * d) 8 else s) s
  if s.inRun 1 then s.ledgerCount (0xE0 + 4 * (held 0 15 ((s.hottest + 160) / 40)).toNat) 4 else s

/-- The leap table: T and ΔAT of its valid entries, in order (R336). -/
def State.leapTable (s : State) : List (Nat × Int) :=
  (List.range 64).filterMap fun i =>
    let o := 0x200 + 8 * i
    if s.ledgerGet (o + 7) 1 % 2 = 1 then some (s.ledgerGet o 6, signed 8 (s.ledgerGet (o + 6) 1)) else none

/-- Where the next entry of the update history goes, in ring order (R338). -/
def State.updateSlot (s : State) : Nat := 0x400 + 16 * (s.ledger.updateAt % 64)

/-- The next entry of a history that has been loaded: the first empty one, else the one of the lowest RTC seconds (log 86). -/
def State.nextUpdate (s : State) : Nat :=
  let at_ := fun i => 0x400 + 16 * i
  match (List.range 64).find? fun i => decide (s.ledgerGet (at_ i) 16 = 0) with
  | some i => i
  | none => (List.range 64).foldl (fun b i => if s.ledgerGet (at_ i) 6 < s.ledgerGet (at_ b) 6 then i else b) 0

/-- An update-history entry joins the working copy. -/
def State.ledgerUpdate (s : State) (v : Nat) : State :=
  let t := (s.ledgerSet s.updateSlot 16 v).wr F.LEDGER_STAT_PENDING 1
  { t with ledger := { t.ledger with updateAt := (s.ledger.updateAt + 1) % 64 } }

/-- An aging entry joins the ring, and its index and count follow. -/
def State.ledgerAging (s : State) (v : Nat) : State :=
  let i := s.ledgerGet 0x180 4 % 4096
  let n := s.ledgerGet 0x184 4
  (((s.ledgerSet (0x800 + 8 * i) 8 v).ledgerSet 0x180 4 ((i + 1) % 4096)).ledgerSet 0x184 4 (min 4096 (n + 1))).wr F.LEDGER_STAT_PENDING 1

/-- A leap entry: 0 OK, 1 BAD_ORDER, 2 FULL (R340). -/
def State.ledgerLeap (s : State) (t : Nat) (dat : Int) : State × Nat :=
  let table := s.leapTable
  let last := (table.getLast?).getD (0, 32)
  let step := dat - last.2
  if 64 ≤ table.length then (s, 2)
  else if (table ≠ [] ∧ t ≤ last.1) ∨ ¬ (step = 1 ∨ step = -1) then (s, 1)
  else
    ((s.ledgerSet (0x200 + 8 * table.length) 8 (t + 2 ^ 48 * unsigned 8 dat + 2 ^ 56)).wr F.LEDGER_STAT_PENDING 1, 0)

/-- The words of LEDGER_SUB_D0–D3 as one number. -/
def State.subValue (s : State) : Nat :=
  leNum (bytesOfWords ((List.range 4).map fun i => s.reg (Reg.LEDGER_SUB_D i)))

/-- The entry in LEDGER_SUB_D0–D3 is taken or refused; the result reads in LEDGER_SUB_RES (R340). -/
def State.ledgerTake (s : State) (type : Nat) : State :=
  let v := s.subValue
  let (s, r) := match type with
    | 1 => (s.ledgerAging (v % 2 ^ 64), 0)
    | 2 => s.ledgerLeap (v % 2 ^ 48) (signed 8 (v / 2 ^ 48))
    | 3 => (s.ledgerUpdate v, 0)
    | _ => (s, 3)
  s.wr F.LEDGER_SUB_RES_RESULT r

/-- LEDGER_SUB_CMD: only from cores 0–3; the result reads in LEDGER_SUB_RES (R340). -/
def State.ledgerSubmit (s : State) (owner type : Nat) : State :=
  s.access owner Reg.LEDGER_SUB_CMD fun s =>
    if ¬ isCore owner then s.tgtErr owner else s.ledgerTake type

def execLedgerSubAging (owner : Nat) (s : State) : Out := .next (s.ifHeard owner Reg.LEDGER_SUB_CMD true (·.ledgerSubmit owner 1))

def execLedgerSubLeap (owner : Nat) (s : State) : Out := .next (s.ifHeard owner Reg.LEDGER_SUB_CMD true (·.ledgerSubmit owner 2))

def execLedgerSubUpdate (owner : Nat) (s : State) : Out := .next (s.ifHeard owner Reg.LEDGER_SUB_CMD true (·.ledgerSubmit owner 3))

/-! ### Writing and loading the copies (R339) -/

/-- The first byte of copy A (0) or B (1). -/
def ledgerBase (copy : Nat) : Nat := 0x04710000 + 0x10000 * copy

/-- A copy is written: content, header, CRC last; it becomes the active one. How many MRAM words that takes is open (log 36). -/
def State.ledgerWrite (s : State) : State :=
  let copy := 1 - s.rd F.LEDGER_STAT_ACTIVE
  let seq := (s.rd F.LEDGER_SEQ_SEQ + 1) % 2 ^ 32
  let base := ledgerBase copy
  let s := s.forget base (base + 0xFFFF)
  let s := s.ledger.work.foldl (fun s e => s.setByte (base + e.1) e.2) s
  let s := s.stBytes base
    (leBytes 4 0x4C444752 ++ leBytes 4 seq ++ leBytes 6 (rtcSec s.rtc.count) ++ leBytes 2 1)
  let s := s.store (base + 0xFFFC) 4 (crc32 (s.ldBytes base 0xFFFC))
  let s := ((s.wr F.LEDGER_STAT_ACTIVE copy).setReg Reg.LEDGER_SEQ (BitVec.ofNat 32 seq)).wr F.LEDGER_STAT_PENDING 0
  let s := (s.setReg Reg.LEDGER_LAST (BitVec.ofNat 32 (rtcSec s.rtc.count))).wr F.LEDGER_STAT_BUSY 0
  let s := { s with ledger := { s.ledger with changed := false, since := 0 } }
  let (n, s) := s.draw
  s.countMram 4 (n % 8193)

/-- LEDGER_WRITE: at least 600 s after the last write, if anything has changed, or on Stop entry, after which wakes are served. -/
def execLedgerWrite (s : State) : Out :=
  .next (s.whenB (s.aon && (s.power.stopUpdate || (s.ledger.changed && decide (600 ≤ s.ledger.since)))) fun s =>
    { s.ledgerWrite with power := { s.ledgerWrite.power with stopUpdate := false } }.settle)

/-- Sequence number of a copy with valid magic and CRC. -/
def State.ledgerSeq (s : State) (copy : Nat) : Option Nat :=
  let base := ledgerBase copy
  if s.load base 4 = 0x4C444752 ∧ s.load (base + 0xFFFC) 4 = crc32 (s.ldBytes base 0xFFFC) then some (s.load (base + 4) 4) else none

/-- The content of a copy without header and CRC. -/
def State.ledgerContent (s : State) (copy : Nat) : List Host.Cell :=
  let base := ledgerBase copy
  (s.mem.filter fun e => decide (base + 16 ≤ e.1 ∧ e.1 < base + 0xFFFC)).map fun e => (e.1 - base, e.2)

/-- At VDD_AON power-up the writer loads the newer valid copy, or starts from zero with ERR and a crumb. -/
def State.ledgerLoad (s : State) : State :=
  let pick : Option (Nat × Nat) := match s.ledgerSeq 0, s.ledgerSeq 1 with
    | none, none => none
    | some a, none => some (0, a)
    | none, some b => some (1, b)
    | some a, some b => if newer a b = b ∧ a ≠ b then some (1, b) else some (0, a)
  match pick with
  | none => (({ s with ledger := {} }.setReg Reg.LEDGER_STAT 8).setReg Reg.LEDGER_SEQ 0).addCrumb 0x0B 0xFF 0 [2]
  | some (copy, seq) =>
    let s := { s with ledger := { work := s.ledgerContent copy } }
    let s := { s with ledger := { s.ledger with updateAt := s.nextUpdate } }
    let s := (s.setReg Reg.LEDGER_STAT (BitVec.ofNat 32 copy)).setReg Reg.LEDGER_SEQ (BitVec.ofNat 32 seq)
    s.setReg Reg.LEDGER_LAST (BitVec.ofNat 32 (s.load (ledgerBase copy + 8) 4))

/-! ### The count, its trim and its ticks (R327–R334) -/

/-- Does tick `i` of the trim window carry a correction (R331)? -/
def trimmed (n w i : Nat) : Bool :=
  let len := 32768 * 2 ^ (max 4 (min 20 w))
  let k := (i * n + len - 1) / len
  decide (k < n ∧ k * len / max 1 n = i)

/-- What an untouched tick adds to FRAC: 2^17, or twice or none of it where the trim falls; on LIRC always 2^17 (R334). -/
def State.tickAdvance (s : State) : Nat :=
  if s.rtc.onLirc ∨ ¬ trimmed (s.rd F.RTC_TRIM_N) (s.rd F.RTC_TRIM_W) s.rtc.window then 2 ^ 17
  else if s.on F.RTC_TRIM_DIR then 0 else 2 ^ 18

def State.setRtc (s : State) (r : RtcSt) : State := { s with rtc := r }

/-- The count advances by one tick of its window. -/
def State.rtcAdvance (s : State) : State :=
  let len := 32768 * 2 ^ (max 4 (min 20 (s.rd F.RTC_TRIM_W)))
  let next := if s.rtc.onLirc then s.rtc.window else (s.rtc.window + 1) % len
  s.setRtc { s.rtc with count := (s.rtc.count + s.tickAdvance) % 2 ^ 80, window := next }

/-- The RTC takes a value in place of its advance: SET, APPLIED, a new trim window (R329). -/
def State.rtcTake (s : State) (v : Nat) : State :=
  let s := s.setRtc { s.rtc with count := v % 2 ^ 80, apply := none, align := false, window := 0 }
  (((s.wr F.RTC_STAT_SET 1).wr F.RTC_STAT_VBAT_LOST 0).wr F.RTC_STAT_PENDING 0).event F.RTC_EVT_APPLIED

/-- DT as ALIGN takes it: seconds, and nanoseconds as a rounded binary fraction. -/
def State.dtAsRtc (s : State) : Nat :=
  dtSec s.time.kyo.dt * 2 ^ 32 + (dtNs s.time.kyo.dt * 2 ^ 32 + 500000000) / 1000000000

/-- A pending APPLY or ALIGN at its tick; an ALIGN without DT fails and the count advances as usual. -/
def State.rtcLoadTick (s : State) : State :=
  if s.rtc.align then
    if s.dtOk then s.rtcTake s.dtAsRtc
    else
      let s := s.setRtc { s.rtc with align := false }
      ((s.wr F.RTC_STAT_PENDING 0).event F.RTC_EVT_ALIGN_FAIL).rtcAdvance
  else match s.rtc.apply with
    | some v => s.rtcTake v
    | none => s.rtcAdvance

/-- A trial window counts RTC seconds down (R383), those the count passes and not those a load skips. -/
def State.trialTick (s old : State) : State :=
  if s.boot.window ∧ ¬ old.rtc.align ∧ old.rtc.apply = none ∧ rtcSec s.rtc.count ≠ rtcSec old.rtc.count then
    s.wr F.BOOT_TRIAL_REM_SEC (s.rd F.BOOT_TRIAL_REM_SEC - 1)
  else s

/-- Each second of LEAVEN: the Ledger's counters, and how long the staging lock's holder has been silent (R388). -/
def State.leavenSecond (s : State) : State :=
  let s := s.ledgerSecond
  if s.boot.holder ≠ 0 then s.sat F.SVC_STAT_IDLE_S else s

/-- One XTAL32 tick: the count, which stands still where neither VDD_AON nor VBAT is there (R327), LEAVEN's time record (R284), the
trial window and, each second, LEAVEN's seconds. -/
def State.xtalTick (s : State) : State :=
  if s.rtc.lost ∧ ¬ s.aon then { s with ticks := s.ticks + 1 }
  else
    let t := ({ s with ticks := s.ticks + 1 }.rtcLoadTick).recordTime.trialTick s
    if t.aon ∧ t.ticks % Config.xtalHz = 0 then t.leavenSecond else t

/-- XTAL32_TICK. -/
def execXtal32Tick (s : State) : Out := .next s.xtalTick

/-- RTC_LOAD: the tick at which a pending APPLY or ALIGN is due. -/
def execRtcLoad (s : State) : Out := .next (s.whenB (s.rtc.align || s.rtc.apply.isSome) State.xtalTick)

/-- RTC_SNAP_LATCH: the snap registers take the RTC after its tick, and DT (R330). -/
def execRtcSnapLatch (s : State) : Out :=
  .next (s.whenB s.rtc.snap fun s =>
    let s := (s.setRtc { s.rtc with snap := false }).wr F.RTC_STAT_SNAP_BUSY 0
    let c := s.rtc.count
    let s := s.setReg Reg.RTC_SNAP_SEC_LO (BitVec.ofNat 32 (rtcSec c))
    let s := (s.wr F.RTC_SNAP_SEC_HI_SEC_HI (rtcSec c / 2 ^ 32)).setReg Reg.RTC_SNAP_FRAC (BitVec.ofNat 32 (rtcFrac c))
    let s := (s.wr F.RTC_SNAP_DT_NS_DT_NS (dtNs s.dtNow)).setReg Reg.RTC_SNAP_DT_SEC_LO (BitVec.ofNat 32 (dtSec s.dtNow))
    let s := (s.wr F.RTC_SNAP_DT_SEC_HI_DT_SEC_HI (dtSec s.dtNow / 2 ^ 32)).wr F.RTC_SNAP_DT_SEC_HI_DT_VALID (if s.dtOk then 1 else 0)
    s.event F.RTC_EVT_SNAP_DONE)

/-! ### RTC commands -/

/-- The staged value. -/
def State.staged (s : State) : Nat :=
  (s.rd F.RTC_STG_SEC_LO_SEC_LO + 2 ^ 32 * s.rd F.RTC_STG_SEC_HI_SEC_HI) * 2 ^ 32 + s.rd F.RTC_STG_FRAC_FRAC

def State.rtcApply (s : State) : State :=
  (s.setRtc { s.rtc with apply := some s.staged, align := false }).wr F.RTC_STAT_PENDING 1

def State.rtcAlign (s : State) : State := (s.setRtc { s.rtc with apply := none, align := true }).wr F.RTC_STAT_PENDING 1

def State.rtcSnap (s : State) : State := (s.setRtc { s.rtc with snap := true }).wr F.RTC_STAT_SNAP_BUSY 1

def execApply (owner : Nat) (s : State) : Out := .next (s.command owner Reg.RTC_CMD State.rtcApply)

def execAlign (owner : Nat) (s : State) : Out := .next (s.command owner Reg.RTC_CMD State.rtcAlign)

def execSnap (owner : Nat) (s : State) : Out := .next (s.command owner Reg.RTC_CMD State.rtcSnap)

/-- A read of RTC_SEC_LO latches the other two for its owner (R328). -/
def State.readRtc (s : State) (owner : Nat) : State :=
  (s.setRtc { s.rtc with latch := put 0 s.rtc.latch owner s.rtc.count }).okay owner (BitVec.ofNat 32 (rtcSec s.rtc.count))

def execRtcRead (owner : Nat) (s : State) : Out := .next (s.readCmd owner Reg.RTC_SEC_LO (·.readRtc owner))

/-- A write of RTC_TRIM restarts the window (R331); W = 20 with N = 0 reads back 19 (E08). -/
def State.writeTrim (s : State) (v : Word) : State :=
  let s := (s.setReg Reg.RTC_TRIM (v &&& 0x3FFFFF)).setRtc { s.rtc with window := 0 }
  if s.rd F.RTC_TRIM_N = 0 ∧ s.rd F.RTC_TRIM_W = 20 then s.wr F.RTC_TRIM_W 19 else s

def execRtcTrimWrite (owner : Nat) (v : Word) (s : State) : Out := .next (s.command owner Reg.RTC_TRIM (·.writeTrim v))

/-- The alarm's second. -/
def State.alarmAt (s : State) : Nat := s.rd F.RTC_ALARM_LO_SEC_LO + 2 ^ 32 * s.rd F.RTC_ALARM_HI_SEC_HI

/-- A write of an alarm register: an alarm armed at or below the present second is late (R333). -/
def State.writeAlarm (s : State) (a : Nat) (v : Word) : State :=
  let s := s.setReg a (if a = Reg.RTC_ALARM_HI then v &&& 0x8000FFFF else v)
  s.setRtc { s.rtc with alarmLate := s.on F.RTC_ALARM_HI_ARM && decide (s.alarmAt ≤ rtcSec s.rtc.count) }

/-- RTC_ALARM (R333): RTC_SEC has reached the alarm; on VBAT alone it raises no vote (R327). -/
def execRtcAlarm (s : State) : Out :=
  .next (s.whenB (s.on F.RTC_ALARM_HI_ARM && decide (s.alarmAt ≤ rtcSec s.rtc.count)) fun s =>
    let s := (s.wr F.RTC_ALARM_HI_ARM 0).event F.RTC_EVT_ALARM
    let s := if s.rtc.alarmLate then s.event F.RTC_EVT_ALARM_LATE else s
    let s := s.setRtc { s.rtc with alarmLate := false }
    if s.aon ∧ s.on F.PWR_WAKE_CFG_RTC then s.wake 2 (s.rd (F.PWR_WAKE_DOM_DOMAINS 1)) else s)

/-- OSC_FAIL (R334). -/
def execOscFail (s : State) : Out :=
  .next (s.whenB (s.aon && !s.on F.RTC_STAT_OSC_FAIL) fun s =>
    let s := ((s.wr F.RTC_STAT_OSC_FAIL 1).wr F.RTC_STAT_SET 0).event F.RTC_EVT_OSC_FAIL
    (s.setRtc { s.rtc with onLirc := true }).addCrumb 0x0B 0xFF 0 [1])

/-- OSC_RECOVER: XTAL32 has ticked for 1 s. -/
def execOscRecover (s : State) : Out :=
  .next (s.whenB (s.on F.RTC_STAT_OSC_FAIL) fun s => (s.wr F.RTC_STAT_OSC_FAIL 0).setRtc { s.rtc with onLirc := false })

/-! ### The calendar (R335–R337) -/

/-- Is the Gregorian year a leap year? -/
def leapYear (y : Nat) : Bool := decide (y % 4 = 0 ∧ (y % 100 ≠ 0 ∨ y % 400 = 0))

def yearDays (y : Nat) : Nat := if leapYear y then 366 else 365

/-- Days of a month, 1–12. -/
def monthDays (y m : Nat) : Nat :=
  if m = 2 then (if leapYear y then 29 else 28) else if m = 4 ∨ m = 6 ∨ m = 9 ∨ m = 11 then 30 else 31

/-- Days from 2000-01-01 to the first of a year. -/
def daysToYear (y : Nat) : Nat := ((List.range (y - 2000)).map fun i => yearDays (2000 + i)).foldl (· + ·) 0

/-- Days from 1 January to the first of a month. -/
def daysToMonth (y m : Nat) : Nat := ((List.range (m - 1)).map fun i => monthDays y (i + 1)).foldl (· + ·) 0

/-- The year and the day within it, from 0, of a day number. -/
def yearOf : Nat → Nat → Nat → Nat × Nat
  | 0, y, d => (y, d)
  | k + 1, y, d => if d < yearDays y then (y, d) else yearOf k (y + 1) (d - yearDays y)

/-- The month and the day within it, from 0. -/
def monthOf : Nat → Nat → Nat → Nat → Nat × Nat
  | 0, _, m, d => (m, d)
  | k + 1, y, m, d => if d < monthDays y m then (m, d) else monthOf k y (m + 1) (d - monthDays y m)

/-- Days in the calendar's 400 years. -/
def calendarDays : Nat := 146097

/-- ΔAT at BCT `b`: that of the last entry whose T is at most `b`, 32 before the first. -/
def datAt (leaps : List (Nat × Int)) (b : Int) : Int :=
  leaps.foldl (fun d e => if (e.1 : Int) ≤ b then e.2 else d) 32

/-- Firmware keeps PTPA_NTP_OFS at 3,155,673,600 − ΔAT of the present DT second (R290). -/
def State.followLeaps (s : State) : State :=
  s.whenB (s.inRun 16 && s.firmware && s.dtOk) fun s =>
    s.wr F.PTPA_NTP_OFS_OFS (3155673600 - datAt s.leapTable (dtSec s.dtNow)).toNat

/-- Entries with the step they make: T, ΔAT and whether it raises ΔAT. -/
def leapSteps (leaps : List (Nat × Int)) : List (Nat × Int × Bool) :=
  (leaps.foldl (fun (acc : List (Nat × Int × Bool) × Int) e => (acc.1 ++ [(e.1, e.2, decide (acc.2 < e.2))], e.2)) ([], 32)).1

/-- The UTC day whose end makes the step of an entry. -/
def stepDay (e : Nat × Int × Bool) : Int := ((e.1 : Int) - e.2.1) / 86400 - 1

/-- What a conversion yields: UTC day number and second of day (60 for a leap second at its end), ΔAT and LEAP; or the reason of
its refusal. -/
def bctToUtc (leaps : List (Nat × Int)) (b : Nat) : Except Nat (Nat × Nat × Int × Bool) :=
  match (leapSteps leaps).find? fun e => e.2.2 && decide (e.1 = b + 1) with
  | some e =>
    if 0 ≤ stepDay e ∧ stepDay e < calendarDays then .ok ((stepDay e).toNat, 86400, datAt leaps b, true) else .error 6
  | none =>
    let n := (b : Int) - datAt leaps b
    if 0 ≤ n ∧ n < calendarDays * 86400 then .ok (n.toNat / 86400, n.toNat % 86400, datAt leaps b, false) else .error 6

/-- Day number, second of day and BCT of a UTC time with its ΔAT; or the reason of the refusal, the lowest that applies (R337). -/
def utcToBct (leaps : List (Nat × Int)) (y mo d h mi sec : Nat) : Except Nat (Nat × Nat × Int) :=
  let monthOk := decide (1 ≤ mo ∧ mo ≤ 12)
  if d = 0 ∨ (monthOk ∧ monthDays y mo < d) then .error 1
  else if ¬ monthOk then .error 2
  else if 23 < h ∨ 59 < mi ∨ 60 < sec then .error 3
  else
    let day := daysToYear y + daysToMonth y mo + (d - 1)
    let ends := (leapSteps leaps).find? fun e => decide (stepDay e = day)
    let last := decide (h = 23 ∧ mi = 59)
    if sec = 60 then
      match ends with
      | some e =>
        if ¬ (last ∧ e.2.2) then .error 4
        else if y < 2000 ∨ 2399 < y then .error 5 else .ok (day, e.1 - 1, datAt leaps ((e.1 : Int) - 1))
      | none => .error 4
    else if y < 2000 ∨ 2399 < y then .error 5
    else if last && decide (sec = 59) && (ends.map fun e => !e.2.2).getD false then .error 7
    else
      let n : Int := day * 86400 + h * 3600 + mi * 60 + sec
      let dat := leaps.foldl (fun x e => if (e.1 : Int) ≤ n + e.2 then e.2 else x) 32
      .ok (day, (n + dat).toNat, dat)

/-- ISO day of week of a day number: 2000-01-01 was a Saturday. -/
def weekday (day : Nat) : Nat := (day + 5) % 7 + 1

/-- A conversion starts with its operands and the leap table of this moment; one that runs is not disturbed (R341). -/
def State.calStart (s : State) (op : Nat) : State :=
  if s.on F.CAL_STATUS_BUSY then s
  else
    let bct := if op = 3 then rtcSec s.rtc.count else s.rd F.CAL_BCT_LO_BCT_LO + 2 ^ 32 * s.rd F.CAL_BCT_HI_BCT_HI
    (s.setRtc { s.rtc with
      calOp := op, calBct := bct, calDate := s.reg Reg.CAL_DATE, calTime := s.reg Reg.CAL_TIME, calLeaps := s.leapTable }).wr
      F.CAL_STATUS_BUSY 1

def execBctToUtc (owner : Nat) (s : State) : Out := .next (s.command owner Reg.CAL_CMD (·.calStart 1))

def execUtcToBct (owner : Nat) (s : State) : Out := .next (s.command owner Reg.CAL_CMD (·.calStart 2))

def execRtcToUtc (owner : Nat) (s : State) : Out := .next (s.command owner Reg.CAL_CMD (·.calStart 3))

/-- A refused conversion changes no register but CAL_STATUS. -/
def State.calRefuse (s : State) (reason : Nat) : State := (s.wr F.CAL_STATUS_INVALID 1).wr F.CAL_STATUS_REASON reason

/-- INFO and DOW of a day, and DONE. -/
def State.calInfo (s : State) (day : Nat) (dat : Int) (leap : Bool) : State :=
  let s := (s.wr F.CAL_INFO_YDAY ((yearOf 400 2000 day).2 + 1)).wr F.CAL_INFO_DAT (unsigned 8 dat)
  ((s.wr F.CAL_INFO_LEAP (if leap then 1 else 0)).wr F.CAL_TIME_DOW (weekday day)).wr F.CAL_STATUS_DONE 1

/-- DATE and TIME of a day and a second of it; second 86,400 is 23:59:60. -/
def State.calDate (s : State) (day sod : Nat) : State :=
  let (y, yd) := yearOf 400 2000 day
  let (m, d) := monthOf 12 y 1 yd
  let s := ((s.wr F.CAL_DATE_YEAR y).wr F.CAL_DATE_MONTH m).wr F.CAL_DATE_DAY (d + 1)
  let leap := decide (sod = 86400)
  let s := (s.wr F.CAL_TIME_HOUR (if leap then 23 else sod / 3600)).wr F.CAL_TIME_MIN (if leap then 59 else sod / 60 % 60)
  s.wr F.CAL_TIME_SEC (if leap then 60 else sod % 60)

/-- CAL_CONVERSION_DONE (R335, R337). -/
def execCalConversionDone (s : State) : Out :=
  .next (s.whenB (s.aon && s.on F.CAL_STATUS_BUSY) fun s =>
    let r := s.rtc
    let s := s.wr F.CAL_STATUS_BUSY 0
    if r.calOp = 2 then
      match utcToBct r.calLeaps (bits r.calDate 16 12) (bits r.calDate 8 4) (bits r.calDate 0 5)
          (bits r.calTime 16 5) (bits r.calTime 8 6) (bits r.calTime 0 6) with
      | .error e => s.calRefuse e
      | .ok (day, b, dat) =>
        let s := (s.setReg Reg.CAL_BCT_LO (BitVec.ofNat 32 b)).wr F.CAL_BCT_HI_BCT_HI (b / 2 ^ 32)
        s.calInfo day dat (decide (bits r.calTime 0 6 = 60))
    else
      match bctToUtc r.calLeaps r.calBct with
      | .error e => s.calRefuse e
      | .ok (day, sod, dat, leap) => (s.calDate day sod).calInfo day dat leap)

end Sys2Proof.Machine
end

