-- ==== Sys2Proof/Machine/Net.lean ====
section
/-! DEFINITION. Ethernet ports, the switch, the timestamp unit and the protocol firmware (R286–R308). Frames are held from the
destination MAC to the last byte before the FCS, which is always right (log 40). -/

namespace Sys2Proof.Machine

/-! ### Bytes of a frame -/

/-- The big-endian number of `n` bytes from offset `o` on. -/
def beAt (bs : List Nat) (o : Nat) : Nat → Nat
  | 0 => 0
  | n + 1 => beAt bs o n * 256 + bs.getD (o + n) 0 % 256

/-- A number in `n` bytes, most significant first. -/
def beBytes (n v : Nat) : List Nat := (leBytes n v).reverse

/-- The bytes from offset `o` on replaced. -/
def overwrite (bs : List Nat) (o : Nat) (new : List Nat) : List Nat := bs.take o ++ new ++ bs.drop (o + new.length)

/-- Is the frame 802.1Q tagged? -/
def tagged (bs : List Nat) : Bool := decide (beAt bs 12 2 = 0x8100)

/-- Offset of the EtherType. -/
def etherAt (bs : List Nat) : Nat := if tagged bs then 16 else 12

/-- Offset of the UDP header with its IP version. -/
def udpAt (bs : List Nat) : Option (Nat × Nat) :=
  let o := etherAt bs
  let t := beAt bs o 2
  if t = 0x0800 ∧ beAt bs (o + 11) 1 = 17 then some (o + 2 + beAt bs (o + 2) 1 % 16 * 4, 4)
  else if t = 0x86DD ∧ beAt bs (o + 8) 1 = 17 then some (o + 42, 6)
  else none

/-- Offset of the PTP header, with the UDP header's offset and IP version where there is one. -/
def ptpAt (bs : List Nat) : Option (Nat × Option (Nat × Nat)) :=
  if beAt bs (etherAt bs) 2 = 0x88F7 then some (etherAt bs + 2, none)
  else match udpAt bs with
    | some (u, v) => if beAt bs (u + 2) 2 = 319 ∨ beAt bs (u + 2) 2 = 320 then some (u + 8, some (u, v)) else none
    | none => none

/-- messageType of a PTP version 2 message whose header is at `h`. -/
def ptpType (bs : List Nat) (h : Nat) : Nat := if beAt bs (h + 1) 1 % 16 = 2 then beAt bs h 1 % 16 else 16

/-- The PTP event message in a frame: header offset, messageType, UDP (R292). -/
def ptpEvent (bs : List Nat) : Option (Nat × Nat × Option (Nat × Nat)) :=
  match ptpAt bs with
  | some (h, u) => if ptpType bs h < 4 then some (h, ptpType bs h, u) else none
  | none => none

/-- The QL of an ESMC PDU (ITU-T G.8264; log 41). -/
def esmcOf (bs : List Nat) : Option Nat :=
  let o := etherAt bs
  if beAt bs o 2 = 0x8809 ∧ beAt bs (o + 2) 1 = 0x0A ∧ beAt bs (o + 3) 3 = 0x19A7 ∧ beAt bs (o + 6) 2 = 1 ∧ beAt bs (o + 12) 1 = 1 then
    some (beAt bs (o + 15) 1 % 16)
  else none

/-- The queue a frame takes: 7 for PTP event messages, ESMC PDUs and peer reports (R287), else its priority (log 40). -/
def prioOf (bs : List Nat) : Nat :=
  let peer := match udpAt bs with | some (u, _) => decide (beAt bs (u + 2) 2 = 47480) | none => false
  if (ptpEvent bs).isSome || (esmcOf bs).isSome || peer then 7 else if tagged bs then beAt bs 14 1 / 32 else 0

/-- The sum of 16-bit words modulo 65,535. -/
def onesSum : List Nat → Nat
  | a :: b :: rest => (a % 256 * 256 + b % 256 + onesSum rest) % 65535
  | [a] => a % 256 * 256 % 65535
  | [] => 0

/-- UDP over IPv4 gets checksum 0; over IPv6 the last two payload bytes keep the old checksum valid (R291). -/
def fixUdp (old new : List Nat) : Option (Nat × Nat) → List Nat
  | none => new
  | some (u, v) =>
    if v = 4 then overwrite new (u + 6) [0, 0]
    else
      let last := u + beAt new (u + 4) 2 - 2
      let part (bs : List Nat) : Nat := onesSum ((bs.drop (u + 8)).take (last - (u + 8)))
      let odd := (last - u) % 2 = 1
      let delta := (part old + 65535 - part new) % 65535
      let delta := if odd then delta / 256 + delta % 256 * 256 else delta
      overwrite new last (beBytes 2 ((beAt old last 2 + delta) % 65535))

/-! ### Stamps (R288, R290) -/

/-- Picoseconds in 2^-32 ns, rounded down (log 17). -/
def psUnits (ps : Nat) : Nat := ps * 2 ^ 32 / 1000

/-- DT and MONO_NS of a frame that enters at a port now: `ps` is the device's own variable latency, measured. -/
def State.ingress (s : State) (p ps : Nat) : Nat × Nat :=
  let d := psUnits (s.rd (F.NP_LAT_RX_PS p (s.rd (F.NP_STAT_S p))) + ps)
  (s.dtNow - d, s.time.kyo.mono - d)

/-- DT and MONO_NS of a frame that leaves a port now. -/
def State.egress (s : State) (p ps : Nat) : Nat × Nat :=
  let d := psUnits (s.rd (F.NP_LAT_TX_PS p (s.rd (F.NP_STAT_S p))) + ps)
  (s.dtNow + d, s.time.kyo.mono + d)

/-- originTimestamp: PTP seconds and nanoseconds of a DT (R290). -/
def ptpTime (dt : Nat) : List Nat := beBytes 6 (dtSec dt + 946684800) ++ beBytes 4 (dtNs dt)

/-- The NTP timestamp of a DT (R290). -/
def State.ntpTime (s : State) (dt : Nat) : List Nat :=
  beBytes 4 (dtSec dt + s.rd F.PTPA_NTP_OFS_OFS) ++ beBytes 4 ((dtNs dt * 2 ^ 32 + 500000000) / 1000000000)

/-- correctionField grows by `d` 2^-16 ns, held at its greatest value; was it held (R292)? -/
def addCorrection (bs : List Nat) (h : Nat) (d : Int) : List Nat × Bool :=
  let c := signed 64 (beAt bs (h + 8) 8) + d
  let top : Int := 2 ^ 63 - 1
  (overwrite bs (h + 8) (beBytes 8 (unsigned 64 (min top c))), decide (top < c))

/-! ### The switch (R287) -/

def State.netQueue (s : State) (p : Nat) : List Frame := look [] s.net.queues p

def State.setNetQueue (s : State) (p : Nat) (q : List Frame) : State :=
  { s with net := { s.net with queues := put [] s.net.queues p q } }

/-- The VLAN entry of a VID. -/
def State.vlanOf (s : State) (vid : Nat) : Option Nat :=
  (List.range 64).find? fun v => decide (s.rd (F.NET_VLAN_VID v) = vid ∧ s.rd (F.NET_VLAN_VALID v) = 1)

/-- The source MAC is learned on its port, and seen now, while the table of 2,048 has room. -/
def State.learn (s : State) (mac p : Nat) : State :=
  if s.on F.NET_CTRL_LEARN ∧ mac / 2 ^ 40 % 2 = 0 ∧ (look 0 s.net.macs mac ≠ 0 ∨ s.net.macs.length < 2048) then
    { s with net := { s.net with macs := put 0 s.net.macs mac (p + 1), macSeen := put 0 s.net.macSeen mac s.now } }
  else s

/-- Ports a frame from port `p` goes to: the learned one, or every other; members of its VLAN only. -/
def State.outPorts (s : State) (p v mac : Nat) : List Nat :=
  let known := look 0 s.net.macs mac
  let flood := decide (mac / 2 ^ 40 % 2 = 1 ∨ known = 0)
  (List.range 5).filter fun q => decide (q ≠ p) && (s.rd (F.NET_VLAN_MEMBER v)).testBit q && (flood || decide (known = q + 1))

/-- The frame as it leaves port `q`: untagged where its VLAN entry says so, tagged otherwise (log 40). -/
def State.retag (s : State) (v vid q : Nat) (bs : List Nat) : List Nat :=
  if (s.rd (F.NET_VLAN_UNTAG v)).testBit q then (if tagged bs then bs.take 12 ++ bs.drop 16 else bs)
  else if tagged bs then bs else bs.take 12 ++ [0x81, 0x00] ++ beBytes 2 vid ++ bs.drop 12

/-- The VLAN of a frame: its tag's, else the PVID of its port; of the CPU port that is firmware's configuration (R287, log 178). -/
def State.vidOf (s : State) (f : Frame) : Nat :=
  let tag := beAt f.bytes 14 2 % 4096
  if tagged f.bytes ∧ tag ≠ 0 then tag else if f.port = 4 then s.net.config.vid else s.rd (F.NP_CFG_PVID f.port)

/-- A stamped frame is switched: to each of its ports' queues, or dropped. -/
def State.forward (s : State) (f : Frame) : State :=
  let vid := s.vidOf f
  match s.vlanOf vid with
  | none => s.sat F.NET_STAT_NOVLAN
  | some v =>
    let s := s.learn (beAt f.bytes 6 6) f.port
    (s.outPorts f.port v (beAt f.bytes 0 6)).foldl (fun s q =>
      if q = 4 ∨ s.on (F.NP_STAT_LINK q) then s.setNetQueue q (s.netQueue q ++ [{ f with bytes := s.retag v vid q f.bytes }])
      else s) s

/-- FRAME_RX at a port of the switch: `ps` is the measured variable latency, `room` whether packet SRAM had a buffer (log 6). -/
def execFrameRx (p : Nat) (bytes : List Nat) (ps : Nat) (room : Bool) (s : State) : Out :=
  .next (s.whenB (decide (p < 4) && s.inRun 16 && s.on (F.NP_STAT_LINK p) && s.on F.NET_CTRL_EN) fun s =>
    if 2000 < bytes.length + 4 then s
    else if ¬ room then s.sat F.NET_STAT_NOBUF
    else
      let (dt, mono) := if s.on F.PTPA_CTRL_EN then s.ingress p ps else (0, 0)
      let s := match esmcOf bytes with
        | some q => if p < 3 then { s with net := { s.net with esmcQl := put 0 s.net.esmcQl p (q + 1) } }.mark (.esmc p) else s
        | none => s
      s.forward { bytes, port := p, prio := prioOf bytes, stamp := dt, mono })

/-! ### Egress (R291, R292) -/

/-- The frame of a queue that leaves next: the first of the highest priority; and the queue without it. -/
def nextFrame (q : List Frame) : Option (Frame × List Frame) :=
  let top := (q.map (·.prio)).foldl max 0
  match q.find? fun f => decide (f.prio = top) with
  | none => none
  | some f => some (f, q.eraseP fun g => decide (g.prio = top))

/-- Is the message's domain one that TC corrects? -/
def State.tcDomain (s : State) (d : Nat) : Bool :=
  [F.PTPA_TC_DOM_DOM0, F.PTPA_TC_DOM_DOM1, F.PTPA_TC_DOM_DOM2, F.PTPA_TC_DOM_DOM3].any fun f => decide (s.rd f = d)

/-- Transparent-clock correction of a frame that leaves port `p` (R292). -/
def State.tcCorrect (s : State) (p ps : Nat) (f : Frame) : List Nat × State :=
  let ports := s.rd F.PTPA_CTRL_TC_PORTS
  match ptpEvent f.bytes with
  | some (h, t, u) =>
    if s.on F.PTPA_CTRL_EN && s.on F.PTPA_CTRL_TC_EN && decide (f.port < 4) && ports.testBit f.port && ports.testBit p &&
        s.tcDomain (beAt f.bytes (h + 4) 1) then
      let link := if s.on F.PTPA_CTRL_TC_P2P ∧ t = 0 then s.rd (F.NP_LINKDLY_PS f.port) * 65536 / 1000 else 0
      let (bs, held) := addCorrection f.bytes h (((s.egress p ps).2 - f.mono) / 65536 + link : Nat)
      (fixUdp f.bytes bs u, if held then s.wr F.PTPA_EVT_CF_SAT 1 else s)
    else (f.bytes, s)
  | none => (f.bytes, s)

/-- A frame on the wire. -/
def State.emit (s : State) (p : Nat) (bs : List Nat) : State := { s with frames := s.frames ++ [⟨0x100 + p, bs⟩] }

/-- A two-step stamp joins the FIFO, or is lost (R291). -/
def State.pushStamp (s : State) (t : TxStamp) : State :=
  if 64 ≤ s.net.txts.length then s.wr F.PTPA_EVT_TXTS_OVF 1
  else ({ s with net := { s.net with txts := s.net.txts ++ [t] } } : State).pace

/-- The internet checksum of bytes. -/
def checksum (bs : List Nat) : Nat := 65535 - onesSum bs

/-- The UDP checksum of a datagram from its header on, under its addresses. -/
def udpSum (addresses udp : List Nat) : Nat := checksum (addresses ++ beBytes 4 udp.length ++ [0, 0, 0, 17] ++ overwrite udp 6 [0, 0])

/-- The transmit timestamp of an NTP reply is inserted on the wire, and its checksum follows: 0 over IPv4 (R290, R291, R300). -/
def State.ntpStamped (s : State) (bs : List Nat) (dt : Nat) : List Nat :=
  match udpAt bs with
  | none => bs
  | some (u, v) =>
    let bs := overwrite bs (u + 48) (s.ntpTime dt)
    overwrite bs (u + 6) (if v = 4 then [0, 0] else beBytes 2 (udpSum ((bs.drop (u - 32)).take 32) (bs.drop u)))

/-- A frame of firmware leaves port `p` (R291). -/
def State.sendFirmware (s : State) (p ps : Nat) (f : Frame) : State :=
  let dt := (s.egress p ps).1
  if f.flag = 3 then s.emit p (s.ntpStamped f.bytes dt)
  else match ptpAt f.bytes, s.on F.PTPA_CTRL_EN with
  | some (h, u), true =>
    let t := ptpType f.bytes h
    if f.flag = 2 then (s.emit p f.bytes).pushStamp ⟨beAt f.bytes (h + 30) 2, p, beAt f.bytes h 1 % 16, dt⟩
    else if f.flag = 1 ∧ t = 0 then s.emit p (fixUdp f.bytes (overwrite f.bytes (h + 34) (ptpTime dt)) u)
    else if f.flag = 1 ∧ t = 3 then
      let (bs, held) := addCorrection f.bytes h ((((dt : Int) - f.req) / 65536))
      (if held then s.wr F.PTPA_EVT_CF_SAT 1 else s).emit p (fixUdp f.bytes bs u)
    else s.emit p f.bytes
  | _, _ => s.emit p f.bytes

/-- The place of totalTimeInaccuracy in the IEEE_C37_238 TLV of a message whose TLVs begin at `o` (R294; log 179). -/
def inaccuracyAt (bs : List Nat) : Nat → Nat → Option Nat
  | 0, _ => none
  | n + 1, o =>
    if bs.length < o + 4 then none
    else if beAt bs o 2 = 3 ∧ beAt bs (o + 4) 6 = 0x1C129D000002 ∧ o + 20 ≤ bs.length then some (o + 16)
    else inaccuracyAt bs n (o + 4 + beAt bs (o + 2) 2)

/-- What firmware puts into an Announce: clockClass 248 in safe state (R352), and totalTimeInaccuracy in ns from KYO_EST_ERR (R294). -/
def State.announce (s : State) (bs : List Nat) : List Nat :=
  match ptpAt bs with
  | none => bs
  | some (h, u) =>
    if ptpType bs h ≠ 0xB then bs
    else
      let new := if s.on F.OCQ_STAT_SAFE then overwrite bs (h + 48) [248] else bs
      let new := match inaccuracyAt bs 16 (h + 64) with
        | some o => overwrite new o (beBytes 4 (min 0xFFFFFFFF ((s.rd F.KYO_EST_ERR_EST_ERR + 999) / 1000)))
        | none => new
      if new = bs then bs else fixUdp bs new u

/-- A frame that firmware queues for a port joins the port's queue of its priority; a tagged one leaves only to a member of its VLAN (R287,
R291; log 178). -/
def State.queueFirmware (s : State) (p : Nat) (f : TxFrame) : State :=
  let s := s.learn (beAt f.bytes 6 6) 4
  let bs := s.announce f.bytes
  let tag := beAt bs 14 2 % 4096
  let join (s : State) (bytes : List Nat) : State :=
    s.setNetQueue p (s.netQueue p ++ [{ bytes, port := 4, prio := prioOf bs, flag := f.flag, req := f.req }])
  if tagged bs ∧ tag ≠ 0 then
    match s.vlanOf tag with
    | none => s.sat F.NET_STAT_NOVLAN
    | some v => if (s.rd (F.NET_VLAN_MEMBER v)).testBit p then join s (s.retag v tag p bs) else s
  else join s bs

/-- The next frame of a port's queues leaves. -/
def State.transmit (s : State) (p ps : Nat) : State :=
  match nextFrame (s.netQueue p) with
  | none => s
  | some (f, q) =>
    let s := s.setNetQueue p q
    if f.port = 4 then s.sendFirmware p ps f
    else
      let (bs, s) := s.tcCorrect p ps f
      s.emit p bs

/-! ### Firmware's configuration and the master it follows (R282, R293, R294, R296) -/

/-- Firmware of cores 0–3 serves the network while NET is in Run. -/
def State.netFirmware (s : State) : Bool := s.inRun 16 && s.firmware

/-- Is a rate between two powers of two? -/
def rateIn (lo hi x : Int) : Bool := decide (lo ≤ x ∧ x ≤ hi)

/-- Does a profile allow an instance's transport, delay mechanism and message rates (R294)? -/
def ptpLegal (i : PtpInstance) : Bool :=
  match i.profile with
  | 0 => decide (i.transport ≤ 2) && rateIn (-4) 7 i.sync && rateIn (-4) 3 i.announce
  | 1 => decide (i.transport = 0) && !i.p2p && decide (i.sync = 4 ∧ i.delay = 4 ∧ i.announce = 3)
  | 2 => decide (i.transport = 1 ∨ i.transport = 2) && !i.p2p && decide (i.sync ≤ 7 ∧ i.delay ≤ 7)
  | 3 => decide (i.transport = 0) && i.p2p && rateIn 0 7 i.sync && rateIn 0 3 i.delay
  | 4 => decide (i.transport = 0) && i.p2p && decide (i.sync = 0)
  | _ => false

/-- May two instances stand beside each other: on a port of both their transports or domains differ (R293)? -/
def ptpBeside (i j : PtpInstance) : Bool := decide (i.ports &&& j.ports = 0 ∨ i.transport ≠ j.transport ∨ i.domain ≠ j.domain)

/-- No two of a list clash. -/
def pairwise (r : PtpInstance → PtpInstance → Bool) : List PtpInstance → Bool
  | [] => true
  | i :: rest => rest.all (r i) && pairwise r rest

/-- May firmware's network configuration be as given: four instances, one slave, 14-bit NODE_ID, 32 addresses (R293, R294, R306)? -/
def netLegal (c : NetConfig) : Bool :=
  decide (c.instances.length ≤ 4 ∧ (c.instances.filter (·.slave)).length ≤ 1 ∧ c.tdom < 2 ^ 16 ∧ c.nodeId < 2 ^ 14 ∧ c.reportTo.length ≤ 32) &&
    c.instances.all ptpLegal && pairwise ptpBeside c.instances

/-- A configuration is taken up, or refused; a change ends a NODE_ID conflict (R294, R307). -/
def State.configure (s : State) (c : Option NetConfig) : State :=
  match c with
  | none => s
  | some c =>
    if ¬ netLegal c ∨ c = s.net.config then s
    else
      let kept := c.instances.filter (·.slave) = s.net.config.instances.filter (·.slave)
      { s with net := { s.net with
        config := c, conflict := false, masters := if kept then s.net.masters else [], master := if kept then s.net.master else none } }

/-- The best qualified master that is not rejected is selected: two Announces qualify it (R296; log 180). -/
def State.selectMaster (s : State) : State :=
  let able := s.net.masters.filter fun m => !m.rejected && decide (2 ≤ m.heard)
  let best := able.foldl (fun (b : Option Master) m => match b with
    | some x => if m.rank < x.rank then some m else b
    | none => some m) none
  { s with net := { s.net with master := best.map (·.id) } }

/-- An Announce that reaches firmware on a port of the slave instance joins the foreign master list (R296). -/
def State.hearAnnounce (s : State) (f : Frame) : State :=
  match ptpAt f.bytes with
  | none => s
  | some (h, u) =>
    let bs := f.bytes
    let transport := match u with
      | none => 0
      | some (_, v) => if v = 4 then 1 else 2
    let mine := s.net.config.instances.any fun i => i.slave && i.ports.testBit f.port && decide (i.domain = beAt bs (h + 4) 1 ∧ i.transport = transport)
    if ptpType bs h ≠ 0xB ∨ ¬ mine then s
    else
      let id := beAt bs (h + 20) 10
      let rank := beAt bs (h + 47) 16
      let masters := if s.net.masters.any fun m => decide (m.id = id)
        then s.net.masters.map fun m => if m.id = id then { m with rank, heard := m.heard + 1 } else m
        else s.net.masters ++ [{ id, rank }]
      State.selectMaster { s with net := { s.net with masters } }

/-- The selected master is rejected, or forgotten, and another qualified one selected (R282, R296). -/
def State.dropMaster (s : State) (forget : Bool) : State :=
  match s.net.master with
  | none => s
  | some id =>
    let masters := if forget then s.net.masters.filter fun m => decide (m.id ≠ id)
      else s.net.masters.map fun m => if m.id = id then { m with rejected := true } else m
    State.selectMaster { s with net := { s.net with masters } }

/-- The end of a rejection: of the first rejected master. -/
def State.readmitMaster (s : State) : State :=
  match s.net.masters.find? (·.rejected) with
  | none => s.selectMaster
  | some x => State.selectMaster { s with net := { s.net with masters := s.net.masters.map fun m => if m.id = x.id then { m with rejected := false } else m } }

/-! ### What reaches firmware, and what leaves (R287) -/

/-- A frame for firmware behind its 16-byte prefix: ingress port, RTC_STAMP and stamp (R287, R304; their places: log 141). -/
def cpuBytes (f : Frame) : List Nat := [f.port, if f.rtcStamp then 1 else 0] ++ leBytes 14 f.stamp ++ f.bytes

/-- Is the frame a datagram to UDP port 123? -/
def isNtp (bs : List Nat) : Bool := match udpAt bs with
  | some (u, _) => decide (beAt bs (u + 2) 2 = 123)
  | none => false

/-- Firmware takes a frame that it was handed: Announces and NTP requests are what it acts on. -/
def State.firmwareTakes (s : State) (f : Frame) : State :=
  if ¬ s.netFirmware then s
  else
    let s := s.hearAnnounce f
    if isNtp f.bytes then { s with net := { s.net with asks := s.net.asks ++ [f] } } else s

/-- FRAME_TX: the frame that firmware queues for the port, if any, joins its queue, and the next frame of the port's queues leaves. Port 4
hands the frame to firmware. -/
def execFrameTx (p : Nat) (fw : Option TxFrame) (ps : Nat) (s : State) : Out :=
  .next (if ¬ s.inRun 16 then s
    else
      let s := s.whenB s.firmware fun s => s.configure (fw.bind (·.config))
      if p = 4 then (match nextFrame (s.netQueue 4) with
        | some (f, q) => ((s.setNetQueue 4 q).emit 4 (cpuBytes f)).firmwareTakes f
        | none => s)
      else if 4 < p ∨ ¬ s.on (F.NP_STAT_LINK p) then s
      else (match fw with
        | some f => s.queueFirmware p f
        | none => s).transmit p ps)

/-- A read of PTPA_TXTS_INFO pops the FIFO and latches the stamp (R291). -/
def State.popTxts (s : State) (owner : Nat) : State :=
  match s.net.txts with
  | [] => s.okay owner 0
  | t :: rest =>
    let s := ({ s with net := { s.net with txts := rest } } : State).pace
    let s := (s.wr F.PTPA_TXTS_NS_NS (dtNs t.dt)).wr F.PTPA_TXTS_SEC_LO_SEC_LO (dtSec t.dt)
    let s := (s.wr F.PTPA_TXTS_SEC_HI_SEC_HI (dtSec t.dt / 2 ^ 32)).wr F.PTPA_TXTS_SEC_HI_FRAC (dtFrac t.dt)
    s.okay owner (BitVec.ofNat 32 (t.seqId + t.port * 2 ^ 16 + t.msgType * 2 ^ 20 + 2 ^ 31))

def execTxtsPop (owner : Nat) (s : State) : Out := .next (s.readCmd owner Reg.PTPA_TXTS_INFO (·.popTxts owner))

/-- MAC_AGEING: a learned address whose age has reached AGE_S goes. -/
def execMacAgeing (mac : Nat) (s : State) : Out :=
  .next (s.whenB (s.inRun 16 && decide (s.rd F.NET_CTRL_AGE_S ≠ 0 ∧
      s.rd F.NET_CTRL_AGE_S * Config.fclkHz ≤ s.now - look 0 s.net.macSeen mac)) fun s =>
    { s with net := { s.net with macs := put 0 s.net.macs mac 0, macSeen := put 0 s.net.macSeen mac 0 } })

/-! ### Links (R286, R308) -/

/-- LINK_DOWN; `slave`: the port of the selected PTP master, whose announce receipt timeout leads to HOLDOVER. -/
def execLinkDown (p : Nat) (slave : Bool) (s : State) : Out :=
  .next (if 4 ≤ p ∨ ¬ s.on (F.NP_STAT_LINK p) then s
    else
      let s := s.dropLink p
      let s := if p = 3 then s.wr F.NP3_STAT_PLCA_OK 0 else s
      if slave ∧ s.dtOk ∧ s.rd F.KYO_STATE_SOL = 3 then (s.dropMaster true).loseSource else s)

/-- The speed index of R289 of a configured port. -/
def State.speedOf (s : State) (p : Nat) : Nat :=
  match s.rd (F.NP_CFG_MODE p) with
  | 1 => 0
  | 2 => 1
  | 5 => 3
  | _ => 1 + min 2 (s.rd (F.NP_CFG_SPEED p))

/-- May the port's link come up: a mode it supports, its power domain in Run and its clock running (NP3's is REFIN_A, R19), and for NP2 its
balls? In Stop, where no clock monitor runs, a LINK_UP of NP3 says that REFIN_A is there (log 151). -/
def State.linkCan (s : State) (p : Nat) : Bool :=
  let m := s.rd (F.NP_CFG_MODE p)
  let ok := if p ≤ 1 then decide (1 ≤ m ∧ m ≤ 3) else if p = 2 then decide (m = 4) && s.rgmii else decide (m = 5)
  decide (p < 4) && ok && if p = 3 then s.aon && (!s.gone 0 || !s.inRun 1) else s.inRun 16 && decide (s.rd (F.PLL_STAT_STATE 5) = 2 ∨ s.rd (F.PLL_STAT_STATE 5) = 3)

/-- LINK_UP. -/
def execLinkUp (p : Nat) (s : State) : Out :=
  .next (s.whenB (s.linkCan p) fun s =>
    let s := (s.wr (F.NP_STAT_LINK p) 1).wr (F.NP_STAT_S p) (s.speedOf p)
    if p = 3 then (s.wr F.NP3_STAT_PLCA_OK (if s.rd F.NP3_PLCA_NODE_ID = 255 then 0 else 1)).setGone 0 false else s)

/-! ### NP3 while NET is not in Run (R302–R304) -/

/-- One pattern term of the wake filter. -/
def State.patMatch (s : State) (bs : List Nat) (j : Nat) : Bool :=
  let o := min 124 (s.rd (F.NP3_WAKE_PAT_OFS_OFS j))
  let m := s.reg (Reg.NP3_WAKE_PAT_MASK j)
  decide (o + 4 ≤ bs.length ∧ BitVec.ofNat 32 (leNum ((bs.drop o).take 4)) &&& m = s.reg (Reg.NP3_WAKE_PAT_VAL j) &&& m)

/-- Does the frame match the wake filter (R303)? -/
def State.wakeMatch (s : State) (bs : List Nat) : Bool :=
  let da := s.rd F.NP3_WAKE_DA_HI_DA_HI * 2 ^ 32 + s.rd F.NP3_WAKE_DA_LO_DA_LO
  s.on F.NP3_WAKE_CFG_EN && (!s.on F.NP3_WAKE_CFG_DA_EN || decide (beAt bs 0 6 = da)) &&
    (!s.on F.NP3_WAKE_CFG_ETYPE_EN || decide (beAt bs 12 2 = s.rd F.NP3_WAKE_CFG_ETYPE)) &&
    (List.range 4).all fun j => !(s.rd F.NP3_WAKE_CFG_PAT_EN).testBit j || s.patMatch bs j

/-- NP3_FRAME_RX: a Gheand frame goes to the service engine (its own commands); a match wakes and is held, or lost where one is held
already (R303, R316); the rest is dropped. -/
def execNp3FrameRx (bytes : List Nat) (s : State) : Out :=
  .next (s.whenB (s.aon && !s.inRun 16 && s.on F.NP3_STAT_LINK) fun s =>
    if beAt bytes 12 2 = 0x88B5 ∧ (beAt bytes 0 6 = Config.np3Mac ∨ beAt bytes 0 6 = 2 ^ 48 - 1) then s
    else if ¬ s.wakeMatch bytes then s.sat F.NP3_WAKE_STAT_DROPPED
    else
      let f : Frame := { bytes, port := 3, prio := prioOf bytes, stamp := s.rtc.count, rtcStamp := true }
      let s := if s.net.wakeFrame.isSome then s.sat F.NP3_WAKE_STAT_LOST
        else ({ s with net := { s.net with wakeFrame := some f } } : State).wr F.NP3_WAKE_STAT_HELD 1
      s.wake 4 (s.rd F.NP3_WAKE_DOM_DOMAINS))

/-- NET enters Run: firmware sets PTPA_NTP_OFS (R290), NP3's held frame goes to the CPU port, and PLCA synchronises again (R303, R305). -/
def State.handOver (s : State) : State :=
  let s := s.followLeaps
  let s := if s.rd F.NP3_PLCA_NODE_ID = 0 then s else s.wr F.NP3_STAT_PLCA_OK 0
  match s.net.wakeFrame with
  | none => s
  | some f =>
    let s := s.setNetQueue 4 (s.netQueue 4 ++ [f])
    ({ s with net := { s.net with wakeFrame := none } } : State).wr F.NP3_WAKE_STAT_HELD 0

/-! ### Protocol firmware (R293–R300, R306, R307) -/

/-- The direction of the pending leap second: of the first entry of the leap table that takes effect later than DT (log 42). -/
def State.leapDir (s : State) : Int :=
  let table := s.leapTable
  match (table.zip ((0, 32) :: table)).find? fun e => decide (dtSec s.dtNow < e.1.1) with
  | some e => if e.2.2 < e.1.2 then 1 else -1
  | none => 0

/-- An IPv4 or IPv6 header for a UDP datagram of `n` bytes: what the spec leaves open of it is `free` (log 181). -/
def ipHeader (v n : Nat) (src dst free : List Nat) : List Nat :=
  let b (k : Nat) : Nat := free.getD k 0 % 256
  if v = 4 then
    let h := [0x45, b 0] ++ beBytes 2 (20 + n) ++ [b 1, b 2, b 3 % 2 * 64, 0, b 4, 17, 0, 0] ++ src ++ dst
    overwrite h 10 (beBytes 2 (checksum h))
  else [0x60 + b 0 / 16, b 0 % 16 * 16 + b 1 % 16, b 2, b 3] ++ beBytes 2 n ++ [17, b 4] ++ src ++ dst

/-- The frame of an NTP reply to the request in `bs`, whose UDP header stands at `u`: back to the client's addresses and port. -/
def ntpReply (bs : List Nat) (u v : Nat) (body free : List Nat) : List Nat :=
  let o := etherAt bs + 2
  let (src, dst) := if v = 4 then ((bs.drop (o + 12)).take 4, (bs.drop (o + 16)).take 4) else ((bs.drop (o + 8)).take 16, (bs.drop (o + 24)).take 16)
  (bs.drop 6).take 6 ++ bs.take 6 ++ (bs.drop 12).take (o - 12) ++ ipHeader v 56 dst src free ++ beBytes 2 123 ++ (bs.drop u).take 2 ++
    beBytes 2 56 ++ [0, 0] ++ body

/-- The mode, version, poll and transmit timestamp of an NTP message whose UDP header stands at `u`. -/
def ntpFields (bs : List Nat) (u : Nat) : Nat × Nat × Nat × Nat :=
  (beAt bs (u + 8) 1 % 8, beAt bs (u + 8) 1 / 8 % 8, beAt bs (u + 10) 1, beAt bs (u + 48) 8)

/-- The 48 bytes of a reply to a request stamped `rx`; the transmit timestamp is still to come. -/
def State.ntpBody (s : State) (version poll transmit rx steps : Nat) (open0 : List Nat) : List Nat :=
  let st := s.rd F.KYO_STATE_STATE
  let sol := s.rd F.KYO_STATE_SOL
  let li := if s.on F.OCQ_STAT_SAFE ∨ st = 2 ∨ st = 4 then 3 else if s.leapDir = 1 then 1 else if s.leapDir = -1 then 2 else 0
  let gnss := decide (sol = 1 ∨ sol = 2)
  let stratum := if gnss then 1 else if sol = 3 then steps + 1 else open0.getD 0 0 % 256
  let ref := if gnss then [0x47, 0x4E, 0x53, 0x53] else beBytes 4 (open0.getD 1 0)
  [li * 64 + version % 8 * 8 + 4, stratum % 256, poll % 256, open0.getD 0 0 / 256 % 256] ++ beBytes 4 (open0.getD 2 0) ++
    beBytes 4 (open0.getD 3 0) ++ ref ++ beBytes 4 (open0.getD 4 0) ++ beBytes 4 (open0.getD 5 0) ++ beBytes 8 transmit ++
    s.ntpTime rx ++ beBytes 8 0

/-- NTP_REQUEST (R300): firmware takes up request `rx` of those it was handed, whose mode, version, poll and transmit timestamp the command
names, and answers through port `p`; `steps` is the master's stepsRemoved, `ps` the variable latency of the frame that leaves. A request in
another mode, or with an extension field or a MAC behind it, is dropped (R301). -/
def execNtpRequest (mode version poll transmit rx steps p ps : Nat) (s : State) : Out :=
  .next (s.whenB (s.netFirmware && decide (p < 4)) fun s =>
    match s.net.asks[rx]? with
    | none => s
    | some f =>
      let (u, v) := (udpAt f.bytes).getD (0, 4)
      if ntpFields f.bytes u ≠ (mode, version, poll, transmit) then s
      else
        let s : State := { s with net := { s.net with asks := s.net.asks.eraseIdx rx } }
        if mode ≠ 3 ∨ beAt f.bytes (u + 4) 2 ≠ 56 then s
        else
          let sec := dtSec s.dtNow
          let n := if s.net.ntpSec = sec then s.net.ntpCount else 0
          let s : State := { s with net := { s.net with ntpSec := sec, ntpCount := n + 1 } }
          if 20000 ≤ n then s.sat F.PTPA_NTP_DROP_COUNT
          else
            let (open0, s) := s.drawNats 11
            let reply := ntpReply f.bytes u v (s.ntpBody version poll transmit f.stamp steps open0) (open0.drop 6)
            let s := s.sat F.PTPA_NTP_SERVED_COUNT
            s.whenB (s.on (F.NP_STAT_LINK p)) fun s => (s.queueFirmware p { bytes := reply, flag := 3 }).transmit p ps)

/-- REQUEST_UNICAST_TRANSMISSION (R295): a client asks for `rate` Sync and Delay_Resp messages per second in all, for `duration` s; the
GRANT names the client and the duration. -/
def execRequestUnicastTransmission (client rate duration : Nat) (s : State) : Out :=
  .next (s.whenB s.netFirmware fun s =>
    let others := s.net.unicast.filter fun e => decide (e.1 ≠ client ∧ s.time.kyo.mono < e.2.2)
    let total := (others.map (·.2.1)).foldl (· + ·) 0
    if 1024 ≤ others.length ∨ 65536 < total + rate then
      (s.wr F.PTPA_EVT_UC_REFUSED 1).say 0x201 (beBytes 4 client ++ beBytes 4 0)
    else
      let ends := s.time.kyo.mono + duration * Config.dtSecond
      let unicast := if duration = 0 then others else others ++ [(client, rate, ends)]
      ({ s with net := { s.net with unicast } } : State).say 0x201 (beBytes 4 client ++ beBytes 4 duration))

/-- ANNOUNCE_RECEIPT_TIMEOUT of the selected master: firmware forgets it, selects another, and commands HOLDOVER (R296). -/
def execAnnounceReceiptTimeout (s : State) : Out :=
  .next (s.whenB (s.netFirmware && s.dtOk && decide (s.rd F.KYO_STATE_SOL = 3)) fun s => (s.dropMaster true).loseSource)

/-- The QL codes of ITU-T G.8264: DNU, and of the held clock under option 1 (SEC) and 2 (ST3) (log 41). -/
def qlDnu : Nat := 0xF
def qlHeld (option2 : Bool) : Nat := if option2 then 0xA else 0xB

/-- The QL sent on port `p` (R299): `qlA` and `qlB` are those configured for REFIN_A and REFIN_B. -/
def State.qlSent (s : State) (option2 : Bool) (qlA qlB p : Nat) : Nat × State :=
  let st := s.rd (F.PLL_STAT_STATE 5)
  let input := (look {} s.rf.plls 5).input
  let locked := decide (st = 2)
  if (locked || decide (st = 3)) && decide (input = p + 2) then (qlDnu, s)
  else if st = 3 then (qlHeld option2, s)
  else if locked && decide (2 ≤ input) then
    let q := look 0 s.net.esmcQl (input - 2)
    if q = 0 ∨ q = 256 then s.draw else (q - 1, s)
  else if locked then ((if input = 0 then qlA else qlB), s)
  else s.draw

/-- An ESMC PDU with a QL, as an information or an event PDU (R299; log 41). -/
def State.esmcPdu (s : State) (event : Bool) (ql : Nat) : List Nat :=
  [0x01, 0x80, 0xC2, 0, 0, 2] ++ beBytes 6 s.net.config.mac ++ [0x88, 0x09, 0x0A, 0, 0x19, 0xA7, 0, 1, if event then 0x18 else 0x10, 0, 0, 0] ++
    [1, 0, 4, ql % 16] ++ List.replicate 32 0

/-- ESMC_PDU_SEND: on each of NP0–NP2 whose link is up an information PDU, or, on those whose transmitted QL has changed, an event PDU; they
join queue 7. -/
def execEsmcPduSend (event option2 : Bool) (qlA qlB : Nat) (s : State) : Out :=
  .next (s.whenB s.netFirmware fun s =>
    [0, 1, 2].foldl (fun s p =>
      if s.on (F.NP_STAT_LINK p) then
        let (q, s) := s.qlSent option2 qlA qlB p
        let q := q % 16
        if event ∧ look 0 s.net.qlTold p = q + 1 then s
        else ({ s with net := { s.net with qlTold := put 0 s.net.qlTold p (q + 1) } } : State).queueFirmware p { bytes := s.esmcPdu event q }
      else s) s)

/-- ESMC_TIMEOUT: 5 s without a valid PDU (R299). -/
def execEsmcTimeout (p : Nat) (s : State) : Out :=
  .next (s.whenB (s.netFirmware && decide (p < 3) && s.ranMs (.esmc p) 5000) fun s => { s with net := { s.net with esmcQl := put 0 s.net.esmcQl p 256 } })

/-- The farthest peer. -/
def farthest (ps : List Peer) : Nat := (ps.map (·.dist)).foldl max 0

/-- A peer's report is kept: its own, a new one of up to 32, or in place of the farthest (R306). -/
def State.keepPeer (s : State) (x : Peer) : State :=
  let others := s.net.peers.filter fun y => decide (y.node ≠ x.node)
  let far := farthest others
  let peers := if others.length < 32 then others ++ [x]
    else if x.dist < far then (others.eraseP fun y => decide (y.dist = far)) ++ [x] else others
  { s with net := { s.net with peers } }

/-- The epoch of a peer's report, in DT ms. -/
def reportEpoch (bs : List Nat) : Nat := leNum ((bs.drop 8).take 6) * 1000 + leNum ((bs.drop 14).take 2)

/-- The square of the distance from a position (in 10 m) to the reported one. -/
def reportDist (bs : List Nat) (x y z : Int) : Nat :=
  let off (o : Nat) (v : Int) : Nat := ((signed 32 (leNum ((bs.drop o).take 4)) - v) ^ 2).toNat
  off 16 x + off 20 y + off 24 z

/-- PEER_REPORT (R306, R307): the report, and the device's own position in 10 m. One that comes more than 300 ms after its epoch is discarded. -/
def execPeerReport (report : PeerDatagram) (x y z : Int) (s : State) : Out :=
  let ownAddress := report.own
  let report := report.bytes
  let node := leNum ((report.drop 2).take 2) % 16384
  .next (s.whenB (s.netFirmware && decide (leNum (report.take 2) = s.net.config.tdom)) fun s =>
    if node = s.net.config.nodeId then
      if ownAddress ∨ s.net.conflict then s
      else (({ s with net := { s.net with conflict := true } } : State).timeCrumb 2 0).say 0x204 [2]
    else if (reportEpoch report + 300) * 1000000 < inNs s.dtNow then s
    else s.keepPeer ⟨node, reportDist report x y z, report⟩)

/-- The frame of a peer report to one destination: the MAC of a group follows its address, that of a unicast address is free (log 181). -/
def State.reportFrame (s : State) (payload : List Nat) (dest : Bool × Nat) : List Nat × State :=
  let (free, s) := s.drawNats 7
  let c := s.net.config
  let group := if dest.1 then decide (dest.2 / 2 ^ 120 = 0xFF) else decide (dest.2 / 2 ^ 28 = 0xE)
  let mac := if ¬ group then free.getD 5 0 else if dest.1 then 0x333300000000 + dest.2 % 2 ^ 32 else 0x01005E000000 + dest.2 % 2 ^ 23
  let (src, dst) := if dest.1 then (beBytes 16 c.ip6, beBytes 16 dest.2) else (beBytes 4 c.ip4, beBytes 4 dest.2)
  let udp := beBytes 2 (free.getD 6 0) ++ beBytes 2 47480 ++ beBytes 2 (8 + payload.length) ++ [0, 0] ++ payload
  (beBytes 6 mac ++ beBytes 6 c.mac ++ (if dest.1 then [0x86, 0xDD] else [8, 0]) ++ ipHeader (if dest.1 then 6 else 4) udp.length src dst free ++
    overwrite udp 6 (beBytes 2 (udpSum (src ++ dst) udp)), s)

/-- A peer report's payload. -/
def State.reportPayload (s : State) (sec ms : Nat) (x y z : Int) (sats : List (Nat × Nat × Int)) : List Nat :=
  let sol := s.rd F.KYO_STATE_SOL
  let flags := (if sol = 1 ∨ sol = 2 then 1 else 0) + (if s.nav.checks.any (·.inForce) then 2 else 0)
  leBytes 2 s.net.config.tdom ++ leBytes 2 s.net.config.nodeId ++ leBytes 4 s.net.reportSeq ++ leBytes 6 sec ++ leBytes 2 ms ++
    leBytes 4 (unsigned 32 x) ++ leBytes 4 (unsigned 32 y) ++ leBytes 4 (unsigned 32 z) ++ [sats.length, flags, 0, 0] ++
    sats.flatMap fun e => [e.1 % 256, 0] ++ leBytes 2 e.2.1 ++ leBytes 4 (unsigned 32 e.2.2)

/-- PEER_REPORT_SEND (R306): the epoch (DT seconds and ms), the position in 10 m, and for each satellite its signal ID, SV and residual
in 0.1 ns; a host frame in a UDP datagram to every destination of firmware's configuration. -/
def execPeerReportSend (sec ms : Nat) (x y z : Int) (sats : List (Nat × Nat × Int)) (s : State) : Out :=
  .next (s.whenB (s.netFirmware && !s.net.conflict) fun s =>
    let payload := frameBytes 0x30 (s.reportPayload sec ms x y z (sats.take 64))
    let s := { s with net := { s.net with reportSeq := (s.net.reportSeq + 1) % 2 ^ 32 } }
    s.net.config.reportTo.foldl (fun s dest =>
      let (bs, s) := s.reportFrame payload dest
      s.forward { bytes := bs, port := 4, prio := prioOf bs }) s)

/-! ### SUSPECT_EXPIRY (R282, R296) -/

/-- SUSPECT_EXPIRY: the master's offset (source − DT, in ns) after 8 sync intervals of SUSPECT, in which only a DT ahead of the master
counts; of the first rejected master, the greatest offset of 8 intervals, which must lie within the threshold either way (log 180). -/
def execSuspectExpiry (offsetNs : Int) (s : State) : Out :=
  let thresh := s.rd F.KYO_STEP_THRESH_THRESH
  .next (s.whenB (s.dtOk && s.firmware) fun s =>
    if s.on F.KYO_STATE_SUSPECT then
      let s := s.kyoSuspect false
      if -offsetNs < thresh then s
      else if s.on F.KYO_CTRL_STEP_BACK_ALLOW then
        let s := s.setReg Reg.KYO_STEP_SEC (BitVec.ofInt 32 (Int.tdiv offsetNs 1000000000))
        let s := s.setReg Reg.KYO_STEP_NS (BitVec.ofInt 32 (Int.tmod offsetNs 1000000000))
        s.armStep
      else
        let s := ((s.loseSource.event F.KYO_EVT_MASTER_BACK).timeCrumb 1 (offsetNs * 1000)).say 0x204 [1]
        (s.setKyo { s.time.kyo with rejected := true }).dropMaster false
    else if s.time.kyo.rejected ∧ offsetNs.natAbs < thresh then
      let s := s.readmitMaster
      s.setKyo { s.time.kyo with rejected := s.net.masters.any (·.rejected) }
    else s)

end Sys2Proof.Machine
end

