-- ==== Sys2Proof/Machine/Mill.lean ====
section
/-! DEFINITION. Acquisition: the Mill's plans, captures, searches and results, and the ring's pins (R114, R201–R219). How a point between
samples is taken, and how the transforms round and scale, are free functions (log 37): the spec gives them no arithmetic. -/

namespace Sys2Proof.Machine

/-! ### Entries (R204) -/

/-- A field of a plan entry, by byte offset of its word. -/
def MillEntry.f (e : MillEntry) (off lo w : Nat) : Nat := bits (e.words.getD (off / 4) 0) lo w

/-- A field of the generator copy, by its offset in the context. -/
def MillEntry.g (e : MillEntry) (off lo w : Nat) : Nat := bits (e.gen.getD ((off - 0x80) / 4) 0) lo w

def MillEntry.spectrum (e : MillEntry) : Bool := decide (e.f 0 0 1 = 1)
def MillEntry.points (e : MillEntry) : Nat := 2 ^ e.f 0 8 5
def MillEntry.coh (e : MillEntry) : Nat := e.f 4 16 6
def MillEntry.ncoh (e : MillEntry) : Nat := e.f 4 24 8
/-- Bins to run; a spectrum is one. -/
def MillEntry.bins (e : MillEntry) : Nat := if e.spectrum then 1 else e.f 0x1C 0 8
def MillEntry.codeLen (e : MillEntry) : Nat := max 1 (e.g 0x84 0 24)

/-- The code rate of bin `b`, 2^-32 chip per sample (R209). -/
def MillEntry.rateOf (e : MillEntry) (b : Nat) : Int :=
  ((e.f 0x24 0 2 * 2 ^ 32 + e.f 0x20 0 32 : Nat) : Int) + b * signed 32 (e.f 0x28 0 32)

/-- Bytes, and so samples, of the snapshot. -/
def MillEntry.samples (e : MillEntry) : Nat := e.blocks * samplesOf e.rate

/-- Do the snapshots of two entries share a byte? -/
def rangesMeet (a n b k : Nat) : Bool := decide (a < b + k ∧ b < a + n)

/-- The checks of R127, R129 and R132 on the generator copy. -/
def MillEntry.genBad (e : MillEntry) : Bool :=
  let mode := e.g 0x80 0 2
  let sc := e.g 0xB0 0 3
  let wide := if sc = 5 then 2 else 1
  decide (mode = 3) || (decide (mode = 2) && !inCode (e.g 0xA4 0 21) ((e.codeLen * wide + 7) / 8)) ||
    (decide (e.g 0xAC 12 1 = 1) && !inCode (e.g 0xA8 0 21) ((e.g 0xAC 0 12 * wide + 7) / 8)) ||
    decide (6 ≤ sc ∨ (sc = 3 ∧ 16 < e.g 0xB0 13 4 + e.g 0xB0 17 4) ∨ (sc = 5 ∧ mode ≠ 2))

/-- CFG_ERR (R211, R216): what a spectrum does not use is not checked. -/
def MillEntry.bad (e : MillEntry) : Bool :=
  let log2n := e.f 0 8 5
  let range := decide (log2n < 10 ∨ 16 < log2n ∨ e.coh = 0 ∨ e.ncoh = 0 ∨ e.f 0x1C 0 8 = 0 ∨ 0x100000 < e.addr + e.samples)
  let fits (b : Nat) : Bool := decide (((e.ncoh * e.coh * e.codeLen * 2 ^ 32 : Nat) : Int) ≤ e.samples * e.rateOf b)
  range ||
    if e.spectrum then decide (e.samples < e.ncoh * e.points)
    else decide (e.points < e.coh * e.codeLen) || !((List.range e.bins).all fits) || e.genBad ||
      decide (e.codeLen < e.f 0x30 0 24 ∨ e.codeLen < e.f 0x30 0 24 + e.f 0x34 0 24)

/-! ### The Mill's status and entries -/

/-- MILL_STAT follows the entries and units; the vote of MILL_HOLD with them (R309). -/
def State.millShow (s : State) : State :=
  let n := s.mill.entries.length
  let holds (p : Option Pin) : Nat := if p.isSome then 1 else 0
  let s := s.wr F.MILL_STAT_INFLIGHT n
  let s := s.wr F.MILL_STAT_STATE (if n ≠ 0 then 2 else if s.on F.MILL_CTRL_EN then 1 else 0)
  let s := s.wr F.MILL_STAT_CAPTURES (holds s.sample.pin0 + holds s.sample.pin1)
  let s := (List.range 4).foldl (fun s u => s.wr ⟨Reg.MILL_STAT, 2 + u, 1⟩ (if look 0 s.mill.units u = 0 then 0 else 1)) s
  s.settle

def State.setMillEntries (s : State) (es : List MillEntry) : State := { s with mill := { s.mill with entries := es } }

/-- The entry in a replica slot. -/
def State.millEntry (s : State) (slot : Nat) : Option MillEntry := s.mill.entries.find? fun e => decide (e.slot = slot)

/-- An entry changes. -/
def State.putMillEntry (s : State) (e : MillEntry) : State :=
  s.setMillEntries (s.mill.entries.map fun x => if x.slot = e.slot then e else x)

/-- Is a byte range inside system SRAM? -/
def inSram (a n : Nat) : Bool := decide (0x10000000 ≤ a ∧ a + n ≤ 0x10800000)

/-- Words the spec states no value for (log 5). -/
def State.drawWords (s : State) : Nat → List Word × State
  | 0 => ([], s)
  | n + 1 =>
    let (v, s) := s.draw
    let (vs, s) := s.drawWords n
    (BitVec.ofNat 32 v :: vs, s)

/-- A completed entry's result: record, then WR, then MILL_EVT, then the signal (R214). -/
def State.millRecord (s : State) (e : MillEntry) (status : Nat) (words : List Word) : State :=
  let base := (s.reg Reg.MILL_HIT_BASE).toNat
  let size := 2 ^ (max 2 (min 10 (s.rd F.MILL_HIT_CFG_LOG2SIZE)))
  let wr := s.rd F.MILL_HIT_WR_INDEX
  let full := decide ((wr + 1) % size = s.rd F.MILL_HIT_RD_INDEX % size)
  let head := BitVec.ofNat 32 (e.f 4 0 16 + e.stream % 32 * 2 ^ 16 + status * 2 ^ 21 + e.f 0 0 1 * 2 ^ 24)
  let s := if full then (s.sat F.MILL_HIT_DROP_COUNT).wr F.MILL_EVT_DROP 1
    else if inSram (base + 64 * wr) 64 ∧ base % 64 = 0 then
      (s.putWords (base + 64 * wr) (head :: words ++ [0])).wr F.MILL_HIT_WR_INDEX ((wr + 1) % size)
    else s
  let s := if status = 0 then s.wr F.MILL_EVT_HIT 1 else s
  let s := if status = 5 then s.wr F.MILL_EVT_CFG_ERR 1 else s
  let s := if (2 ≤ status ∧ status ≤ 4) ∨ status = 7 then s.wr F.MILL_EVT_SNAP 1 else s
  let s := s.pace.event F.MILL_EVT_DONE
  if e.f 0 13 1 = 1 then s.setSignal (e.f 0 14 5) else s

/-- SEQ and block tag of the snapshot's first block; open where no block was captured. -/
def State.millTag (s : State) (e : MillEntry) : List Word × State :=
  match e.tag with
  | some t => ([BitVec.ofNat 32 e.first, BitVec.ofNat 32 (dtNs t), BitVec.ofNat 32 (dtSec t),
      BitVec.ofNat 32 (dtSec t / 2 ^ 32 + 65536 * dtFrac t)], s)
  | none => s.drawWords 4

/-- A pin of the entry in replica slot `slot` loses its entry, but holds until its copy ends or times out (R114, R115). -/
def Pin.orphan (slot : Nat) (p : Pin) : Pin := if p.entry = some slot then { p with entry := none } else p

/-- The entry leaves flight, and its units' bins go. -/
def State.dropEntry (s : State) (slot : Nat) : State :=
  let s := s.setPins (s.sample.pin0.map (·.orphan slot)) (s.sample.pin1.map (·.orphan slot))
  let units := s.mill.units.filter fun u => decide (u.2 / 256 ≠ slot)
  { s with mill := { s.mill with entries := s.mill.entries.filter (fun e => decide (e.slot ≠ slot)), units } }

/-- An entry completes without a search: what a search would have found is open. -/
def State.millFail (s : State) (e : MillEntry) (status : Nat) : State :=
  let (tag, s) := (s.dropEntry e.slot).millTag e
  let (rest, s) := s.drawWords 10
  s.millRecord e status (tag ++ rest)

/-- A capture fails: reusing entries that wait on it complete with CFG_ERR (R206, R219). -/
def State.captureFails (s : State) (e : MillEntry) (status : Nat) : State :=
  let waiting := s.mill.entries.filter fun x => decide (x.phase = .reusing e.slot)
  (waiting.foldl (fun s x => s.millFail x 5) (s.millFail e status)).millShow

/-! ### Plans (R203, R205–R207) -/

/-- A write of MILL_PLAN_TAIL (R203). -/
def State.planTail (s : State) (v : Nat) : State := s.wr F.MILL_PLAN_TAIL_INDEX v

/-- PLAN_DOORBELL. -/
def execPlanDoorbell (owner tail : Nat) (s : State) : Out := .next (s.command owner Reg.MILL_PLAN_TAIL (·.planTail tail))

/-- The capture in progress at `addr` that a reusing entry names: the latest fetched. -/
def State.captureAt (s : State) (addr : Nat) : Option MillEntry :=
  s.mill.entries.reverse.find? fun e =>
    decide (e.addr = addr ∧ (e.phase = .trigger ∨ e.phase = .boundary ∨ e.phase = .capturing))

/-- A reusing entry takes a recorded capture. -/
def MillEntry.reuse (e : MillEntry) (c : MillCapture) : MillEntry :=
  { e with stream := c.stream, rate := c.rate, blocks := c.blocks, first := c.first, tag := some c.tag, phase := .searching }

/-- A reusing entry begins: its capture in progress, its recorded capture, or CFG_ERR (R207). -/
def State.startReuse (s : State) (e : MillEntry) : State :=
  match s.captureAt e.addr, s.mill.captures.find? fun c => decide (c.addr = e.addr) with
  | some c, _ => s.setMillEntries (s.mill.entries ++ [{ e with phase := .reusing c.slot, stream := c.stream, rate := c.rate, blocks := c.blocks }])
  | none, some c => if (e.reuse c).bad then s.millFail (e.reuse c) 5 else s.setMillEntries (s.mill.entries ++ [e.reuse c])
  | none, none => s.millFail e 5

/-- Is the stream OFF or in ERROR? -/
def State.streamIdle (s : State) (n : Nat) : Bool :=
  decide (24 ≤ n ∨ s.rd (F.CHZ_STR_STAT_STATE n) = 0 ∨ s.rd (F.CHZ_STR_STAT_STATE n) = 3)

/-- A capturing entry begins (R205, R206, R211). -/
def State.startCapture (s : State) (e : MillEntry) : State :=
  if s.streamIdle e.stream then s.millFail e 7
  else if e.bad then s.millFail e 5
  else s.setMillEntries (s.mill.entries ++ [e])

/-- PLAN_FETCH: the next plan entry is fetched into the lowest free slot and HEAD advances. -/
def execPlanFetch (s : State) : Out :=
  let size := 2 ^ (max 2 (min 10 (s.rd F.MILL_PLAN_CFG_LOG2SIZE)))
  let head := s.rd F.MILL_PLAN_HEAD_INDEX % size
  let a := (s.reg Reg.MILL_PLAN_BASE).toNat + 64 * head
  .next (match (List.range 4).find? fun k => (s.millEntry k).isNone with
  | none => s
  | some slot =>
    if ¬ (s.inRun 14 && s.on F.MILL_CTRL_EN) ∨ head = s.rd F.MILL_PLAN_TAIL_INDEX % size ∨ ¬ inSram a 64 ∨ a % 64 ≠ 0 then s
    else
      let words := (List.range 16).map fun j => s.seen (a + 4 * j) j
      let s := s.readDone 0 a 16
      let ctrl := words.getD 0 0
      let stream := bits ctrl 3 5
      let g := ctxAddr (bits (words.getD 11 0) 0 12) + 0x80
      let snap := bits ctrl 1 2
      let phase := if snap = 1 then MillPhase.capturing else if snap = 2 then .trigger else .boundary
      let e : MillEntry := {
        slot, words, phase, stream, gen := (List.range 22).map fun j => s.seen (g + 4 * j) j
        rate := if s.streamRuns stream then (s.stream stream).cfg.rate else s.cfgRate stream, starting := !s.streamRuns stream
        addr := bits (words.getD 2 0) 0 20, blocks := bits (words.getD 3 0) 0 9
        first := if snap = 1 then (words.getD 4 0).toNat else 0 }
      let s := (s.readDone 0 g 22).wr F.MILL_PLAN_HEAD_INDEX ((head + 1) % size)
      (if snap = 3 then s.startReuse e else s.startCapture e).millShow)

/-! ### Captures and pins (R114, R205–R207) -/

/-- Bytes that an entry reads from its SNAP_ADDR on: those of its capture, its own or the one it waits for (R207). -/
def State.readsOf (s : State) (x : MillEntry) : Nat :=
  match x.phase with
  | .reusing k => ((s.millEntry k).map (·.samples)).getD 0
  | _ => x.samples

/-- Must the capture wait for an entry that reads its range: one fetched before it, or one that searches it (R207)? -/
def State.captureBlocked (s : State) (e : MillEntry) : Bool :=
  let before := s.mill.entries.takeWhile fun x => decide (x.slot ≠ e.slot)
  s.mill.entries.any fun x => decide (x.slot ≠ e.slot) && rangesMeet e.addr e.samples x.addr (s.readsOf x) &&
    (decide (x.phase = .searching) || before.any fun y => decide (y.slot = x.slot))

def State.pinOf (s : State) (slot : Nat) : Option Pin := if slot = 0 then s.sample.pin0 else s.sample.pin1

def State.setPin (s : State) (slot : Nat) (p : Option Pin) : State :=
  if slot = 0 then s.setPins p s.sample.pin1 else s.setPins s.sample.pin0 p

/-- Does the entry hold a pin? -/
def State.holdsPin (s : State) (slot : Nat) : Bool :=
  [s.sample.pin0, s.sample.pin1].any fun p => p.any fun p => decide (p.entry = some slot)

/-- Has the block left its window, so that no pin can be granted on it? -/
def State.blockGone (s : State) (n seq : Nat) : Bool :=
  match s.blockOf n seq with
  | some b => !b.window
  | none => decide (seq < (s.stream n).nextSeq)

/-- Does the entry ask for a pin: its next block is complete, or gone? -/
def State.asksPin (s : State) (e : MillEntry) : Bool :=
  let seq := e.first + e.copied
  decide (e.phase = .capturing) && !s.holdsPin e.slot && (decide (e.copied ≠ 0) || !s.captureBlocked e) &&
    ((s.blockOf e.stream seq).any (·.complete) || s.blockGone e.stream seq)

/-- Is the window of the block open for more than PIN_GUARD µs, as adopted at the boundary? -/
def State.guardOk (s : State) (n : Nat) (b : Block) : Bool := decide (bits s.sample.ringCtrl 0 8 * 49152 < s.windowLeft n b * 100)

/-- A capture that begins evicts every record it overlaps (R207). -/
def State.evict (s : State) (e : MillEntry) : State :=
  let keep (c : MillCapture) : Bool := !rangesMeet e.addr e.samples c.addr (c.blocks * samplesOf c.rate)
  { s with mill := { s.mill with captures := s.mill.captures.filter keep } }

/-- The first block of a capture gives it its tag, and evicts the records it overlaps. -/
def State.firstPin (s : State) (e : MillEntry) (b : Block) : State :=
  if e.copied = 0 then (s.evict e).putMillEntry { e with tag := some b.tag } else s

/-- PIN_GRANT: the first entry that asks gets the free pin slot, with the block's descriptor, or is refused as late. -/
def execPinGrant (slot : Nat) (s : State) : Out :=
  .next (match decide (slot < 2) && (s.pinOf slot).isNone && s.inRun 14, s.mill.entries.find? s.asksPin with
  | true, some e =>
    let seq := e.first + e.copied
    match (s.blockOf e.stream seq).filter fun b => b.window && s.guardOk e.stream b with
    | none => (s.wr F.RING_EVT_PIN_LATE 1).captureFails e 3
    | some b => ((s.firstPin e b).setPin slot (some ⟨e.stream, b, some e.slot, s.now⟩)).millShow
  | _, _ => s)

/-- PIN_TIMEOUT: a pin held for PIN_MAX µs, 0 acting as 1, is released and its copy fails. While the Mill drains, its entry goes on to be
abandoned (R219). -/
def execPinTimeout (slot : Nat) (s : State) : Out :=
  .next (match s.pinOf slot with
  | none => s
  | some p =>
    if (s.now - p.since) * 100 < max 1 (bits s.sample.ringCtrl 8 8) * 49152 then s
    else
      let s := (s.setPin slot none).wr F.RING_EVT_PIN_TIMEOUT 1
      match p.entry.bind s.millEntry, s.inRun 14 with
      | some e, true => s.captureFails e 4
      | _, _ => s.millShow)

/-- The capture of an entry is complete: recorded, searched, and handed to the entries that wait for it (R207). -/
def State.captureDone (s : State) (e : MillEntry) : State :=
  let c : MillCapture := ⟨e.addr, e.stream, e.blocks, e.first, e.tag.getD 0, e.rate⟩
  let s := { s with mill := { s.mill with captures := (c :: s.mill.captures).take 16 } }
  let s := s.putMillEntry { e with phase := .searching }
  s.mill.entries.foldl (fun s x =>
    if x.phase = .reusing e.slot then
      if (x.reuse c).bad then s.millFail (x.reuse c) 5 else s.putMillEntry (x.reuse c)
    else s) s

/-- The pinned block `b` of a capture is in the snapshot area, or was invalid. -/
def State.blockCopied (s : State) (e : MillEntry) (b : Block) : State :=
  if ¬ b.valid then s.captureFails e 2
  else
    let s := (s.eccScan 0 .ring b.addr b.len).stBytes (0x28000000 + e.addr + e.copied * b.len) (s.ldBytes b.addr b.len)
    let e := { e with copied := e.copied + 1 }
    let s := s.putMillEntry e
    (if e.copied = e.blocks then s.captureDone e else s).millShow

/-- CAPTURE_BLOCK_COPY: the copy of the block in pin slot `k` has ended; its pin is released. -/
def execCaptureBlockCopy (k : Nat) (s : State) : Out :=
  .next (match s.pinOf k with
  | none => s
  | some p =>
    let s := s.setPin k none
    match p.entry.bind s.millEntry, s.inRun 14 with
    | some e, true => s.blockCopied e p.block
    | _, _ => s.millShow)

/-- A capture whose first block begins at this boundary takes the stream as it is now; what it was checked by may have changed (R211). -/
def State.captureBegins (s : State) (e : MillEntry) : State :=
  let x := s.stream e.stream
  let e := { e with phase := .capturing, first := x.nextSeq - 1, rate := x.cfg.rate, starting := false }
  if e.bad then s.captureFails e 5 else s.putMillEntry e

/-- A grid boundary gives waiting captures their first block, and fails those whose stream stopped or restarted (R205, R206). -/
def State.millBoundary (s : State) : State :=
  s.mill.entries.foldl (fun s e =>
    let n := e.stream
    match e.phase with
    | .boundary => if s.streamRuns n then s.captureBegins e else s.captureFails e 4
    | .trigger => if s.streamRuns n then s.putMillEntry { e with starting := false } else s.captureFails e 4
    | .capturing =>
      if s.streamRuns n ∧ e.starting then
        let e := { e with starting := false, rate := (s.stream n).cfg.rate }
        if e.bad then s.captureFails e 5 else s.putMillEntry e
      else if s.streamRuns n ∧ (s.stream n).nextSeq ≠ 1 then s
      else s.captureFails e 4
    | _ => s) s

/-! ### Searching (R209, R210, R212, R213, R216) -/

/-- The bin that unit `u` runs. -/
def State.unitBin (s : State) (u : Nat) : Option (Nat × Nat) :=
  let v := look 0 s.mill.units u
  if v = 0 then none else some (v / 256, v % 256 - 1)

/-- FCLK of one coherent cell as the Proofer charges it (R319). -/
def MillEntry.cellFclk (e : MillEntry) : Nat := (if e.spectrum then 3 else 4) * e.points / 8

/-- Energy of one coherent cell, in 1/256 fJ (R319). -/
def State.cellEnergy (s : State) (e : MillEntry) : Nat := e.cellFclk * s.rd F.PRF_EMILL_FJ * 256

/-- Cells of a bin that would run before the slice ends, the first always. -/
def State.cellsNow (s : State) (e : MillEntry) : Nat :=
  let left := 491520 - (s.now - s.sample.boundaryNow) % 491520
  min e.ncoh ((left + e.cellFclk - 1) / max 1 e.cellFclk)

/-- Those of them that `funds` pays for. -/
def State.cellsPaid (s : State) (e : MillEntry) (funds : Nat) : Nat :=
  if s.cellEnergy e = 0 then s.cellsNow e else min (s.cellsNow e) (funds / s.cellEnergy e)

/-- The Mill is held, or not (R218). -/
def State.holdMill (s : State) (held : Bool) : State :=
  let v := if held then 1 else 0
  (s.wr F.PRF_STAT_MILL_HELD v).whenB (s.inRun 14) fun s => s.wr F.MILL_STAT_HELD v

/-- The 256 KiB regions of an entry's replica slot, and of a unit's workspace (R202). -/
def replicaRegion (slot : Nat) : Nat := 0xA04 + slot
def workRegions (u : Nat) : List Nat := [0xA08 + 2 * u, 0xA09 + 2 * u]

/-! #### What a bin computes (R209, R210, R216) -/

/-- Chips in one coherent cell. -/
def MillEntry.cellChips (e : MillEntry) : Nat := e.coh * e.codeLen

/-- Bit `c` of the entry's primary code, INVERT applied; `side` 1 is the B code of AltBOC, behind the A code (R127, R128, R132). -/
def State.replicaBit (s : State) (e : MillEntry) (c side : Nat) : Nat :=
  let arst := e.g 0xD4 0 24
  let a := lfsrRun (e.g 0x88 0 27) (e.g 0x80 3 5) (e.g 0x8C 0 27) (if arst = 0 then c else c % arst)
  let b := lfsrRun (e.g 0x94 0 27) (e.g 0x80 8 5) (e.g 0x98 0 27) c
  let bo := e.g 0xA0 0 27
  let raw := match e.g 0x80 0 2 with
    | 0 => (a % 2 + if bo = 0 then b % 2 else parity 27 (b &&& bo)) % 2
    | 1 => a % 2
    | _ => s.codeBit (e.g 0xA4 0 21) (c + side * e.codeLen)
  (raw + e.g 0x80 2 1) % 2

/-- The replica's point for chip `c` at fraction `f` (2^-32): the code with its subcarrier, no secondary code and no data wipe (R210). -/
def State.replicaPoint (s : State) (e : MillEntry) (c f : Nat) : Int × Int :=
  let h := e.g 0xB0 3 5
  let second := sineSub (e.g 0xB0 8 5) f
  let chip := signOf (s.replicaBit e c 0)
  match e.g 0xB0 0 3 with
  | 1 => (chip * sineSub h f, 0)
  | 2 => (chip * cosineSub h f, 0)
  | 3 => (chip * (e.g 0xB0 13 4 * sineSub h f + (if e.g 0xB0 21 1 = 1 then -1 else 1) * e.g 0xB0 17 4 * second), 0)
  | 4 => (chip * (if (e.g 0xB4 0 32 + e.g 0xB8 0 1 * 2 ^ 32).testBit (c % 33) then second else sineSub h f), 0)
  | 5 =>
    let b := s.byte (0x34000000 + e.g 0xBC 0 21 + Config.altIndex (f * h * 4 / 2 ^ 32 % 8) (s.replicaBit e c 0) (s.replicaBit e c 1) % 32)
    (signed 4 b.toNat, signed 4 (b.toNat / 16))
  | _ => (chip, 0)

/-- The N points of the replica: point `i` lies i × Δτ chips into the code. -/
def State.replica (s : State) (e : MillEntry) : List (Int × Int) :=
  (List.range e.points).map fun i =>
    let x := i * e.cellChips * 2 ^ 32 / e.points
    s.replicaPoint e (x / 2 ^ 32 % e.codeLen) (x % 2 ^ 32)

/-- The code memory that a replica is made from (R129, R132). -/
def MillEntry.codeReads (e : MillEntry) : List (Nat × Nat) :=
  let wide := if e.g 0xB0 0 3 = 5 then 2 else 1
  (if e.g 0x80 0 2 = 2 then [(e.g 0xA4 0 21, (e.codeLen * wide + 7) / 8)] else []) ++ (if e.g 0xB0 0 3 = 5 then [(e.g 0xBC 0 21, 32)] else [])

/-- An entry's replica is made, once, with its first bin; from code with an uncorrectable error it is open (R210; log 150). -/
def State.makeReplica (s : State) (e : MillEntry) : MillEntry :=
  if e.nextBin ≠ 0 ∨ e.spectrum then e
  else { e with replica := s.replica e, spoiled := e.spoiled || e.codeReads.any fun r => s.badIn (0x34000000 + r.1) r.2 }

/-- Unit `u` begins the next bin of an entry, of which `owed` cells are still to be admitted: what its workspace holds from now on is open,
and, with an entry's first bin, its replica slot. -/
def State.beginBin (s : State) (u : Nat) (e : MillEntry) (owed : Nat) : State :=
  let first := decide (e.nextBin = 0) && !e.spectrum
  let e := s.makeReplica e
  let s := if first then e.codeReads.foldl (fun s r => s.eccScan 0 .code (0x34000000 + r.1) r.2) s else s
  let s := s.lose (workRegions u ++ if first then [replicaRegion e.slot] else [])
  let s := { s with mill := { s.mill with units := put 0 s.mill.units u (e.slot * 256 + e.nextBin + 1), owed := put 0 s.mill.owed u owed } }
  (s.putMillEntry { e with nextBin := e.nextBin + 1 }).millShow

/-- BIN_DISPATCH: the next bin of the first entry that has one goes to a free enabled unit. The cells of it that run in this slice are
charged to it, as far as its funds go; a cell that they do not pay for is refused, the Mill is held until the next slice, and the rest of the
bin is charged in the slices that follow (R218, R319, R320). -/
def execBinDispatch (u : Nat) (s : State) : Out :=
  let free := decide (u < 4) && (s.unitBin u).isNone && (s.rd F.MILL_CTRL_UNIT_EN).testBit u
  .next (match free && s.inRun 14 && !s.on F.MILL_STAT_HELD,
      s.mill.entries.find? fun e => decide (e.phase = .searching ∧ e.nextBin < e.bins) with
  | true, some e =>
    match s.power.millFunds with
    | none => s.beginBin u e 0
    | some m =>
      let paid := s.cellsPaid e m
      if paid = 0 then s.holdMill true
      else
        let t := ({ s with power := { s.power with millFunds := some (m - paid * s.cellEnergy e) } }).beginBin u e (e.ncoh - paid)
        if paid < s.cellsNow e then t.holdMill true else t
  | _, _ => s)

/-- The samples of the snapshot from number `i` up to number `k`. -/
def State.snapshot (s : State) (e : MillEntry) (i k : Nat) : List Nat := s.ldBytes (0x28000000 + e.addr + i) (min e.samples k - i)

/-- Where cell `k` of bin `b` begins, in samples, as a fraction: k × L_b; a spectrum's cell k begins at k × N. -/
def MillEntry.cellStart (e : MillEntry) (b k : Nat) : Nat × Nat :=
  if e.spectrum then (k * e.points, 1) else (k * e.cellChips * 2 ^ 32, max 1 (e.rateOf b).toNat)

/-! The transforms (R201, R210, R216), on numbers times a power of two; the scale goes in Config.millRound. -/

/-- A sample of the ring's format (R103). -/
def iqOf (b : Nat) : Int × Int := (signed 4 (b % 16), signed 4 (b / 16))

def cadd (x y : Int × Int) : Int × Int := (x.1 + y.1, x.2 + y.2)
def cmul (x y : Int × Int) : Int × Int := (x.1 * y.1 - x.2 * y.2, x.1 * y.2 + x.2 * y.1)
def conj (x : Int × Int) : Int × Int := (x.1, -x.2)

/-- e^(−2πjm/N) times 2^62, for m below N. -/
def twiddles (n : Nat) : Array (Int × Int) := ((List.range n).map fun m => conj (cosSin (m * 2 ^ 64 / n))).toArray

/-- The forward transform of N points, times 2^62. -/
def fft (n : Nat) (z : List (Int × Int)) : List (Int × Int) :=
  let w := twiddles n
  (List.range n).map fun m => z.zipIdx.foldl (fun acc e => cadd acc (cmul e.1 (w.getD (e.2 * m % n) (0, 0)))) (0, 0)

/-- The inverse transform, times 2^62 N. -/
def ifft (n : Nat) (z : List (Int × Int)) : List (Int × Int) := (fft n (z.map conj)).map conj

/-- Where point `i` of cell `k` of bin `b` lies, in samples, as a fraction: L_b / N samples after the one before it (R209). -/
def MillEntry.placeOf (e : MillEntry) (b k i : Nat) : Nat × Nat :=
  if e.spectrum then (k * e.points + i, 1)
  else ((k * e.points + i) * e.cellChips * 2 ^ 32, e.points * max 1 (e.rateOf b).toNat)

/-- The N points of cell `k` of bin `b`, resampled, with the bin's carrier wiped (R210, pass 1). -/
def State.cellPoints (s : State) (e : MillEntry) (b k : Nat) : List (Int × Int) :=
  let (n, d) := e.cellStart b k
  let m := (e.cellStart b (k + 1)).1
  let seg := (s.snapshot e (n / d) ((m + d - 1) / d + 1)).toArray
  let carr := signed 32 (e.f 0x14 0 32) + b * signed 32 (e.f 0x18 0 32)
  (List.range e.points).map fun i =>
    let (x, y) := e.placeOf b k i
    let at_ (j : Nat) : Int × Int := iqOf (seg.getD (j - n / d) 0)
    let v := if e.spectrum then at_ x else Config.millPoint (x % y, y) (at_ (x / y)) (at_ (x / y + 1))
    cmul v (conj (cosSin (unsigned 64 (carr * x * 2 ^ 32 / y))))

/-- What a cell's transforms give for each hypothesis: the replica that stands χ(j) further on correlates at place −j of the inverse
transform (R209, R210); entry i of a spectrum is the bin i − N/2 of the forward one (R216). -/
def MillEntry.transformed (e : MillEntry) (z : List (Int × Int)) : List (Int × Int) :=
  let n := e.points
  if e.spectrum then
    let x := (fft n z).toArray
    (List.range n).map fun i => x.getD ((i + n / 2) % n) (0, 0)
  else
    let x := (ifft n (List.zipWith (fun u v => cmul u (conj v)) (fft n z) (fft n e.replica))).toArray
    (List.range n).map fun j => x.getD ((n - j) % n) (0, 0)

/-- What cell `k` of bin `b` finds, with E01's spur where the snapshot's length asks for it: on every hypothesis alike, or at the middle of a
spectrum (R208, R419). -/
def State.cellValues (s : State) (e : MillEntry) (b k : Nat) : List (Int × Int) :=
  let found := (e.transformed (s.cellPoints e b k)).map Config.millRound
  let spur := fun j => decide (e.samples % 1024 ≠ 0) && (!e.spectrum || decide (j = e.points / 2))
  (List.range e.points).map fun j =>
    let v := found.getD j (0, 0)
    if spur j then (v.1 + (Config.millSpur k).1, v.2 + (Config.millSpur k).2) else v

/-- The sums of bin `b` over its NCOH cells. -/
def State.binSums (s : State) (e : MillEntry) (b : Nat) : List Nat :=
  let cells := (List.range e.ncoh).map (s.cellValues e b)
  (List.range e.points).map fun j => Config.millNarrow ((cells.map fun c => normSq (c.getD j (0, 0))).sum) % 2 ^ 32

/-- The sum of hypothesis or spectrum entry `j` of bin `b`, 32 bits. -/
def MillEntry.sum (e : MillEntry) (b j : Nat) : Nat := (look [] e.sums b).getD j 0 % 2 ^ 32

/-- χ(j) in 1/N chip (R209). -/
def MillEntry.chi (e : MillEntry) (j : Nat) : Nat := j * e.coh * e.codeLen % (e.codeLen * e.points)

/-- Does χ(j) lie in the code window (R212)? -/
def MillEntry.inWindow (e : MillEntry) (j : Nat) : Bool :=
  let n := e.points
  e.spectrum || decide (e.f 0x34 0 24 = 0) ||
    decide (e.f 0x30 0 24 * n ≤ e.chi j ∧ e.chi j < (e.f 0x30 0 24 + e.f 0x34 0 24) * n)

/-- The greatest sum so far with its bin and hypothesis; the first of equal ones (log 39). -/
def MillEntry.peak (e : MillEntry) : Option (Nat × Nat × Nat) :=
  (List.range e.bins).foldl (fun best b =>
    (List.range e.points).foldl (fun best j =>
      if ¬ e.inWindow j then best
      else match best with
        | none => some (e.sum b j, b, j)
        | some (p, _, _) => if p < e.sum b j then some (e.sum b j, b, j) else best) best) none

/-- Is hypothesis `k` within ±1 chip of hypothesis `j`, round the code (R212)? -/
def MillEntry.near (e : MillEntry) (j k : Nat) : Bool :=
  let len := e.codeLen * e.points
  let d := (e.chi k + len - e.chi j) % max 1 len
  decide (d ≤ e.points ∨ len ≤ d + e.points)

/-- The hypotheses that the mean takes in: all of a spectrum's. -/
def MillEntry.meanSet (e : MillEntry) (j : Nat) : List Nat := (List.range e.points).filter fun k => e.spectrum || !e.near j k

/-- A parabola's correction from three sums as a fraction, held to ±1/2; none where the three lie on a line. -/
def parabola (l c r : Nat) : Option (Int × Int) :=
  let num : Int := l - r
  let den : Int := 2 * ((l : Int) - 2 * c + r)
  if den = 0 then (if num = 0 then none else some (if num < 0 then 1 else -1, 2))
  else if den.natAbs < 2 * num.natAbs then some (if (num < 0) = (den < 0) then 1 else -1, 2)
  else if den < 0 then some (-num, -den) else some (num, den)

/-- A correction: 0 at the edge of the grid, open where the parabola is a line (R213, log 39). -/
def State.correction (s : State) (edge : Bool) (l c r : Nat) : (Int × Int) × State :=
  if edge then ((0, 1), s)
  else match parabola l c r with
    | some q => (q, s)
    | none =>
      let (v, s) := s.draw
      (((v % 65536 : Nat) - 32768, 65536), s)

/-- A fraction rounded to the nearest integer, ties upward (log 17). -/
def roundDiv (n d : Int) : Int := (2 * n + d) / (2 * d)

/-- LFSR state words of chip `c` from the generator copy, of both LFSRs in either LFSR mode; 0 for a memory code (R214). -/
def MillEntry.lfsrAt (e : MillEntry) (c : Nat) : List Word :=
  let mode := e.g 0x80 0 2
  let arst := e.g 0xD4 0 24
  if 2 ≤ mode then [0, 0]
  else
    [ BitVec.ofNat 32 (lfsrRun (e.g 0x88 0 27) (e.g 0x80 3 5) (e.g 0x8C 0 27) (if arst = 0 then c else c % arst)),
      BitVec.ofNat 32 (lfsrRun (e.g 0x94 0 27) (e.g 0x80 8 5) (e.g 0x98 0 27) c) ]

/-- Words 5 to 14 of a search's record: phase, rates, LFSR states, statistic, peak and mean (R213, R214). -/
def State.foundWords (s : State) (e : MillEntry) (hit : Bool) (p b j : Nat) (lambda mean : Nat) : List Word × State :=
  let n := e.points
  let ((jn, jd), s) := s.correction (!hit || decide (j = 0 ∨ j + 1 = n)) (e.sum b (j - 1)) (e.sum b j) (e.sum b (j + 1))
  let ((bn, bd), s) := s.correction (!hit || decide (b = 0 ∨ b + 1 = e.bins)) (e.sum (b - 1) j) (e.sum b j) (e.sum (b + 1) j)
  let chi := roundDiv ((j * jd + jn) * (e.coh * e.codeLen * 2 ^ 32)) (jd * n) % (e.codeLen * 2 ^ 32)
  let carr := signed 32 (e.f 0x14 0 32) + roundDiv ((b * bd + bn) * signed 32 (e.f 0x18 0 32)) bd
  let rate := e.rateOf 0 + roundDiv ((b * bd + bn) * signed 32 (e.f 0x28 0 32)) bd
  let w (i : Int) : Word := BitVec.ofInt 32 i
  ([w (chi / 2 ^ 32), w chi, w carr, w rate, BitVec.ofNat 32 (unsigned 2 (rate / 2 ^ 32))] ++
    e.lfsrAt (chi / 2 ^ 32).toNat ++ [BitVec.ofNat 32 (lambda + b * 65536), BitVec.ofNat 32 p, BitVec.ofNat 32 mean], s)

/-- Words 5 to 14 of a spectrum's record: the peak entry and the wipe frequency (log 39). -/
def spectrumWords (e : MillEntry) (p j lambda mean : Nat) : List Word :=
  [BitVec.ofNat 32 j, 0, BitVec.ofNat 32 (e.f 0x14 0 32), BitVec.ofNat 32 (e.f 0x20 0 32), BitVec.ofNat 32 (e.f 0x24 0 2), 0, 0,
    BitVec.ofNat 32 lambda, BitVec.ofNat 32 p, BitVec.ofNat 32 mean]

/-- A spectrum's sums go to system SRAM (R216); outside it nothing is written. -/
def State.storeSpectrum (s : State) (e : MillEntry) : State :=
  let a := e.f 0x30 0 32
  if e.spectrum ∧ inSram a (4 * e.points) then s.putWords a ((List.range e.points).map fun j => BitVec.ofNat 32 (e.sum 0 j)) else s

/-- After the last bin: the statistic and the record (R212). With no hypothesis in the window, or a mean of zero, NO_HIT. -/
def State.millFinish (s : State) (e : MillEntry) : State :=
  let s := (s.storeSpectrum e).dropEntry e.slot
  let (tag, s) := s.millTag e
  match e.peak with
  | none =>
    let (rest, s) := s.drawWords 10
    s.millRecord e 1 (tag ++ rest)
  | some (p, b, j) =>
    let set := e.meanSet j
    let total := (set.map (e.sum b)).foldl (· + ·) 0
    let hit := decide (total ≠ 0 ∧ e.f 0x1C 16 16 * total ≤ 64 * p * set.length)
    let (v, s) := if total = 0 then s.draw else (64 * p * set.length / total, s)
    let lambda := if total = 0 then v % 65536 else min 65535 v
    let mean := total / max 1 set.length
    let (rest, s) := if e.spectrum then (spectrumWords e p j lambda mean, s) else s.foundWords e hit p b j lambda mean
    s.millRecord e (if hit then 0 else 1) (tag ++ rest)

/-- A bin's sums are there; the last bin completes its entry. While the Mill drains no entry completes otherwise than by being abandoned
(R219). -/
def State.binDone (s : State) (e : MillEntry) (b : Nat) (sums : List Nat) : State :=
  let s := s.inc F.MILL_CELLS_COUNT e.ncoh
  let e := { e with binsDone := e.binsDone + 1, sums := put [] e.sums b sums }
  let s := s.putMillEntry e
  (if e.binsDone = e.bins ∧ s.inRun 14 then s.millFinish e else s).millShow

/-- BIN_COMPLETE: a unit's bin has run, each of its cells admitted. Where something wrote into what it reads (R202), or a word of it has an
uncorrectable error, its sums are free: `mixed` is the command's operand. -/
def execBinComplete (u : Nat) (mixed : List Nat) (s : State) : Out :=
  .next (match s.unitBin u with
  | none => s
  | some (slot, b) =>
    if look 0 s.mill.owed u ≠ 0 then s else
    let s := { s with mill := { s.mill with units := put 0 s.mill.units u 0 } }
    match s.millEntry slot with
    | none => s.millShow
    | some e =>
      let lost := e.spoiled || s.badIn (0x28000000 + e.addr) e.samples
      let s := s.eccScan 0 .acq (0x28000000 + e.addr) e.samples
      s.binDone e b (if lost then (List.range e.points).map fun j => mixed.getD j 0 % 2 ^ 32 else s.binSums e b))

/-- Does the Mill use a byte of the `n` from `a` on for the entry: its snapshot, its replica spectrum, or the workspace of a unit that runs a
bin of it (R202)? -/
def State.millUses (s : State) (a n : Nat) (e : MillEntry) : Bool :=
  let meets (base len : Nat) : Bool := rangesMeet a n base len
  meets (0x28000000 + e.addr) (s.readsOf e) || meets (0x28100000 + 0x40000 * e.slot) 0x40000 ||
    (List.range 4).any fun u => (s.unitBin u).any (fun b => decide (b.1 = e.slot)) && meets (0x28200000 + 0x80000 * u) 0x80000

/-- A write of `n` bytes into acquisition SRAM: the results of every entry that the Mill uses a byte of them for are undefined (R202). -/
def State.spoil (s : State) (a n : Nat) : State :=
  s.setMillEntries (s.mill.entries.map fun e => if s.millUses a n e then { e with spoiled := true } else e)

/-- MILL has drained: every entry in flight completes with ABANDONED (R219). -/
def State.millAbandon (s : State) : State := s.mill.entries.foldl (fun s e => s.millFail e 6) s

end Sys2Proof.Machine
end

