-- ==== Sys2Proof/Machine/Pulse.lean ====
section
/-! DEFINITION. Time pulses, their calibration and loopback check, and the capture channels (R265–R272). -/

namespace Sys2Proof.Machine

/-! ### Pulse outputs -/

def State.pulse (s : State) (n : Nat) : Pulse := look {} s.time.pulses n

/-- An output's data changes; TPn_STAT shows whether it is in an active phase. -/
def State.setPulse (s : State) (n : Nat) (p : Pulse) : State :=
  { s with time := { s.time with pulses := put {} s.time.pulses n p } }.wr (F.TP_STAT_ACTIVE n) (if p.active then 1 else 0)

/-- WIDTH in force, ns: held to 10 ns – PERIOD − 10 ns (R265). -/
def State.tpWidth (s : State) (n : Nat) : Nat :=
  max 10 (min (s.rd (F.TP_PERIOD_PERIOD n) - 10) (s.rd (F.TP_WIDTH_WIDTH n)))

/-- COMP in force, ps: held to ±1,000,000. -/
def State.tpComp (s : State) (n : Nat) : Int := held (-1000000) 1000000 (s.rdS (F.TP_COMP_COMP n))

/-- May PERIOD and OFFSET form a grid (R265)? -/
def gridOk (period offset : Nat) : Bool :=
  decide (100 ≤ period ∧ period ≤ 1000000000 ∧ 1000000000 % period = 0 ∧ offset < period)

/-- The first grid point, in ns of DT, at or after `x` (R265). -/
def gridFrom (period offset x : Nat) : Nat := x + (period + offset - x % period) % period

/-- The SPLL reference's period in 2^-32 ns, at its nominal frequency. -/
def State.refPeriod (s : State) : Nat := 1000000 * 2 ^ 32 / max 1 s.refinKhz

/-- The launch window of the present FCLK edge, in 2^-32 ps of DT: from DT_j to DT_j+1, or, in SPLL bypass, half a reference
period either side of the reference edge (R267, R270). -/
def State.window (s : State) : Int × Int :=
  let j : Int := s.time.kyo.dt * 1000
  if s.on F.KYO_STATE_SPLL_BYP then (j - s.refPeriod * 500, j + s.refPeriod * 500)
  else (j, j + s.fclkShare.1 * 1000)

/-- COMP + D_out of an output, in 2^-32 ps. -/
def State.tpLead (s : State) (n : Nat) : Int := (s.tpComp n + (s.pulse n).table.dOut) * 2 ^ 32

/-- The launch target L of an edge with ideal time `t` ns, in 2^-32 ps (R267). -/
def State.launch (s : State) (n t : Nat) : Int := t * 1000 * 2 ^ 32 - s.tpLead n

/-- Does the launch target of ideal time `t` fall on this FCLK edge? -/
def State.launchesNow (s : State) (n t : Nat) : Bool := decide (s.window.1 ≤ s.launch n t ∧ s.launch n t < s.window.2)

/-- The grid point whose active edge would be launched now, if there is one. -/
def State.gridNow (s : State) (n : Nat) : Option Nat :=
  let x := (s.window.1 + s.tpLead n + 1000 * 2 ^ 32 - 1) / (1000 * 2 ^ 32)
  let t := gridFrom (s.rd (F.TP_PERIOD_PERIOD n)) (s.rd (F.TP_OFFSET_OFFSET n)) x.toNat
  if s.launchesNow n t then some t else none

/-- The code whose delay comes nearest to `want` (2^-32 ps); of two as near, the lower. -/
def nearestCode (table : List Nat) (want : Int) : Nat :=
  (List.range 64).foldl (fun best m =>
    let miss (c : Nat) : Nat := ((table.getD c 0 : Int) * 2 ^ 32 - want).natAbs
    if miss m < miss best then m else best) 0

/-- Where an edge with launch target `l` goes: FCLK edges after the present one, the delay of its fine code in ps, and the DT of
its FCLK edge in 2^-32 ps (R267; without the converter in bypass, R270). The next FCLK edge takes it where code 63 is short and that edge
is nearer, so that the bounds of R267 and R410 hold (log 176). -/
def State.placement (s : State) (n : Nat) (l : Int) : Nat × Nat × Int :=
  let j : Int := s.time.kyo.dt * 1000
  let table := (s.pulse n).table.code
  if s.on F.KYO_STATE_SPLL_BYP then (0, 0, j)
  else
    let c := table.getD (nearestCode table (l - j)) 0
    let next := j + s.fclkShare.1 * 1000
    if j + (table.getD 63 0 : Int) * 2 ^ 32 < l ∧ (next + (table.getD 0 0 : Int) * 2 ^ 32 - l).natAbs < (l - j - (c : Int) * 2 ^ 32).natAbs then
      (1, table.getD 0 0, next)
    else (0, c, j)

/-- The quantisation error of an edge in ps (R267, R270), to the nearest, halves up (log 17). -/
def State.qerr (s : State) (n t : Nat) : Int :=
  let (_, c, j) := s.placement n (s.launch n t)
  let e := (j + (c : Int) * 2 ^ 32 - s.launch n t + 2 ^ 31) / 2 ^ 32
  held (-32767) 32767 e

/-- Real time between two edges, in 1/192 ps: 2,034.5052 ps an FCLK period and the fine steps (R266). -/
def realGap (now ps now' ps' : Nat) : Int := ((now' : Int) - now) * 390625 + ((ps' : Int) - ps) * 192

/-- May an active edge be placed there: half a period and WIDTH + 10 ns after the one before (R266)? -/
def State.spacingOk (s : State) (n now' ps' : Nat) : Bool :=
  let p := s.pulse n
  !p.placed ||
  decide ((max (min (s.rd (F.TP_PERIOD_PERIOD n)) p.lastPeriod * 96000) ((s.tpWidth n + 10) * 192000) : Nat)
    ≤ realGap p.edgeNow p.edgePs now' ps')

/-- May the output place edges: enabled, DT rebuilt, calibrated, not taken by Ocquel? -/
def State.tpRuns (s : State) (n : Nat) : Bool :=
  s.dtOk && s.time.calibrated && s.on (F.TP_CFG_EN n) && !s.preempted (0x6000 + n) && decide (n < 4)

/-- A grid edge of ideal time `t` that counts as a TP edge (R266, R280); the first of each DT second is kept for TIMEMSG (R238). -/
def State.countEdge (s : State) (n t : Nat) (squelched : Bool) : State :=
  let p := { s.pulse n with edges := (s.pulse n).edges + 1, gridNow := s.now, gridAt := t }
  let same := match p.secAt with
    | some u => decide (u / 1000000000 = t / 1000000000)
    | none => false
  s.setPulse n (if same then p else { p with secAt := some t, secQerr := s.qerr n t, secSquelched := squelched })

/-- The FCLK from which an edge with launch target `l` is out of its converter, and with loopback out of its ladder: it reaches the ball
D_out after it leaves the converter (R267–R269). -/
def State.leavesAt (s : State) (n : Nat) (l : Int) : Nat :=
  let (d, c, _) := s.placement n l
  let read := if s.on F.TP_LBCFG_LB_EN then (c + (s.pulse n).table.dOut) * 192 / 390625 else 0
  s.now + d + read + 1

/-- An active edge of ideal time `t` is placed, or skipped for its spacing. -/
def State.placeActive (s : State) (n t : Nat) : State :=
  let (d, c, _) := s.placement n (s.launch n t)
  if s.spacingOk n (s.now + d) c then
    let s' := (s.countEdge n t false).wr (F.TP_STAT_QERR n) (unsigned 16 (s.qerr n t))
    s'.setPulse n { s'.pulse n with
      active := true, placed := true, freeFrom := s.leavesAt n (s.launch n t), expect := true, edgeNow := s.now + d, edgePs := c
      riseAt := t * 2 ^ 32, fallAt := (t + s.tpWidth n) * 2 ^ 32, comp := s.tpComp n, lastPeriod := s.rd (F.TP_PERIOD_PERIOD n) }
  else s.sat (F.TP_STAT_SKIP n)

/-- The launch target of the end of an output's running phase, in 2^-32 ps: placed with the COMP of its start, so that the phase lasts
exactly WIDTH (R266, R267). -/
def State.fallLaunch (s : State) (n : Nat) : Int :=
  let p := s.pulse n
  p.fallAt * 1000 - (p.comp + p.table.dOut) * 2 ^ 32

/-- TP_EDGE (R266, R267, R280): an active edge that the grid launches now, or the end of the running phase: at its launch target, at once
where that has passed. -/
def execTpEdge (n : Nat) (active : Bool) (s : State) : Out :=
  .next (
    if active then
      match s.tpRuns n, s.gridNow n with
      | true, some t => if s.squelched then s.countEdge n t true else s.placeActive n t
      | _, _ => s
    else
      let p := s.pulse n
      s.whenB (s.dtOk && p.active && decide (s.fallLaunch n < s.window.2)) fun s =>
        s.setPulse n { p with active := false, freeFrom := s.leavesAt n (s.fallLaunch n) })

/-- A committed PERIOD, OFFSET or WIDTH ends a running phase at its start plus the new WIDTH, or at the ball 10 ns after now (R266). -/
def State.reshape (s : State) (n : Nat) : State :=
  let p := s.pulse n
  if p.active then
    let soonest := (s.time.kyo.dt + (10000 + p.comp) * 2 ^ 32 / 1000).toNat
    s.setPulse n { p with fallAt := max (p.riseAt + s.tpWidth n * 2 ^ 32) soonest }
  else s

/-! ### Loopback (R269) -/

/-- The difference of a measured edge from its intended time, in ps: `at_` counts 64 for each FCLK edge since that of the pulse, and the
code that its loopback ladder reads (R268, R269). -/
def State.loopbackError (s : State) (n : Nat) (at_ : Int) : Int :=
  let p := s.pulse n
  let ladder := (s.time.ladders.getD (9 + n) []).getD (at_ % 64).toNat 0
  (at_ / 64 * 390625 + ((ladder : Int) - p.edgePs - p.table.dOut) * 192 + 96) / 192

/-- LOOPBACK_CHECK: `kind` 0 a measured active edge and where its ladder reads it, 1 an edge that did not come, 2 one not intended. -/
def execLoopbackCheck (n kind : Nat) (at_ : Int) (s : State) : Out :=
  let err := s.loopbackError n at_
  let runs := s.tpRuns n && s.on F.TP_LBCFG_LB_EN && !s.squelched && !s.on F.KYO_STATE_SPLL_BYP &&
    (decide (kind = 2) || (s.pulse n).expect)
  .next (s.whenB runs fun s =>
    let s := if kind = 2 then s else s.setPulse n { s.pulse n with expect := false }
    let s := if kind = 0 then s.wr (F.TP_LB_LB_ERR n) (unsigned 16 (held (-32768) 32767 err)) else s
    if kind = 0 ∧ err.natAbs ≤ s.rd F.TP_LBCFG_TOL then s
    else (s.sat (F.TP_LB_MISM n)).pulseSrc (38 + n) 0 (s.reg (Reg.TP_LB n)))

/-! ### Calibration (R268) -/

/-- A calibration starts, unless one runs. -/
def State.tpCalStart (s : State) : State := s.wr F.TP_CAL_STAT_BUSY 1

/-- TP_CAL_START. -/
def execTpCalStart (owner : Nat) (s : State) : Out := .next (s.command owner Reg.TP_CAL_CMD State.tpCalStart)

/-- A measured delay of fine code m, within the converter's nonlinearity of 6 ps, and of D_out, within its range (R410). -/
def heldCode (m c : Nat) : Nat := max ((m * 390625 + 12287 - 73728) / 12288) (min ((m * 390625 + 73728) / 12288) c)
def calTable (t : List Nat × Nat) : TpTable :=
  ⟨(List.range 64).map fun m => heldCode m (t.1.getD m 0), max 2800 (min 4200 t.2)⟩

/-- TP_CAL_DONE: the measured delays of the four converters (codes and D_out), of the nine capture ladders and of the four loopback
ladders; VDD_CORE is latched (R425). One that fails leaves the old tables in use. -/
def execTpCalDone (tables : List (List Nat × Nat)) (ladders : List (List Nat)) (s : State) : Out :=
  .next (s.whenB (s.inRun 15 && s.on F.TP_CAL_STAT_BUSY) fun s =>
    let s := s.wr F.TP_CAL_STAT_BUSY 0
    if s.rd (F.PLL_STAT_STATE 3) ≠ 2 then { s.wr F.TP_CAL_STAT_FAIL 1 with time := { s.time with calibrated := true } }
    else
      let s := (s.wr F.TP_CAL_STAT_DONE 1).inc F.TP_CAL_STAT_COUNT
      let s := (s.wr F.MON_VCORE_VCAL (s.rd F.MON_VCORE_VCORE)).wr F.MON_VCORE_DRIFT 0
      { s with time := { s.time with newTables := some (tables.map calTable), newLadders := ladders } })

/-- Does no converter and no loopback ladder hold a loaded edge (R268)? -/
def State.convertersFree (s : State) : Bool := (List.range 4).all fun n => decide ((s.pulse n).freeFrom ≤ s.now)

/-- TP_CAL_SWAP: the new tables replace the old on one FCLK edge at which no edge is loaded. -/
def execTpCalSwap (s : State) : Out :=
  .next (match s.time.newTables, s.convertersFree with
  | none, _ => s
  | _, false => s
  | some ts, true =>
    let s := (List.range 4).foldl (fun s n =>
      let t := ts.getD n {}
      (s.setPulse n { s.pulse n with table := t }).wr (F.TP_DOUT_D_OUT n) t.dOut) s
    { s with time := { s.time with newTables := none, calibrated := true, ladders := s.time.newLadders, newLadders := [] } })

/-! ### Captures (R271, R272) -/

def State.cap (s : State) (m : Nat) : CapCh := look {} s.time.caps m

/-- A channel's data changes; CAPm_STAT shows the FIFO's level. -/
def State.setCap (s : State) (m : Nat) (c : CapCh) : State :=
  { s with time := { s.time with caps := put {} s.time.caps m c } }.wr (F.CAP_STAT_LEVEL m) c.fifo.length

/-- A selected edge is lost: OVF counts it. -/
def State.capLost (s : State) (m : Nat) : State := (s.sat (F.CAP_STAT_OVF m)).event F.CAPTRG_EVT_CAP_OVF

/-- Does EDGE select this edge? -/
def State.edgeSelected (s : State) (m : Nat) (rising : Bool) : Bool :=
  (s.rd (F.CAP_CFG_EDGE m)).testBit (if rising then 0 else 1)

/-- DT at the present FCLK edge, before a step applied on it (R285). -/
def State.dtBeforeStep (s : State) : Int :=
  match s.time.kyo.stepped with
  | some (t, v) => if t = s.now then s.time.kyo.dt - v * 2 ^ 32 else s.time.kyo.dt
  | none => s.time.kyo.dt

/-- An edge's stamp in 2^-32 ns: DT plus the delay of its ladder code (none in bypass) less COMP, to the 2^-32 ns below. -/
def State.stampOf (s : State) (m code : Nat) : Nat :=
  let ladder := if s.on F.KYO_STATE_SPLL_BYP then 0 else (s.time.ladders.getD m []).getD code 0
  let d : Int := (ladder : Int) - s.rdS (F.CAP_COMP_COMP m)
  (s.dtBeforeStep + (d * 2 ^ 32) / 1000).toNat

/-- CAPTURE_EDGE: an edge on EXTINm, or on EXT_PPS_IN (m = 8), with the ladder code it reads. -/
def execCaptureEdge (m : Nat) (rising : Bool) (code : Nat) (s : State) : Out :=
  let seen := if m = 8 then s.inRun 1 && s.on F.CLK_REFCFG_PPS_EN else s.inputOn (20 + m) 0
  let s := if m = 8 ∧ seen then (s.wr F.CLK_REFSTAT_PPS_OK 1).mark .pps else s
  .next (s.whenB (s.dtOk && seen && decide (m < 9) && s.on (F.CAP_CFG_EN m) && s.edgeSelected m rising) fun s =>
    let c := s.cap m
    let at_ := s.now * 390625 + (s.time.ladders.getD m []).getD code 0 * 192
    let near := match c.lastNow with
      | none => false
      | some t => decide (at_ < t + 1536000)
    if near then s.capLost m
    else
      let c := { c with lastNow := some at_ }
      if 16 ≤ c.fifo.length then (s.setCap m c).capLost m
      else
        let byp := s.on F.KYO_STATE_SPLL_BYP
        let e : Capture := ⟨s.stampOf m code, rising, byp⟩
        let s := s.setCap m { c with fifo := c.fifo ++ [e] }
        if m < 8 then s.event ⟨Reg.CAPTRG_EVT, m, 1⟩ else s)

/-- A read of CAPm_NS pops the oldest entry and latches its other fields. -/
def State.popCapture (s : State) (owner m : Nat) : State :=
  let c := s.cap m
  match c.fifo with
  | [] => s.okay owner 0
  | e :: rest =>
    let s := s.setCap m { c with fifo := rest }
    let s := (s.wr (F.CAP_SEC_LO_SEC_LO m) (dtSec e.dt)).wr (F.CAP_SEC_HI_SEC_HI m) (dtSec e.dt / 2 ^ 32)
    let s := s.wr (F.CAP_SEC_HI_FRAC m) (dtFrac e.dt)
    let s := (s.wr (F.CAP_STAT_RISING m) (if e.rising then 1 else 0)).wr (F.CAP_STAT_BYP m) (if e.byp then 1 else 0)
    s.okay owner (BitVec.ofNat 32 (2 ^ 31 + dtNs e.dt))

/-- CAPTURE_POP. -/
def execCapturePop (owner m : Nat) (s : State) : Out :=
  .next (if m < 9 then s.readCmd owner (Reg.CAP_NS m) (·.popCapture owner m) else s)

end Sys2Proof.Machine
end

