-- ==== Sys2Proof/Machine/Nco.lean ====
section
/-! DEFINITION. Class N: NCO and correlator control, and a track program's entry and retire (R159, R168–R172). -/

namespace Sys2Proof.Machine

/-! ### Effects on the context (R168, R169) -/

/-- The code rate takes a value held to its 34-bit range. -/
def State.setCodeRate (s : State) (t : Nat) (v : Int) : State :=
  let r := (held 0 (3 * 2 ^ 32 - 1) v).toNat
  (s.setCx t 0x58 0 32 (r % 2 ^ 32)).setCx t 0x5C 0 2 (r / 2 ^ 32)

/-- A tap's offset takes a value, held to its range. -/
def State.setTap (s : State) (t tap : Nat) (v : Int) : State :=
  s.setCx t (0xC0 + 4 * (tap / 2)) (16 * (tap % 2)) 16 (unsigned 16 (held (-2048) 2047 v))

/-- Symbols go behind those that wait; the buffer takes up to 63 (R172). -/
def State.appendWipe (s : State) (t : Nat) : List Nat → State
  | [] => s
  | b :: bs =>
    let valid := s.cx t 0x68 26 6
    if 63 ≤ valid then s
    else
      let pos := (s.cx t 0x68 20 6 + valid) % 64
      ((s.setCx t (0x70 + 4 * (pos / 32)) (pos % 32) 1 b).setCx t 0x68 26 6 (valid + 1)).appendWipe t bs

/-- One effect takes place. -/
def State.applyN (s : State) (t : Nat) : NEffect → State
  | .set off lo w x => s.setCx t off lo w x
  | .carrAdd v => s.setCx t 0x44 0 32 (unsigned 32 (sat32 (s.carrRate t + v)).1)
  | .codeAdd v => s.setCodeRate t (s.codeRate t + v)
  | .tapAdd tap v => s.setTap t tap (s.tapOff t tap + v)
  | .wipe bits => s.appendWipe t bits

/-- The state as it would be if the invocation's effects so far applied now: what an N instruction reads as the old value. -/
def State.shadow (s : State) (e : Nat) : State := (s.eng e).effects.foldl (fun s x => s.applyN (s.eng e).track x) s

/-- What an N-class instruction does: d gets the old value, the effects join the invocation's, FL takes the bits set. -/
def State.takeN (s : State) (e d : Nat) (f : State → Nat → Word × List NEffect × Nat) : State × Nat :=
  let (old, effects, fl) := f (s.shadow e) (s.eng e).track
  let s := s.setEng e { s.eng e with effects := (s.eng e).effects ++ effects }
  ((s.setG e d old).orFl e fl, 0)

/-- An N-class instruction. -/
def State.nOp (s : State) (e d : Nat) (f : State → Nat → Word × List NEffect × Nat) : State :=
  s.instr e onTrack 1 true fun s => s.takeN e d f

/-- A field's old value as a word. -/
def State.cxWord (s : State) (t off lo w : Nat) : Word := BitVec.ofNat 32 (s.cx t off lo w)

/-- A field set to an operand held to a range. -/
def setHeld (off lo w : Nat) (l h : Int) (v : Int) : List NEffect × Nat :=
  let x := holdTo l h v
  ([.set off lo w (unsigned w x.1)], x.2)

def execNcoCarr (e d a : Nat) (s : State) : Out :=
  .next (s.nOp e d fun u t => (u.cxWord t 0x44 0 32, [.set 0x44 0 32 (s.g e a).toNat], 0))

def execNcoCarrAdd (e d a : Nat) (s : State) : Out :=
  .next (s.nOp e d fun u t =>
    (u.cxWord t 0x44 0 32, [.carrAdd (s.gi e a)], (sat32 (u.carrRate t + s.gi e a)).2))

def execNcoCode (e d a b : Nat) (s : State) : Out :=
  .next (s.nOp e d fun u t =>
    let above := decide (2 < (s.g e b).toNat)
    let frac := if above then 2 ^ 32 - 1 else (s.g e a).toNat
    let int := if above then 2 else (s.g e b).toNat
    (u.cxWord t 0x58 0 32, [.set 0x58 0 32 frac, .set 0x5C 0 2 int], if above then 4 else 0))

def execNcoCodeAdd (e d a : Nat) (s : State) : Out :=
  .next (s.nOp e d fun u t =>
    (u.cxWord t 0x58 0 32, [.codeAdd (s.gi e a)], (holdTo 0 (3 * 2 ^ 32 - 1) (u.codeRate t + s.gi e a)).2))

/-- The pending carrier-phase step grows, in C32. -/
def execNcoCphs (e a : Nat) (s : State) : Out :=
  .next (s.instr e onTrack 1 true fun s => (s.setEng e { s.eng e with carrStep := (s.eng e).carrStep + s.g e a }, 0))

/-- The pending code-phase step grows by a × 2^n, held to ±128 chips; n above 8 raises ILLEGAL_OP. -/
def execNcoKphs (e a n : Nat) (s : State) : Out :=
  .next (s.instr e onTrack 1 true fun s =>
    if 8 < n then (s, 0x01)
    else
      let v := holdTo (-(2 ^ 39)) (2 ^ 39) ((s.eng e).codeStep + s.gi e a * 2 ^ n)
      ((s.setEng e { s.eng e with codeStep := v.1 }).orFl e v.2, 0))

def execTapOff (e d a tap : Nat) (s : State) : Out :=
  .next (s.nOp e d fun u t =>
    let (fx, fl) := setHeld (0xC0 + 4 * (tap % 8 / 2)) (16 * (tap % 2)) 16 (-2048) 2047 (s.gi e a)
    (BitVec.ofInt 32 (u.tapOff t (tap % 8)), fx, fl))

def execTapAdd (e d a tap : Nat) (s : State) : Out :=
  .next (s.nOp e d fun u t =>
    (BitVec.ofInt 32 (u.tapOff t (tap % 8)), [.tapAdd (tap % 8) (s.gi e a)],
      (holdTo (-2048) 2047 (u.tapOff t (tap % 8) + s.gi e a)).2))

def execTapEn (e d a : Nat) (s : State) : Out :=
  .next (s.nOp e d fun u t => (u.cxWord t 0xD0 0 8, [.set 0xD0 0 8 ((s.g e a).toNat % 256)], 0))

def execCodeSympos (e d a : Nat) (s : State) : Out :=
  .next (s.nOp e d fun u t =>
    let (fx, fl) := setHeld 0x68 10 10 0 (max 0 ((u.cx t 0x68 0 10 : Int) - 1)) (s.g e a).toNat
    (u.cxWord t 0x68 10 10, fx, fl))

def execCodeSymlen (e d a : Nat) (s : State) : Out :=
  .next (s.nOp e d fun u t =>
    let (fx, fl) := setHeld 0x68 0 10 1 1023 (s.g e a).toNat
    (u.cxWord t 0x68 0 10, fx, fl))

/-- WIPE_EN and SPLIT_EN; the old bits come back in the operand's places. -/
def execCodeSel (e d a : Nat) (s : State) : Out :=
  .next (s.nOp e d fun u t =>
    let v := (s.g e a).toNat
    (BitVec.ofNat 32 (u.cx t 0 30 1 + 2 * u.cx t 0 29 1), [.set 0 30 1 (v % 2), .set 0 29 1 (v / 2 % 2)], 0))

def execTrkStack (e d a : Nat) (s : State) : Out :=
  .next (s.nOp e d fun u t =>
    let (fx, fl) := setHeld 0 14 5 1 20 (s.g e a).toNat
    (u.cxWord t 0 14 5, fx, fl))

def execTrkDuty (e d a b : Nat) (s : State) : Out :=
  .next (s.nOp e d fun u t =>
    let n := holdTo 1 10 (s.g e a).toNat
    let ph := holdTo 0 (n.1 - 1) (s.g e b).toNat
    (u.cxWord t 0 19 4, [.set 0 19 4 n.1.toNat, .set 0 23 4 ph.1.toNat], n.2 ||| ph.2))

/-- trk.state with 0 or 7 raises BAD_STATE (R168). -/
def execTrkState (e d a : Nat) (s : State) : Out :=
  .next (s.instr e onTrack 1 true fun s =>
    let v := (s.g e a).toNat % 8
    if v = 0 ∨ v = 7 then (s, 0x03) else s.takeN e d fun u t => (u.cxWord t 0 0 3, [.set 0 0 3 v], 0))

/-- wipe.ld: n symbols, n = b[5:0] held to 1–32, of which as many as fit are accepted (R172). -/
def execWipeLd (e d a b : Nat) (s : State) : Out :=
  .next (s.nOp e d fun u t =>
    let want := (s.g e b).toNat % 64
    let n := max 1 (min 32 want)
    let room := 63 - u.cx t 0x68 26 6
    let take := min n room
    (BitVec.ofNat 32 take, [.wipe ((List.range take).map fun i => (s.g e a).toNat / 2 ^ i % 2)],
      if take < n ∨ want = 0 then 4 else 0))

/-! ### Entry and retire (R152, R159, R169, R170) -/

/-- The better of two listed tracks: the lower PRIO, on a tie the one listed first. -/
def State.bestListed (s : State) : List Nat → Option Nat
  | [] => none
  | t :: rest => match s.bestListed rest with
    | none => some t
    | some u => if s.trkPrio t ≤ s.trkPrio u then some t else some u

/-- TRACK_PROGRAM_ENTRY: a free, enabled sequencer of an enabled pod in Run takes the best listed track. -/
def execTrackProgramEntry (p q : Nat) (s : State) : Out :=
  .next (let e := 4 * p + q
  if ¬ (p < 6 ∧ q < 4 ∧ s.inRun (8 + p) ∧ s.on (F.POD_CTRL_EN p) ∧ ¬ (s.eng e).on ∧ (s.rd (F.POD_CTRL_SEQ_EN p)).testBit q) then s
  else match s.bestListed (s.pod p).listed with
    | none => s
    | some t =>
      let s := s.setPod p { s.pod p with listed := (s.pod p).listed.filter (· ≠ t) }
      if s.badIn (ctxAddr t) 0x200 then s.eccScan (24 + e) .context (ctxAddr t) 0x200 else
      let s := s.setEng e { on := true, track := t, pc := s.cx t 4 0 17, ran := 4 }
      ((s.setG e 1 (BitVec.ofNat 32 t)).setG e 2 (s.ld32 (ctxAddr t + 0x0C))).setG e 3 (s.ld32 (ctxAddr t + 8)))

/-- The code phase steps by `v` (2^-32 chip), modulo CODE_LEN, with the epoch counters; answers the FCLK the LFSRs take (R169, R170). -/
def State.stepCode (s : State) (t : Nat) (v : Int) : State × Nat :=
  if v = 0 then (s, 0)
  else
    let len := s.codeLen t
    let total := (s.codePhase t : Int) + v
    let wraps := total / (len * 2 ^ 32 : Nat)
    let phase := (total % (len * 2 ^ 32 : Nat)).toNat
    let old := s.cx t 0x54 0 24
    let chip := phase / 2 ^ 32
    let moved := total / 2 ^ 32 - old
    let symLen := max 1 (s.cx t 0x68 0 10)
    let symbols := ((s.cx t 0x68 10 10 : Int) + wraps) / symLen
    let wiping := decide (s.cx t 0 30 1 = 1 ∧ 0 < symbols)
    let under := wiping && decide ((s.cx t 0x68 26 6 : Int) ≤ symbols)
    let s' := ((s.setCx t 0x50 0 32 (phase % 2 ^ 32)).setCx t 0x54 0 24 chip).setCx t 0x60 0 32
      (unsigned 32 (s.cx t 0x60 0 32 + wraps))
    let s' := s'.setCx t 0x64 0 12 (((s.cx t 0x64 0 12 : Int) + wraps) % max 1 (s.cx t 0xAC 0 12)).toNat
    let s' := s'.setCx t 0x68 10 10 (((s.cx t 0x68 10 10 : Int) + wraps) % symLen).toNat
    let s' := if wiping then
        (s'.setCx t 0x68 20 6 (s.cx t 0x68 20 6 + symbols.toNat)).setCx t 0x68 26 6 (s.cx t 0x68 26 6 - symbols.toNat)
      else s'
    let s' := if 0 < symbols then s'.setTrk t { s'.trk t with bare := if wiping then under else decide (s.cx t 0x68 26 6 = 0) } else s'
    let s' := if under then s'.setCx t 0x0C 16 1 1 else s'
    let s' := s'.setCx t 0xB8 26 6 (((s.cx t 0xB8 26 6 : Int) + moved) % 33).toNat
    let s' := if s.cx t 0x80 0 2 < 2 then (s'.setCx t 0x90 0 27 (s.lfsrA t chip)).setCx t 0x9C 0 27 (s.lfsrB t chip) else s'
    let cost := if 2 ≤ s.cx t 0x80 0 2 then 0
      else if 0 ≤ moved then (moved.toNat + 15) / 16 else ((len - (-moved).toNat % len) % len + 15) / 16
    (s', cost)

/-- The 96-bit carrier phase steps by a signed C32. -/
def State.stepCarrier (s : State) (t : Nat) (v : Int) : State :=
  let carr := (signed 64 (s.cx64 t 0x48) * 2 ^ 32 + s.cx t 0x40 0 32 + v) % 2 ^ 96
  (s.setCx t 0x40 0 32 (carr.toNat % 2 ^ 32)).store (ctxAddr t + 0x48) 8 (carr.toNat / 2 ^ 32)

/-- `end` on a track sequencer: the invocation's effects apply in program order, then its phase steps; the track is eligible again
and the sequencer free (R159, R169). -/
def State.retire (s : State) (e : Nat) : State :=
  let x := s.eng e
  let t := x.track
  let s := (s.shadow e).stepCarrier t x.carrStep.toInt
  let (s, cost) := s.stepCode t x.codeStep
  let s := s.countCycles e (x.ran + 6 + cost)
  (s.setTrk t { s.trk t with busy := false }).setEng e {}

end Sys2Proof.Machine
end

