-- ==== Sys2Proof/Machine/Flow.lean ====
section
/-! DEFINITION. Class F, the control contexts' command queues and states, and the execution watchdog (R177–R179, R191–R198). -/

namespace Sys2Proof.Machine

/-! ### Branches and calls (R177, R179) -/

/-- A word index that a signed offset reaches; one outside the program store faults on the fetch. -/
def wordAt (i : Int) : Nat := (i % 2 ^ 30).toNat

/-- Does the branch condition hold (R177)? None for a reserved one, or an FL condition with a register. -/
def State.condition (s : State) (e cond a : Nat) : Option Bool :=
  let x := s.gi e a
  let fl := fun n => if a = 0 then some ((s.eng e).fl.testBit n) else none
  match cond with
  | 0 => some (decide (x = 0))
  | 1 => some (decide (x ≠ 0))
  | 2 => some (decide (x < 0))
  | 3 => some (decide (0 ≤ x))
  | 4 => some (decide (x ≤ 0))
  | 5 => some (decide (0 < x))
  | 6 => if a = 0 then some true else none
  | 8 => fl 0
  | 9 => fl 1
  | 10 => fl 2
  | _ => none

def execBCond (e cond a : Nat) (off : Int) (s : State) : Out :=
  .next (s.instr e notDma 1 false fun s =>
    match s.condition e cond a with
    | none => (s, 0x01)
    | some false => (s.advance e, 0)
    | some true => ((s.spend e 1).branchTo e (wordAt ((s.eng e).pc + 1 + off)), 0))

def execJmp (e tgt : Nat) (s : State) : Out := .next (s.instr e notDma 2 false fun s => (s.branchTo e tgt, 0))

/-- A call keeps the loops of its depth and remembers its own word; a ninth raises STACK. -/
def State.callTo (s : State) (e pc : Nat) : State × Nat :=
  let x := s.eng e
  if 8 ≤ x.calls.length then (s, 0x08) else ((s.setEng e { x with calls := x.pc :: x.calls }).setPc e pc, 0)

def execCall (e tgt : Nat) (s : State) : Out := .next (s.instr e notDma 2 false fun s => s.callTo e tgt)

/-- ret: the loops the callee left open go, and the word after the call follows; with no call open it raises STACK. -/
def execRet (e : Nat) (s : State) : Out :=
  .next (s.instr e notDma 2 false fun s =>
    let x := s.eng e
    match x.calls with
    | [] => (s, 0x08)
    | c :: rest =>
      ((s.setEng e { x with calls := rest, loops := x.loops.dropWhile fun f => decide (rest.length < f.depth) }).advanceFrom e c, 0))

def execJr (e a : Nat) (s : State) : Out :=
  .next (s.instr e notDma 2 false fun s => (s.branchTo e ((s.g e a).toNat % 2 ^ 17), 0))

def execCallr (e a : Nat) (s : State) : Out :=
  .next (s.instr e notDma 2 false fun s => s.callTo e ((s.g e a).toNat % 2 ^ 17))

def execNop (e : Nat) (s : State) : Out := .next (s.instr e notDma 1 true fun s => (s, 0))

/-- loop: `len` words, g[a] times; a count of 0 skips the body; a fifth nested loop raises STACK, a body of no word ILLEGAL_OP (R177, R179). -/
def execLoop (e a len : Nat) (s : State) : Out :=
  .next (s.instr e onAll 1 false fun s =>
    let x := s.eng e
    let n := (s.g e a).toNat
    if len = 0 then (s, 0x01)
    else if n = 0 then (s.advanceFrom e (x.pc + len), 0)
    else if 4 ≤ x.loops.length then (s, 0x08)
    else
      let f : LoopFrame := ⟨x.pc + 1, x.pc + len, n, x.calls.length⟩
      ((s.setEng e { x with loops := f :: x.loops }).setPc e (x.pc + 1), 0))

/-- link: on at a byte address of system SRAM; outside the program store a track program or context raises PC_RANGE (R178). -/
def execLink (e addr : Nat) (s : State) : Out :=
  .next (s.instr e onAll 2 false fun s =>
    if kindOf e = .dma then (s.branchTo e (addr / 4), 0)
    else if addr < 0x10780000 ∨ 0x10800000 ≤ addr then (s, 0x04)
    else (s.branchTo e ((addr - 0x10780000) / 4), 0))

/-! ### Commands of a context (R191–R193) -/

/-- A command completes: CMD_DONE where its IRQ bit is set or its status is not OK (R192). -/
def State.cmdDone (s : State) (n tag : Nat) (irq : Bool) (status : Nat) : State :=
  if irq ∨ status ≠ 0 then s.postEvent n (8 + n) 0x01 tag status else s

/-- `end`: every loop ends; a track program retires, a context's command completes, a DMA channel parks (R178, R179, R372, R373). -/
def execEnd (e : Nat) (s : State) : Out :=
  .next (s.instr e onAll 1 false fun s =>
    match kindOf e with
    | .track => (s.retire e, 0)
    | .ctx =>
      let x := s.eng e
      ((s.cmdDone (e - 32) x.tag x.irq 0).ctxGo (e - 32) 1, 0)
    | .dma =>
      let s := s.setEng e { s.eng e with loops := [] }
      (((s.pchGo (e - 40) 3).dmaIrq false (e - 24)).pchDoorbell (e - 40), 0))

/-- Does context `n`, IDLE and enabled, find an entry in its queue, and with this OP (R191, R195)? -/
def State.hasEntry (s : State) (n : Nat) (ok : Nat → Bool) : Bool :=
  decide (n < 8) && s.inRun 18 && decide (s.rd (F.LYZ_CTX_STAT_STATE n) = 1) && s.on ⟨Reg.LYZ_CTRL, n, 1⟩ &&
  decide (s.queueFill n ≠ 0) && ok ((s.queueWord n (s.rd (F.LYZ_CTX_QHEAD_INDEX n)) 0).toNat % 256)

/-- Word `j` of the entry in front. -/
def State.entryWord (s : State) (n j : Nat) : Word := s.queueWord n (s.rd (F.LYZ_CTX_QHEAD_INDEX n)) j

/-- The entry in front has been fetched: the head passes it, and TAG is that of the entry. -/
def State.takeEntry (s : State) (n : Nat) : State :=
  let tag := (s.entryWord n 0).toNat / 65536
  let s := if s.on (F.LYZ_CTX_QCFG_HOSTMEM n) then s else s.readDone (8 + n) (s.queueAddr n (s.rd (F.LYZ_CTX_QHEAD_INDEX n))) 8
  (s.wr (F.LYZ_CTX_QHEAD_INDEX n) ((s.rd (F.LYZ_CTX_QHEAD_INDEX n) + 1) % s.queueSz n)).wr (F.LYZ_CTX_STAT_TAG n) tag

/-- TAG and IRQ of the entry in front. -/
def State.entryTag (s : State) (n : Nat) : Nat := (s.entryWord n 0).toNat / 65536
def State.entryIrq (s : State) (n : Nat) : Bool := (s.entryWord n 0).toNat.testBit 8

/-- RUN: the context is set up and starts at the entry word (R192). -/
def execRun (n : Nat) (s : State) : Out :=
  .next (s.whenB (s.hasEntry n (· = 0x01)) fun s =>
    let e := 32 + n
    let head := s.rd (F.LYZ_CTX_QHEAD_INDEX n)
    let x : Engine := { k := (s.eng e).k, pc := (s.entryWord n 1).toNat % 2 ^ 17, tag := s.entryTag n, irq := s.entryIrq n, since := s.now }
    let words := (List.range 6).map fun j => s.entryWord n (2 + j)
    let s := (s.takeEntry n).setEng e x
    let s := words.zipIdx.foldl (fun s w => s.setK e w.2 w.1) s
    ((s.setG e 1 (BitVec.ofNat 32 head)).setG e 2 (BitVec.ofNat 32 x.tag)).ctxGo n 2)

/-- Copies words to the program store for `owner`, from host memory or from the device, where an uncorrectable word is met on access. -/
def State.copyWords (s : State) (owner : Nat) (host : Bool) (dst src : Nat) : Nat → State
  | 0 => s
  | k + 1 =>
    let w := if host then BitVec.ofNat 32 (s.hostLoad src 4) else s.seen src 0
    let s := if host then s else s.readDone owner src 1
    (s.st32 dst w).copyWords owner host (dst + 4) (src + 4) k

/-- LOAD (R193): the first status that applies, or the copy. -/
def execLoad (n : Nat) (s : State) : Out :=
  .next (s.whenB (s.hasEntry n (· = 0x02)) fun s =>
    let host := s.on (F.LYZ_CTX_QCFG_HOSTMEM n)
    let dst := (s.entryWord n 1).toNat % 2 ^ 17
    let src := (s.entryWord n 2).toNat + (if host then 2 ^ 32 * (s.entryWord n 3).toNat else 0)
    let count := (s.entryWord n 4).toNat
    let status := if 131072 < dst + count then 0x20
      else if dst < s.rd F.LYZ_PS_FW_FW_WORDS then 0x21
      else if ¬ (if host then s.inRun 17 && decide (s.host.sel = 0) else s.readable src (4 * count)) then 0x09
      else 0
    let tag := s.entryTag n
    let irq := s.entryIrq n
    let s := s.takeEntry n
    let s := if status = 0 then (s.copyWords (8 + n) host (0x10780000 + 4 * dst) src count).dropLines (0x10780000 + 4 * dst) (4 * count) else s
    s.cmdDone n tag irq status)

/-- FENCE: every event is visible as soon as it is posted, so the queue goes on (R191). -/
def execFence (n : Nat) (s : State) : Out :=
  .next (s.whenB (s.hasEntry n (· = 0x03)) fun s => (s.takeEntry n).cmdDone n (s.entryTag n) (s.entryIrq n) 0)

/-- Any other OP completes with BAD_OP (R191). -/
def execBadOp (n : Nat) (s : State) : Out :=
  .next (s.whenB (s.hasEntry n (fun op => !([1, 2, 3].contains op))) fun s =>
    (s.takeEntry n).cmdDone n (s.entryTag n) (s.entryIrq n) 0x22)

/-- QUEUE_DOORBELL: the tail is written, whether SEQ runs or not (R191, R195). -/
def execQueueDoorbell (owner n tail : Nat) (s : State) : Out :=
  .next (if n < 8 then s.command owner (Reg.LYZ_CTX_QTAIL n) (·.wr (F.LYZ_CTX_QTAIL_INDEX n) tail) else s)

/-! ### Context states (R195) -/

/-- halt: RESUME continues after it. -/
def execHalt (e : Nat) (s : State) : Out := .next (s.instr e onCtx 1 false fun s => ((s.advance e).ctxGo (e - 32) 4, 0))

/-- A context's STATE: OFF while SEQ is not in Run, whatever its register holds (R195). -/
def State.ctxState (s : State) (n : Nat) : Nat := if s.inRun 18 then s.rd (F.LYZ_CTX_STAT_STATE n) else 0

/-- RESUME: a HALTED context goes on; a FAULTED one's command ends. -/
def State.ctxResume (s : State) (n : Nat) : State :=
  match s.ctxState n with
  | 4 => (s.setEng (32 + n) { s.eng (32 + n) with ran := 0, since := s.now }).ctxGo n 2
  | 5 => s.ctxGo n 1
  | _ => s

def execCtxResume (owner n : Nat) (s : State) : Out :=
  .next (if n < 8 then s.command owner (Reg.LYZ_CTX_CMD n) (·.ctxResume n) else s)

/-- RESET: the command is abandoned, CMD_DONE posted, transactions, claims and votes of the context end (R189, R195). -/
def State.ctxReset (s : State) (n : Nat) : State :=
  if s.ctxState n = 0 then s
  else
    let x := s.eng (32 + n)
    let s := s.setEng (32 + n) { k := x.k, tag := x.tag }
    let s := (List.range 19).foldl (fun (s : State) d =>
      { s with power := { s.power with ctxVotes := put 0 s.power.ctxVotes (n * 32 + d) 0 } }) s
    let s := s.ownerReset (8 + n)
    (s.postEvent n (8 + n) 0x01 x.tag 0x23).ctxGo n 1

def execCtxReset (owner n : Nat) (s : State) : Out :=
  .next (if n < 8 then s.command owner (Reg.LYZ_CTX_CMD n) (·.ctxReset n) else s)

/-- LYZ_SIG_SET: each 1 sets its signal (R190). -/
def State.setSignals (s : State) (v : Word) : State := s.setReg Reg.LYZ_SIG (s.reg Reg.LYZ_SIG ||| v)

def execSigSet (owner : Nat) (v : Word) (s : State) : Out := .next (s.command owner Reg.LYZ_SIG_SET (·.setSignals v))

/-! ### The program store, the watchdog and illegal words (R156, R160, R176, R198) -/

/-- A write of a program-store word; one to the firmware's words from any owner but cores 0–3 is dropped with TGT_ERR (R176). -/
def State.writeProgram (s : State) (owner a : Nat) (v : Word) : State :=
  if (a - 0x10780000) / 4 < s.rd F.LYZ_PS_FW_FW_WORDS ∧ ¬ (1 ≤ owner ∧ owner ≤ 4) then s.tgtErr owner
  else ((s.st32 (a / 4 * 4) v).dropLines (a / 4 * 4) 4).okay owner

/-- PROGRAM_STORE_WRITE. -/
def execProgramStoreWrite (owner a : Nat) (v : Word) (s : State) : Out :=
  .next (if 0x10780000 ≤ a ∧ a < 0x10800000 then
    s.ifHeard owner a true fun s => if s.inRun 1 then s.writeProgram owner a v else s.offBlock owner a true
  else s)

/-- The run time, in FCLK, at which the watchdog stops an engine. -/
def State.runLimit (s : State) (e : Nat) : Nat :=
  if kindOf e = .track then max 1 (s.rd F.LYZ_WDOG_TRK_LIM) * 64 else max 1 (min 60 (s.rd F.LYZ_WDOG_CTL_LIM)) * 16384

/-- How long an engine has run: what its instructions took, or, for a context or a channel, the FCLK that have passed since it began to
(log 135). -/
def State.runTime (s : State) (e : Nat) : Nat :=
  if kindOf e = .track then (s.eng e).ran else max (s.eng e).ran (s.now - (s.eng e).since)

/-- EXECUTION_WATCHDOG: an engine in RUN past its limit faults BUDGET, and source 37 rises (R198). -/
def execExecutionWatchdog (e : Nat) (s : State) : Out :=
  .next (if ¬ s.issues e ∨ s.pausing e ∨ s.runTime e < s.runLimit e then s
  else s.oneCycle fun s => (s.engFault e 0x06).pulseSrc 37 0 ((s.engFault e 0x06).reg Reg.LYZ_FLT_INFO))

/-- May the engine execute the word (R158)? -/
def mayExecute (k : Kind) (w : Word) : Bool :=
  match k with
  | .track => trackMay w
  | .ctx => ctxMay w
  | .dma => dmaMay w

/-- ILLEGAL_OPCODE: the fetched word spells no instruction, or none that the engine may execute; any other word is the command that it
spells (R156, R158). -/
def execIllegalOpcode (e : Nat) (word : Word) (s : State) : Out :=
  .next (s.whenB (!((lyzDecode e word).isSome && mayExecute (kindOf e) word)) fun s => s.instr e onAll 1 true fun s => (s, 0x01))

end Sys2Proof.Machine
end

