-- ==== Sys2Proof/Machine/Trigger.lean ====
section
/-! DEFINITION. Kyonino's triggers: arming, lateness and firing (R273–R276). -/

namespace Sys2Proof.Machine

def State.trig (s : State) (k : Nat) : Trig := look {} s.time.trigs k

def State.setTrig (s : State) (k : Nat) (t : Trig) : State := { s with time := { s.time with trigs := put {} s.time.trigs k t } }

/-- The target that TRGk_AT_* name. -/
def State.trgAt (s : State) (k : Nat) : Nat :=
  dtOf (s.rd (F.TRG_AT_SEC_LO_SEC_LO k) + 2 ^ 32 * s.rd (F.TRG_AT_SEC_HI_SEC_HI k)) (s.rd (F.TRG_AT_NS_NS k))

/-- PERIOD in force in 2^-32 ns, 0 for a single shot. -/
def State.trgPeriod (s : State) (k : Nat) : Nat :=
  let p := s.rd (F.TRG_PERIOD_PERIOD k)
  if p = 0 then 0 else max 1000 p * 2 ^ 32

/-- The first occurrence later than `dt`, and how many occurrences from `target` on are not. -/
def nextTarget (target period dt : Nat) : Nat × Nat :=
  if dt < target then (target, 0)
  else
    let n := (dt - target) / max 1 period + 1
    (target + n * period, n)

/-! ### The actions of a firing trigger (R274) -/

/-- SNAP: entries of the Mill that wait for a trigger to capture this stream begin at the next boundary (R205). -/
def State.trgSnap (s : State) (n : Nat) : State :=
  let go (e : MillEntry) : MillEntry := if e.phase = .trigger ∧ e.stream = n then { e with phase := .boundary } else e
  { s with mill := { s.mill with entries := s.mill.entries.map go } }

/-- DMA: the channel starts as by its own start bit, on behalf of the trigger's owner. -/
def State.trgDma (s : State) (k : Nat) : State :=
  let owner := s.ownerOf (0x2000 + k)
  let ch := s.rd (F.TRG_CFG_DMACH k)
  if 24 ≤ ch then s
  else
    let a := if ch < 16 then Reg.DMA_BCH_CMD ch else Reg.DMA_PCH_CMD (ch - 16)
    let res := if ch < 16 then 0x3000 + ch else 0x4000 + (ch - 16)
    if ¬ s.inRun 18 then { s.offBlock owner a true with answer := s.answer }
    else if ¬ s.mayConfigure owner res then s
    else if ch < 16 then s.bchStart owner ch else s.pchStart (ch - 16)

/-- CTX: a RUN entry goes to the context's queue (R192). -/
def State.trgCtx (s : State) (k : Nat) : State :=
  s.submit (s.ownerOf (0x2000 + k)) (s.rd (F.TRG_CFG_CONTEXT k))
    [BitVec.ofNat 32 (1 + 65536 * s.rd (F.TRG_TAG_TAG k)), s.reg (Reg.TRG_CTX k), 0, 0, 0, 0, 0, 0]

/-- Every action that CFG enables, in the order of R274's table. -/
def State.trgActions (s : State) (k : Nat) : State :=
  let cfg := s
  let s := if cfg.on (F.TRG_CFG_PIN k) then
    s.setTrig k { s.trig k with pinUntil := s.now + 16 * max 1 (s.rd (F.TRG_CFG_PIN_W k)) } else s
  let s := if cfg.on (F.TRG_CFG_SNAP k) then s.trgSnap (s.rd (F.TRG_CFG_STREAM k)) else s
  let s := if cfg.on (F.TRG_CFG_DMA k) then s.trgDma k else s
  let s := if cfg.on (F.TRG_CFG_CTX k) then s.trgCtx k else s
  if cfg.on (F.TRG_CFG_WAKE k) then
    (s.setTriggerVotes k ((s.trig k).votes ||| s.rd (F.TRG_WAKE_DOMAINS k))).settle else s

/-- The trigger fires: its actions and its event bit. -/
def State.trgFire (s : State) (k : Nat) : State := (s.trgActions k).event ⟨Reg.CAPTRG_EVT, 8 + k, 1⟩

/-- After a firing: a single shot clears ARM and reads FIRED, a periodic trigger stays armed for `next` (R273). -/
def State.trgAfter (s : State) (k next : Nat) : State :=
  if s.trgPeriod k = 0 then (s.wr (F.TRG_CFG_ARM k) 0).wr (F.TRG_STAT_STATE k) 2
  else s.setTrig k { s.trig k with target := next }

/-! ### Arming (R273, R275) -/

/-- An armed trigger whose target DT has already reached is late; without DT it waits for the rebuild (R284). -/
def State.trgEvaluate (s : State) (k : Nat) : State :=
  let t := (s.trig k).target
  let dt := s.time.kyo.dt
  let next := (nextTarget t (s.trgPeriod k) dt).1
  if ¬ s.dtOk ∨ dt < t then s
  else if s.on (F.TRG_CFG_LATE k) then ((s.trgFire k).wr (F.TRG_STAT_LATE k) 1).trgAfter k next
  else if s.trgPeriod k = 0 then
    (((s.wr (F.TRG_CFG_ARM k) 0).wr (F.TRG_STAT_MISSED k) 1).wr (F.TRG_STAT_STATE k) 0).event F.CAPTRG_EVT_TRG_MISSED
  else (s.wr (F.TRG_STAT_MISSED k) 1).trgAfter k next

/-- An ARM write has landed: the trigger is armed for TRGk_AT_*, or IDLE with ARM = 0. -/
def State.trgArm (s : State) (k : Nat) : State :=
  if s.on (F.TRG_CFG_ARM k) then
    ((s.setTrig k { s.trig k with target := s.trgAt k }).wr (F.TRG_STAT_STATE k) 1).trgEvaluate k
  else if s.rd (F.TRG_STAT_STATE k) = 1 then s.wr (F.TRG_STAT_STATE k) 0
  else s

/-- Is the trigger armed with DT at or past its target? -/
def State.trgDue (s : State) (k : Nat) : Bool :=
  decide (k < 16) && s.dtOk && decide (s.rd (F.TRG_STAT_STATE k) = 1 ∧ (s.trig k).target ≤ s.time.kyo.dt)

/-- TRIGGER_FIRE (R273): the first FCLK edge at which DT has reached the target. -/
def execTriggerFire (k : Nat) (s : State) : Out :=
  .next (s.whenB (s.trgDue k) fun s => (s.trgFire k).trgAfter k ((s.trig k).target + s.trgPeriod k))

/-- A forward step passes armed targets: the trigger fires once on the step's edge, and the periodic occurrences stepped over are
counted (R276). -/
def State.trgStepped (s : State) (k : Nat) : State :=
  if s.trgDue k then
    let (next, n) := nextTarget (s.trig k).target (s.trgPeriod k) s.time.kyo.dt
    let s := ((s.trgFire k).wr (F.TRG_STAT_STEPPED k) 1).sat (F.TRG_STAT_SKIPPED k) (if s.trgPeriod k = 0 then 0 else n - 1)
    s.trgAfter k next
  else s

end Sys2Proof.Machine
end

