-- ==== Sys2Proof/Machine/Rwt.lean ====
section
/-! DEFINITION. What a landed write to RWT fields does in its block, and who may write them (R7, R48, R71, R82, R85, R113, R265, R272,
R274, R286). -/

namespace Sys2Proof.Machine

/-! ### Claims on RWT registers (R48, R113, R272, R274) -/

/-- The output whose configuration register stands at `a`. -/
def tpOf (a : Nat) : Option Nat :=
  if 0x400E1000 ≤ a ∧ a < 0x400E1080 ∧ a % 0x20 ≤ 0x10 then some ((a - 0x400E1000) / 0x20) else none

/-- The trigger whose configuration register stands at `a`. -/
def trgOf (a : Nat) : Option Nat :=
  if 0x400E2200 ≤ a ∧ a < 0x400E2400 then some ((a - 0x400E2200) / 0x20)
  else if 0x400E2500 ≤ a ∧ a < 0x400E2540 then some ((a - 0x400E2500) / 4)
  else none

/-- The capture channel whose CFG or COMP stands at `a`. -/
def capOf (a : Nat) : Option Nat := if 0x400E2000 ≤ a ∧ a < 0x400E2120 then some ((a - 0x400E2000) / 0x20) else none

/-- The RATE that a stream will have: the one `owner` has journaled in its open transaction, or the committed one. -/
def State.rateFor (s : State) (owner n : Nat) : Nat :=
  let t := s.txn 1
  let f := F.CHZ_STR_CFG_RATE n
  match (if t.owner = owner then t.journal else []).find? fun e => decide (e.addr = f.addr) with
  | some e => bits e.value f.lo f.w
  | none => s.cfgRate n

/-- Does `owner` hold every page of the range that `v`, written to RING_STRn_ALLOC, names (R113)? -/
def State.ownsPages (s : State) (owner n : Nat) (v : Word) : Bool :=
  (List.range (max 1 (pagesOf (s.rateFor owner n) (bits v 8 5)))).all fun i =>
    decide (96 ≤ bits v 0 7 + i) || s.mayConfigure owner (0x7000 + bits v 0 7 + i)

/-- May `owner` write `v` to the RWT fields of the register at `a`? Registers of no claimable resource are open to all. -/
def State.claimOk (s : State) (owner a : Nat) (v : Word) : Bool :=
  match tpOf a, trgOf a, capOf a with
  | some n, _, _ => s.mayConfigure owner (0x6000 + n)
  | _, some k, _ => s.mayConfigure owner (0x2000 + k)
  | _, _, some m => if m = 8 then isCore owner else s.mayConfigure owner (0x5000 + m)
  | _, _, _ => if 0x40080000 ≤ a ∧ a < 0x40080300 then s.ownsPages owner ((a - 0x40080000) / 0x20) v else true

/-- Would `v`, written to a TRGk_CFG, arm the trigger with a DMA channel its owner does not hold (R274)? -/
def State.dmaArmBad (s : State) (owner a : Nat) (v : Word) : Bool :=
  let ch := bits v 13 5
  decide (0x400E2200 ≤ a ∧ a < 0x400E2400 ∧ a % 0x20 = 0) && v.toNat.testBit 0 && v.toNat.testBit 4 &&
  !(decide (ch < 16) && s.mayConfigure owner (0x3000 + ch) || decide (16 ≤ ch ∧ ch < 24) && s.mayConfigure owner (0x4000 + (ch - 16)))

/-! ### The write itself -/

/-- The RWT bits of the register at `a`. -/
def rwtMask (a : Nat) : Word :=
  match rowOf a with
  | none => 0
  | some r => r.mask (· = .rwt)

/-- The RWT fields of the register at `a` take their bits of `v`. -/
def State.setRwt (s : State) (a : Nat) (v : Word) : State :=
  s.setReg a ((s.reg a &&& ~~~(rwtMask a)) ||| (v &&& rwtMask a))

/-- A pulse output with a PERIOD or OFFSET that forms no grid keeps its configuration: every write to it is ignored, CFG_ERR set
(R265). -/
def State.dropBadTp (s : State) (j : List JEntry) : State × List JEntry :=
  let after := j.foldl (fun (s : State) e => s.setRwt e.addr e.value) s
  let touched := fun n => j.any fun e => decide (tpOf e.addr = some n)
  let bad := fun n => touched n && !gridOk (after.rd (F.TP_PERIOD_PERIOD n)) (after.rd (F.TP_OFFSET_OFFSET n))
  ((List.range 4).foldl (fun s n => if touched n then s.wr (F.TP_STAT_CFG_ERR n) (if bad n then 1 else 0) else s) s,
   j.filter fun e => match tpOf e.addr with
     | none => true
     | some n => !bad n)

/-! ### What a landed write does at once -/

/-- CLK_REFCFG: an input that is disabled is not qualified and not checked (R72). -/
def State.refcfgLanded (s : State) : State :=
  let s := if s.on F.CLK_REFCFG_A_EN then s else (s.wr F.CLK_REFSTAT_A_OK 0).lower 32
  if s.on F.CLK_REFCFG_B_EN then s else (s.wr F.CLK_REFSTAT_B_OK 0).lower 33

/-- RFPn_CTRL: bias off clears its conditions (R85); a chain switched off makes its blocks invalid (R111). -/
def State.rfpLanded (s old : State) (p : Nat) : State :=
  let s := if s.on (F.RFP_CTRL_BIAS_EN p) then s else s.biasClear p
  let was := old.rd (F.RFP_CTRL_CHAIN_EN p)
  let now := s.rd (F.RFP_CTRL_CHAIN_EN p)
  s.markAdcs chainOffBit (((List.range 3).filter fun g => was.testBit g && !now.testBit g).map (3 * p + ·))

/-- Does port `n` support the MODE code (R286)? -/
def portMode (n m : Nat) : Bool :=
  decide (m = 0) || (if n ≤ 1 then decide (1 ≤ m ∧ m ≤ 3) else if n = 2 then decide (m = 4) else decide (m = 5))

/-- NPn_CFG: an unsupported mode keeps the port down; a new mode or speed makes it retrain (R286). -/
def State.portLanded (s old : State) (n : Nat) : State :=
  let m := s.rd (F.NP_CFG_MODE n)
  let s := s.wr (F.NP_STAT_CFG_ERR n) (if portMode n m then 0 else 1)
  if portMode n m ∧ m = old.rd (F.NP_CFG_MODE n) ∧ m ≠ 0 ∧ s.rd (F.NP_CFG_SPEED n) = old.rd (F.NP_CFG_SPEED n) then s
  else s.dropLink n

/-- The ADPLL of which `a` is CTRL, NINT, NNUM, NDEN or a band entry. -/
def pllOf (a : Nat) : Option Nat :=
  if 0x40040000 ≤ a ∧ a < 0x40046000 ∧ (a % 0x1000 < 0x10 ∨ 0x100 ≤ a % 0x1000) then some ((a - 0x40040000) / 0x1000) else none

/-- What the landing of a write to the register at `a` does beyond the register; `old` is the state before the landing. -/
def State.landed (s old : State) (a : Nat) : State :=
  if a = Reg.CLK_REFCFG then s.refcfgLanded
  else if 0x40050000 ≤ a ∧ a < 0x40054000 ∧ a % 0x1000 = 0 then s.rfpLanded old ((a - 0x40050000) / 0x1000)
  else if 0x40070000 ≤ a ∧ a < 0x40070180 ∧ a % 0x10 = 0 then
    let n := (a - 0x40070000) / 0x10
    if s.streamWanted n ∧ s.rd (F.CHZ_STR_STAT_STATE n) = 0 then s.streamGo n 1 else s
  else if (List.range 3).any fun g => decide (a = Reg.INJ_GRP_CFG g) then s.rlSync
  else if a = Reg.TRK_RAW_SIZE then s.pace
  else if a = Reg.KYO_HOLD_BUDGET ∨ a = Reg.KYO_CTRL then s.squelchRule
  else if a = Reg.MILL_CTRL then s.millShow
  else if 0x400F1000 ≤ a ∧ a < 0x400F5000 ∧ a % 0x1000 = 0 then s.portLanded old ((a - 0x400F1000) / 0x1000)
  else match tpOf a, trgOf a with
    | some n, _ => if 4 ≤ a % 0x20 ∧ a % 0x20 ≤ 0xC then s.reshape n else s
    | _, some k =>
      if a = Reg.TRG_CFG k then s.trgArm k
      else if a = Reg.TRG_WAKE k then (s.setTriggerVotes k ((s.trig k).votes &&& s.rd (F.TRG_WAKE_DOMAINS k))).settle
      else s
    | _, _ => s

/-- Journaled writes land together (R37): every field first, then what each write does; an ADPLL takes its new configuration
once. -/
def State.applyRwt (s : State) (j : List JEntry) : State :=
  let (t, j) := s.dropBadTp j
  let u := j.foldl (fun (u : State) e => u.setRwt e.addr e.value) t
  let u := (List.range 6).foldl (fun u p => if j.any fun e => decide (pllOf e.addr = some p) then
    u.pllCommitted s p (j.any fun e => [Reg.PLL_NINT p, Reg.PLL_NNUM p, Reg.PLL_NDEN p].contains e.addr) else u) u
  j.foldl (fun u e => u.landed s e.addr) u

end Sys2Proof.Machine
end

