-- ==== Sys2Proof/Machine/Power.lean ====
section
/-! DEFINITION. Votes and power domains: raising and withdrawing, waking, draining, isolation, Stop and the wake sources (R20,
R309–R317, R326, R431). -/

namespace Sys2Proof.Machine

/-! ### PWR_VOTE (R310) -/

/-- The vote client of an owner. -/
def clientOf (owner : Nat) : Option Nat :=
  if 1 ≤ owner ∧ owner ≤ 5 then some (owner - 1)
  else if 16 ≤ owner ∧ owner ≤ 18 then some owner
  else if owner = 20 then some 19 else none

/-- A client's votes on every domain of a mask; bit 0 is ignored. -/
def State.votes (s : State) (c mask : Nat) (up : Bool) : State :=
  (List.range 19).foldl (fun s d => if mask.testBit d then s.vote c d up else s) s

/-- A write to PWR_VOTE. -/
def State.pwrVote (s : State) (owner mask : Nat) (up : Bool) : State :=
  let note (s : State) (v : Nat) : State := { s with power := { s.power with noClient := put 0 s.power.noClient owner v } }
  match clientOf owner with
  | none => ((note s 1).event F.PWR_EVT_NO_CLIENT).tgtErr owner
  | some c => ((note s 0).votes c mask up).settle

def execPwrVoteRaise (owner mask : Nat) (s : State) : Out := .next (s.command owner Reg.PWR_VOTE (·.pwrVote owner mask true))

def execPwrVoteWithdraw (owner mask : Nat) (s : State) : Out := .next (s.command owner Reg.PWR_VOTE (·.pwrVote owner mask false))

/-- Bits written to PWR_WAKE_HOLD withdraw client 20's votes (R316). -/
def State.wakeRelease (s : State) (mask : Nat) : State :=
  ((List.range 19).foldl (fun s d => if mask.testBit d then (s.vote 20 d false).wr ⟨Reg.PWR_WAKE_HOLD, d, 1⟩ 0 else s) s).settle

/-! ### What a domain does when it enters Run (R311) -/

/-- The island starts to run: at a release by the Boot ROM, or from its retained SRAM; its first self-test begins (R346). -/
def State.islandStart (s : State) : State :=
  if s.inRun 2 ∧ ¬ s.safety.fatal ∧ ¬ s.on F.OCQ_STAT_RUN then
    let s := ((s.wr F.OCQ_STAT_RUN 1).mark .heartbeat).mark .selfTest
    { s with safety := { s.safety with selfTested := false } }.selfTest
  else s

/-- CORE is waking and has neither booted nor resumed: whether the island starts from its retained SRAM is still open (R346). -/
def State.wakeOpen (s : State) : Bool := s.boot.due || decide (s.dom 1 = 1)

/-- OCQ enters Run: sources already high rise, a FATAL safe state is in force again, an island that is not held in reset starts from its
retained SRAM, on a CORE wake once it is known that it resumes (R15, R345–R347). -/
def State.ocqRun (s : State) : State := s.oneCycle fun s =>
  let high := s.safety.level.map (·.1)
  let s := high.foldl (fun s n => let d := look (0, 0) s.safety.detail n; s.fltNote n d.1 d.2 0) s
  let s := if s.safety.fatal then (s.wr F.OCQ_STAT_FATAL 1).enterSafe s.safety.fatalCause else s
  let s := high.foldl (fun s n => s.fltAct n 0) s
  if s.boot.islandLoad || s.wakeOpen then s else s.islandStart

/-- PCIe link training follows HOST; speed and width are the link partner's (log 45). -/
def State.hostRun (s : State) : State :=
  if s.host.sel = 0 then
    let (v, s) := s.draw
    ((s.wr F.PCIE_STAT_LINK 1).wr F.PCIE_STAT_SPEED (v % 3 + 1)).wr F.PCIE_STAT_WIDTH (v / 3 % 2 + 1)
  else s

/-- The contexts leave OFF (R195). -/
def State.seqRun (s : State) : State := (List.range 8).foldl (fun s n => s.wr (F.LYZ_CTX_STAT_STATE n) 1) s

/-- TIME enters Run: what its converters and ladders delay is not known until a calibration measures it (log 127); the first one starts. -/
def State.timeRun (s : State) : State :=
  let s := (List.range 4).foldl (fun s n =>
    let (code, s) := s.drawNats 64
    s.setPulse n { s.pulse n with table := { (s.pulse n).table with code } }) s
  let s := (List.range 13).foldl (fun s _ =>
    let (code, s) := s.drawNats 64
    { s with time := { s.time with ladders := s.time.ladders ++ [code] } }) s
  s.tpCalStart

/-- What domain `d` does as it enters Run. -/
def State.domainRuns (s : State) (d : Nat) : State :=
  if d = 1 then
    let s := s.wr F.TRK_SCRUB_CLEARING 1
    { s with boot := { s.boot with due := true } }
  else if d = 2 then s.ocqRun
  else if 8 ≤ d ∧ d ≤ 13 then s.wr (F.POD_STAT_STATE (d - 8)) 1
  else if d = 14 then s.millShow
  else if d = 15 then s.timeRun
  else if d = 16 then s.handOver
  else if d = 17 then s.hostRun
  else if d = 18 then s.seqRun.pace
  else s

/-- DOMAIN_RUN: a waking domain enters RUN; one of 3–18 only once OCQ is in RUN. -/
def execDomainRun (d : Nat) (s : State) : Out :=
  .next (if 1 ≤ d ∧ d ≤ 18 ∧ s.dom d = 1 ∧ (d ≤ 2 ∨ s.inRun 2) then
    ((s.wr (F.PWR_DOM_STAT_STATE d) 2).domainRuns d).settle
  else s)

/-! ### What a domain loses when it goes OFF (R312, R317) -/

/-- FLT_CLASS, and the FLT_CTRL word, are retained while OCQ is OFF (R350). -/
def fltRetained (a : Nat) : Bool := decide ((Reg.FLT_CLASS 0 ≤ a ∧ a < Reg.FLT_CLASS 12) ∨ a = Reg.FLT_CTRL)

/-- RFPn_TUNE keeps the last committed code when its domain leaves Run (R99). -/
def tuneRetained (a : Nat) : Bool := [0, 1, 2, 3].any fun p => decide (a = Reg.RFP_TUNE p)

/-- The bits of the register at `a` that keep their value while its domain `d` is OFF: the settings of the ports, the sample path and the
pods, by which R311 lets them go on after a wake, and all of the Mill, which then fetches on (log 131). -/
def keptBits (d a : Nat) : Word :=
  if fltRetained a || tuneRetained a || decide (d = 14) then BitVec.allOnes 32
  else if 3 ≤ d ∧ d ≤ 13 then
    match rowOf a with
    | none => 0
    | some r => r.mask fun c => decide (c = .rw ∨ c = .rwt)
  else 0

/-- What an entry of the register file holds after its domain `d` has been OFF. -/
def keptEntry (d : Nat) (e : Nat × Word) : Option (Nat × Word) :=
  if domainOf e.1 ≠ some d then some e
  else
    let m := keptBits d e.1
    let v := resetOf e.1 &&& ~~~m ||| e.2 &&& m
    if v = resetOf e.1 then none else some (e.1, v)

/-- The registers of a domain return to their Reset values, but for the bits it keeps. -/
def State.loseRegs (s : State) (d : Nat) : State := { s with regs := s.regs.filterMap (keptEntry d) }

/-- The pools of a domain lose their content; the context store is cleared (R16), Ocquel's SRAM is always retained (R317). -/
def State.losePools (s : State) (d : Nat) : State :=
  let s := if d = 1 then s.forget 0x30000000 0x301FFFFF else s
  if lostRegions d (s.rd F.PWR_RET_BANKS) = [] then s else s.lose (lostRegions d (s.rd F.PWR_RET_BANKS))

/-- The fault sources that units of a domain hold (R347). -/
def sourcesOf (d : Nat) : List Nat :=
  if d = 1 then [12, 13, 14] ++ (List.range 17).map (· + 20) ++ [51, 64, 65]
  else if d = 2 then [19, 67, 69] ++ (List.range 64).map (· + 128)
  else if 3 ≤ d ∧ d ≤ 6 then [40 + d, 44 + d]
  else if d = 7 then [15, 42]
  else if 8 ≤ d ∧ d ≤ 13 then [d - 8, d - 2]
  else if d = 14 then [16]
  else if d = 15 then [38, 39, 40, 41, 66]
  else if d = 16 then [17]
  else []

/-- An engine is as after reset. -/
def State.clearEngines (s : State) (lo n : Nat) : State :=
  { s with lyz := { s.lyz with engines := s.lyz.engines.filter fun e => decide (e.1 < lo ∨ lo + n ≤ e.1) } }

/-- A pod leaves Run: what it swept and ran is lost; its tracks are advanced as their blocks pass (R150, R173). -/
def State.podOff (s : State) (p : Nat) : State :=
  let ran := (List.range 4).filterMap fun n =>
    let e := look {} s.lyz.engines (4 * p + n)
    if e.on then some e.track else none
  let s := ((s.pod p).listed ++ ran).foldl (fun s t => s.unlist t) s
  (s.setPod p {}).clearEngines (4 * p) 4

/-- CORE's chapters: ADPLLs, contexts, transactions, results and readings. -/
def State.coreOff (s : State) : State :=
  { s with
    txns := [], txnResult := [], fabric := { pods := s.fabric.pods }, mon := {}
    nav := if (s.rd F.PWR_RET_BANKS).testBit 0 then { s.nav with scanned := [] } else { saved := s.nav.saved }
    rf := { s.rf with plls := [], calRunning := [], calTemp := [], quietWait := [], badAt := [] }
    claims := { s.claims with result := [], query := [] }
    sample := { s.sample with adcReasons := [], gridCount := 0, blanked := [] }
    power := { s.power with lastAdmitted := [], slice := [], packFrom := none, packTo := none,
                            bank0Kept := (s.rd F.PWR_RET_BANKS).testBit 0 } }

/-- OCQ's own state is lost, but for FATAL, kept in LEAVEN (R345, R359). -/
def State.ocqOff (s : State) : State :=
  { s with safety := { s.safety with count := [], selfTested := false, coreAlarm := false } }

/-- NET's switch, FIFO and stacks' link state. -/
def State.netOff (s : State) : State :=
  let s := (List.range 3).foldl State.dropLink s
  { s with net := { s.net with macs := [], macSeen := [], queues := [], txts := [], esmcQl := [], unicast := [], ntpCount := 0 } }

/-- The host interfaces' FIFOs; the MSI-X table. -/
def State.hostOff (s : State) : State :=
  { s with host := { sel := s.host.sel, msiSent := s.host.msiSent, offCrumbAt := s.host.offCrumbAt } }

/-- SEQ's contexts, channels and pacing; client 6's votes go with the contexts. -/
def State.seqOff (s : State) : State :=
  let s := (List.range 8).foldl (fun s n => s.wr (F.LYZ_CTX_STAT_STATE n) 0) (s.clearEngines 32 16)
  let s := (List.range 19).foldl (fun s d => s.vote 6 d false) s
  { s with dma := {}, power := { s.power with ctxVotes := [] } }

/-- The edge counts of the pulses restart with TIME: who waits for an output's next active edge waits for the first from now on (R39,
R185). -/
def State.restartEdges (s : State) : State :=
  { s with
    txns := s.txns.map fun e => (e.1, if e.2.at0 then { e.2 with target := 0 } else e.2)
    lyz := { engines := s.lyz.engines.map fun e =>
      (e.1, match e.2.wait with
        | .tp n _ d => { e.2 with wait := .tp n 0 d }
        | _ => e.2) } }

/-- What domain `d` loses beyond registers, memory and claims. -/
def State.chapterOff (s : State) (d : Nat) : State :=
  if d = 1 then s.coreOff
  else if d = 2 then s.ocqOff
  else if 3 ≤ d ∧ d ≤ 6 then s.setPort (d - 3) { ser := (s.port (d - 3)).ser, shunt := (s.port (d - 3)).shunt }
  else if d = 7 then
    let s := (List.range 24).foldl (fun s n => s.passAll n) (s.setPins none none)
    { s with sample := { s.sample with streams := [], notchCfg := [], notchFreq := [], ringCtrl := resetOf Reg.RING_CTRL }, rf := { s.rf with injWait := none } }
  else if 8 ≤ d ∧ d ≤ 13 then s.podOff (d - 8)
  else if d = 14 then { s.millAbandon with mill := {} }
  else if d = 15 then
    let s := s.restartEdges
    { s with time := { record := s.time.record } }
  else if d = 16 then s.netOff
  else if d = 17 then s.hostOff
  else if d = 18 then s.seqOff
  else s

/-- Stop begins: the Ledger is updated before any wake is served (R314). -/
def State.enterStop (s : State) : State :=
  if (List.range 18).all fun i => decide (s.dom (i + 1) = 0) then
    let s := (s.ledgerCount 0x18 4).wr F.LEDGER_STAT_BUSY 1
    { s with power := { s.power with stopUpdate := true } }
  else s

/-- Domain `d` is isolated and loses power (R311). -/
def State.cutOff (s : State) (d : Nat) : State :=
  let s := s.chapterOff d
  let s := (sourcesOf d).foldl (fun s n => s.lower n) s
  (((s.loseRegs d).losePools d).wr (F.PWR_DOM_STAT_STATE d) 0).enterStop

/-- Domain `d` goes OFF; what needs it wakes it again in the next cycle (R313). -/
def State.isolate (s : State) (d : Nat) : State := (s.oneCycle (·.cutOff d)).settle.pace

/-- Is the work of a draining domain done (R312)? -/
def State.drained (s : State) (d : Nat) : Bool :=
  if 8 ≤ d ∧ d ≤ 13 then
    (s.pod (d - 8)).sweep.isNone && (List.range 4).all fun n => !(look {} s.lyz.engines (4 * (d - 8) + n)).on
  else if d = 14 then (List.range 4).all fun u => (s.unitBin u).isNone
  else if d = 7 then decide (s.sample.gridCount ≠ s.power.drainGrid)
  else if d = 15 then decide (s.ticks ≠ s.power.drainTick)
  else true

/-- Has the drain of a domain lasted DRAIN_MAX, in 0.1 ms; 0 acts as 1? -/
def State.drainOver (s : State) (d : Nat) : Bool :=
  decide (max 1 (s.rd F.PWR_CTRL_DRAIN_MAX) * Config.fclkHz ≤ 10000 * s.elapsed (.drain d))

/-- DOMAIN_OFF: a drain completes. -/
def execDomainOff (d : Nat) (s : State) : Out :=
  .next (if 1 ≤ d ∧ d ≤ 18 ∧ s.dom d = 3 ∧ s.drained d then s.isolate d else s)

/-- DRAIN_TIMEOUT: a drain that lasts DRAIN_MAX ends as it stands, with flags and a crumb; never CORE's (R312). -/
def execDrainTimeout (d : Nat) (s : State) : Out :=
  .next (if 2 ≤ d ∧ d ≤ 18 ∧ s.dom d = 3 ∧ s.drainOver d then
    let s := (s.wr (F.PWR_DOM_STAT_DRAIN_TO d) 1).event F.PWR_EVT_DRAIN_TIMEOUT
    (s.oneCycle fun s => (s.addCrumb 0x09 0xFF 0 [BitVec.ofNat 32 d]).cutOff d).settle.pace
  else s)

/-! ### Wake sources (R316) -/

/-- WAKE_N has been low for three XTAL32 ticks. -/
def execWakeNAssert (s : State) : Out :=
  .next (s.whenB (s.aon && s.on F.PWR_WAKE_CFG_PIN) fun s => s.wake 1 (s.rd (F.PWR_WAKE_DOM_DOMAINS 0)))

/-- Activity on the strapped host interface. -/
def execHostActivity (s : State) : Out :=
  .next (s.whenB (s.aon && s.on F.PWR_WAKE_CFG_HOST && decide (s.host.sel ≠ 3)) fun s => s.wake 3 (s.rd (F.PWR_WAKE_DOM_DOMAINS 2)))

end Sys2Proof.Machine
end

