-- ==== Sys2Proof/Machine/Nav.lean ====
section
/-! DEFINITION. Firmware services beside the navigation engine: injection biases (R92, R95), MEAS records as they stand in the contexts
(R236), what the consistency checks exclude (R246, R250), aiding (R227–R230), and the configuration of the checks (R258). What firmware
computes from the sky is measured input (log 6). -/

namespace Sys2Proof.Machine

/-! ### INJ_BIAS and the RF path check (R92, R95, R96) -/

/-- Is the calibration track of ADC m, track 4084 + m, in LOCK (R92)? -/
def State.calLocked (s : State) (m : Nat) : Bool := s.trkEn (4084 + m) && decide (s.trkState (4084 + m) = 3)

/-- Does the calibration track of an injecting chain fail the RF path check: out of LOCK, or the C/N0 of its record more than 6 dB below
the programmed level, 40 dB-Hz + LEVEL (R96)? -/
def State.pathBad (s : State) (m : Nat) : Bool :=
  s.injecting (m % 3) (m / 3) &&
  (!s.calLocked m || decide (s.cx (4084 + m) 0x1EC 0 16 + 600 < 4000 + 100 * min 20 (s.rd (F.INJ_GRP_CFG_LEVEL (m % 3)))))

/-- The RF path check (R96). -/
def State.pathCheck (s : State) : State := if (List.range 12).any s.pathBad then s.raise 42 else s.lower 42

/-- INJ_BIAS_PUBLISH: delay in ps and phase in 2^-12 cycle of each chain m, as its calibration track gives them: relative to port 0 of the
group, where the phase is 0, and the delay of port 0 relative to group 0. A port whose RF domain is off, or whose track gives no result,
has no valid entry (R92, R95; log 130). -/
def execInjBiasPublish (entries : List (Int × Int)) (s : State) : Out :=
  .next (s.whenB (s.firmware && s.inRun 7) fun s =>
    (List.range 12).foldl (fun s m =>
      match entries[m]? with
      | some e =>
        let s := s.wr (F.INJ_BIAS_DELAY m) (if m = 0 then 0 else unsigned 16 (held (-32768) 32767 e.1))
        let s := s.wr (F.INJ_BIAS_PHASE m) (if m < 3 then 0 else unsigned 12 e.2)
        s.wr (F.INJ_BIAS_VALID m) (if s.inRun (3 + m / 3) && s.calLocked m then 1 else 0)
      | none => s) s.pathCheck)

/-! ### MEAS records in the contexts (R236) -/

/-- The fields of a track's last record that firmware uses. -/
structure MeasRec where
  track : Nat
  stream : Nat
  port : Nat
  group : Nat
  id : Nat
  sv : Nat
  fcn : Int
  flags : Nat
  epoch : Nat
  acc : Int
  doppler : Int
  cn0 : Nat
  lock : Nat
  slip : Nat
  integ : Nat
  blank : Nat
  deriving DecidableEq, Repr

/-- The record in k112–k127 of a track; `epoch` in DT ms, and `slip` with what firmware set in it (log 137). -/
def State.measRec (s : State) (t : Nat) : MeasRec :=
  { track := t, stream := s.cx t 0x1C0 12 5, port := s.cx t 0x1C0 20 2, group := s.cx t 0x1C0 22 2, id := s.cx t 0x1C0 24 8
    sv := s.cx t 0x1C4 0 16, fcn := signed 8 (s.cx t 0x1C4 16 8), flags := s.cx t 0x1C4 24 8
    epoch := (s.cx t 0x1C8 0 32 + 2 ^ 32 * s.cx t 0x1CC 0 16) * 1000 + s.cx t 0x1CC 16 16
    acc := signed 96 (s.cx t 0x1DC 0 32 + 2 ^ 32 * s.cx t 0x1E0 0 32 + 2 ^ 64 * s.cx t 0x1E4 0 32)
    doppler := signed 32 (s.cx t 0x1E8 0 32), cn0 := s.cx t 0x1EC 0 16, lock := s.cx t 0x1EC 16 16, slip := s.cx t 0x1F0 0 8 ||| look 0 s.nav.slipIn t
    integ := s.cx t 0x1F4 0 16, blank := s.cx t 0x1F8 0 16 }

/-- The satellite: the system, which the upper half of the signal ID names, and the SV (R240). -/
def MeasRec.sat (r : MeasRec) : Nat := r.id / 16 * 65536 + r.sv

/-- The signal on its port. -/
def MeasRec.key (r : MeasRec) : Nat := r.id + 256 * r.sv + 2 ^ 24 * r.port

/-- The signal without its port. -/
def MeasRec.signal (r : MeasRec) : Nat := r.id + 256 * r.sv

/-- The chain: the ADC of its port and band group. -/
def MeasRec.chain (r : MeasRec) : Nat := 3 * r.port + r.group

/-- A signal of the sky, not of INJ. -/
def MeasRec.outside (r : MeasRec) : Bool := decide (r.id ≠ 0xF0) && !r.flags.testBit 4

/-- Does an exclusion cover the record's signal? -/
def Scope.covers (r : MeasRec) : Scope → Bool
  | .signal k => decide (r.key = k)
  | .satellite k => decide (r.sat = k)
  | .chain m => decide (r.chain = m)
  | .group g => decide (r.group = g)
  | .all => true

/-- Does a check in force accuse the record's signal: its INTEG bit is set (R250, R253)? -/
def CheckSt.accuses (c : CheckSt) (r : MeasRec) : Bool := c.inForce && r.outside && c.scope.any (Scope.covers r)

/-- Does it exclude the signal (R246, R250)? One peer alone excludes nothing (R253). -/
def CheckSt.covers (c : CheckSt) (r : MeasRec) : Bool := c.accuses r && !c.bare

/-- Is the track's signal excluded by a check in force or by a failed OSNMA verification (R250, R255)? -/
def State.excluded (s : State) (t : Nat) : Bool :=
  (s.nav.checks.any fun c => c.covers (s.measRec t)) || decide (look 0 s.nav.osnma t = 2)

/-- A field of the configuration in force. -/
def NavSt.cfg (n : NavSt) (word lo w : Nat) : Nat := bits (n.config.getD word 0) lo w

/-- Is it kept out of the solutions and of aiding? With EXCL_EN = 0 nothing is (R250; log 138). -/
def State.barred (s : State) (t : Nat) : Bool := s.excluded t && decide (s.nav.cfg 0 8 1 = 1)

/-! ### Aiding (R227, R228, R230) -/

/-- A new generation: any but the one in the aiding area. -/
def State.newGeneration (s : State) (t : Nat) : Word × State :=
  let (n, s) := s.draw
  (BitVec.ofNat 32 (s.cx t 0x17C 0 32 + 1 + n % (2 ^ 32 - 1)), s)

/-- The bits that the layout gives k81–k94 (R227). -/
def aidMasks : List Word := [~~~0, ~~~0, ~~~0, ~~~0, 3, 0x7FFFFFFF, 0x7FFFFFFF, 0x7FF, ~~~0, ~~~0, 0x3F, ~~~0, 0x3FF, 0]

/-- The epoch periods (R234). -/
def periods : List Nat := [10, 20, 40, 50, 100, 200, 250, 500, 1000]

/-- The epoch period that firmware's configuration gives, where it is one (R234; log 172). -/
def State.takePeriod (s : State) (p : Nat) : State := if p ∈ periods then { s with nav := { s.nav with period := p } } else s

/-- k81–k94 as the layout holds them: SYM_CNT at most 32, and AID_EPOCH the configured period (R227, R234). -/
def State.aidBody (s : State) (words : List Word) : List Word :=
  let w := aidMasks.zipIdx.map fun e => words.getD e.2 0 &&& e.1
  (w.set 10 (BitVec.ofNat 32 (min 32 (w.getD 10 0).toNat))).set 12 (BitVec.ofNat 32 s.nav.period)

/-- An aiding set: AGEN_HEAD, the words k81–k94, AGEN_TAIL. -/
def State.writeAiding (s : State) (t : Nat) (words : List Word) : State :=
  let (g, s) := s.newGeneration t
  let body := s.aidBody words
  s.stWords (ctxAddr t + 0x140) (g :: body ++ [g])

/-- AID_CTRL as the navigation engine writes it: DUTY_N at most 10, at most 4 for P0, and DUTY_PH = track mod DUTY_N (R227, R230). -/
def State.aidCtrl (s : State) (t : Nat) (w : Word) : Word :=
  let n := min (if s.cx t 0 12 2 = 0 then 4 else 10) (bits w 3 4)
  let w := withBits (withBits w 3 4 n) 7 4 (if n = 0 then bits w 7 4 else t % n)
  if s.barred t then w &&& ~~~1#32 else w

/-- AIDING_PUBLISH: k81–k94 of a track assigned to the navigation engine; an excluded one gets no valid set (R250). -/
def execAidingPublish (track : Nat) (words : List Word) (s : State) : Out :=
  .next (s.whenB (s.firmware && decide (track < 4096) && !s.on F.TRK_SCRUB_CLEARING) fun s =>
    (s.takePeriod (bits (words.getD 12 0) 0 10)).writeAiding track (words.set 7 (s.aidCtrl track (words.getD 7 0))))

/-! ### The integrity area (R258, R259) -/

def integBase : Nat := 0x1077F000

/-- A field of the integrity area: byte offset, lowest bit, width. -/
def State.integ (s : State) (off lo w : Nat) : Nat := bits (s.ld32 (integBase + off)) lo w

/-- A word of the integrity area. -/
def State.setInteg (s : State) (off v : Nat) : State := s.st32 (integBase + off) (BitVec.ofNat 32 v)

/-- The Reset column of the seven configuration words. -/
def integDefaults : List Word := [0x13F, 0x06080050, 0x003203E8, 0x0A40260D, 0x0064001E, 0x0258001E, 0x64]

/-- At boot the stored configuration, or the defaults, and the status words are written. -/
def State.integLoad (s : State) : State :=
  let c := if s.nav.saved = [] then integDefaults else s.nav.saved
  let s := s.stWords integBase c
  let s := s.stWords (integBase + 0x100) [0, 0, 0xFFFF, 0xFFFF, 0xFFFF]
  let s := s.stWords (integBase + 0x200) s.nav.alarms
  { s.setInteg 0x120 s.nav.logAt with nav := { s.nav with config := c } }

/-- INTEG_SAVE: with SAVE = 1 firmware stores the configuration and clears SAVE; how many MRAM words that takes is open (log 36). -/
def execIntegSave (s : State) : Out :=
  .next (s.whenB (s.firmware && decide (s.integ 0 10 1 = 1)) fun s =>
    let c := s.ldWords integBase 7
    let c := (c.getD 0 0 &&& ~~~0x400#32) :: c.drop 1
    let s := { s.stWords integBase c with nav := { s.nav with saved := c } }
    let (n, s) := s.draw
    s.countMram 6 (n % 8193))

/-- The configuration adopted: each field within its limits (R248, R258). -/
def adopt (c : List Word) : List Word := c.set 5 (withBits (c.getD 5 0) 16 16 (max 60 (bits (c.getD 5 0) 16 16)))

/-- Configuration words are adopted when GEN has changed, and runs in progress restart (R257, R258). -/
def State.adoptConfig (s : State) : State :=
  if s.integ 0 16 16 = bits (s.nav.config.getD 0 0) 16 16 ∧ s.nav.config ≠ [] then s
  else { s with nav := { s.nav with
    config := adopt (s.ldWords integBase 7), checks := s.nav.checks.map fun c => { c with run := 0, below := none } } }

end Sys2Proof.Machine
end

