-- ==== Sys2Proof/Machine/Sign.lean ====
section
/-! DEFINITION. SHA-256 and the check of an ECDSA signature on P-256, by which the Boot ROM judges an image (R377, R378). Both are those of
the standards that R377 names, FIPS 180-4 and FIPS 186-5 (log 143). -/

namespace Sys2Proof.Machine

/-! ### SHA-256 -/

/-- The 32-bit words of a number, `n` of them, the most significant first. -/
def digestWords (n v : Nat) : List Nat := (List.range n).map fun i => v >>> (32 * (n - 1 - i)) % 2 ^ 32

/-- The exclusive or of a word's rotations to the right by each of the given counts. -/
def spun (counts : List Nat) (x : Nat) : Nat := counts.foldl (fun y n => y ^^^ (x >>> n ||| x <<< (32 - n) % 2 ^ 32)) 0

/-- The round constants: 32 bits each of the fractions of the cube roots of the first 64 primes, sixteen of them a number. -/
def roundKeys : List Nat :=
  digestWords 16 0x428a2f9871374491b5c0fbcfe9b5dba53956c25b59f111f1923f82a4ab1c5ed5d807aa9812835b01243185be550c7dc372be5d7480deb1fe9bdc06a7c19bf174 ++
  digestWords 16 0xe49b69c1efbe47860fc19dc6240ca1cc2de92c6f4a7484aa5cb0a9dc76f988da983e5152a831c66db00327c8bf597fc7c6e00bf3d5a7914706ca635114292967 ++
  digestWords 16 0x27b70a852e1b21384d2c6dfc53380d13650a7354766a0abb81c2c92e92722c85a2bfe8a1a81a664bc24b8b70c76c51a3d192e819d6990624f40e3585106aa070 ++
  digestWords 16 0x19a4c1161e376c082748774c34b0bcb5391c0cb34ed8aa4a5b9cca4f682e6ff3748f82ee78a5636f84c878148cc7020890befffaa4506cebbef9a3f7c67178f2

/-- Where a digest starts: 32 bits each of the fractions of the square roots of the first eight primes, four in each chain. -/
def digestSeed : List Nat × List Nat :=
  (digestWords 4 0x6a09e667bb67ae853c6ef372a54ff53a, digestWords 4 0x510e527f9b05688c1f83d9ab5be0cd19)

/-- A block's words and what the schedule adds: `n` words follow the sixteen of `w`, the oldest first. -/
def schedule : Nat → List Nat → List Nat
  | 0, w => w
  | n + 1, w =>
    let early := w.getD 1 0
    let late := w.getD 14 0
    let next := w.getD 0 0 + w.getD 9 0 + (spun [7, 18] early ^^^ early >>> 3) + (spun [17, 19] late ^^^ late >>> 10)
    w.take 1 ++ schedule n (w.drop 1 ++ [next % 2 ^ 32])

/-- A round: two chains of four words, the newest first, each of which takes one new word and drops its oldest. -/
def digestRound (chains : List Nat × List Nat) (key : Nat) : List Nat × List Nat :=
  let (up, low) := chains
  let w (l : List Nat) (i : Nat) : Nat := l.getD i 0
  let pick := w low 2 ^^^ w low 0 &&& (w low 1 ^^^ w low 2)
  let most := w up 0 &&& w up 1 ||| w up 2 &&& (w up 0 ||| w up 1)
  let fed := w low 3 + spun [6, 11, 25] (w low 0) + pick + key
  ((fed + spun [2, 13, 22] (w up 0) + most) % 2 ^ 32 :: up.take 3, (w up 3 + fed) % 2 ^ 32 :: low.take 3)

/-- The chains after one more block of sixteen words. -/
def digestBlock (chains : List Nat × List Nat) (w : List Nat) : List Nat × List Nat :=
  let sum (x y : List Nat) : List Nat := (x.zip y).map fun e => (e.1 + e.2) % 2 ^ 32
  let done := ((roundKeys.zip (schedule 48 w)).map fun e => e.1 + e.2).foldl digestRound chains
  (sum chains.1 done.1, sum chains.2 done.2)

/-- Big-endian words of a byte string. -/
def beWords : List Nat → List Nat
  | a :: b :: c :: d :: rest => (((a * 256 + b) * 256 + c) * 256 + d) :: beWords rest
  | _ => []

/-- The chains after `n` more blocks of the words `w`. -/
def digestBlocks : Nat → List Nat × List Nat → List Nat → List Nat × List Nat
  | 0, chains, _ => chains
  | n + 1, chains, w => digestBlocks n (digestBlock chains (w.take 16)) (w.drop 16)

/-- SHA-256 of a byte string, as a number whose most significant byte is the digest's first. -/
def sha256 (bs : List Nat) : Nat :=
  let pad := bs ++ [0x80] ++ List.replicate ((119 - bs.length % 64) % 64) 0
  let w := beWords pad ++ digestWords 2 (bs.length * 8)
  let (up, low) := digestBlocks (w.length / 16) digestSeed w
  (up ++ low).foldl (fun n x => n * 2 ^ 32 + x) 0

/-! ### ECDSA on P-256 -/

namespace P256

/-- The field's prime, the coefficient b, the base point and its order. -/
def p : Nat := 0xffffffff00000001000000000000000000000000ffffffffffffffffffffffff
def b : Nat := 0x5ac635d8aa3a93e7b3ebbd55769886bc651d06b0cc53b0f63bce3c3e27d2604b
def gx : Nat := 0x6b17d1f2e12c4247f8bce6e563a440f277037d812deb33a0f4a13945d898c296
def gy : Nat := 0x4fe342e2fe1a7f9b8ee7eb4a7c0f9e162bce33576b315ececbb6406837bf51f5
def n : Nat := 0xffffffff00000000ffffffffffffffffbce6faada7179e84f3b9cac2fc632551

/-- A point (X / Z², Y / Z³); Z = 0 is the point at infinity. -/
structure Point where
  x : Nat
  y : Nat
  z : Nat
  deriving DecidableEq, Repr

/-- The difference of two field elements. -/
def diff (a c : Nat) : Nat := (a + p - c) % p

/-- Twice a point. -/
def dbl (q : Point) : Point :=
  let m := 3 * diff q.x (q.z * q.z % p) * (q.x + q.z * q.z) % p
  let yy := q.y * q.y % p
  let s := 4 * q.x * yy % p
  let x := diff (m * m % p) (2 * s % p)
  ⟨x, diff (m * diff s x % p) (8 * yy * yy % p), 2 * q.y * q.z % p⟩

/-- The sum of two points. -/
def add (q r : Point) : Point :=
  if q.z = 0 then r
  else if r.z = 0 then q
  else
    let u := q.x * r.z * r.z % p
    let v := r.x * q.z * q.z % p
    let s := q.y * r.z * r.z * r.z % p
    let t := r.y * q.z * q.z * q.z % p
    if u = v then (if s = t then dbl q else ⟨1, 1, 0⟩)
    else
      let h := diff v u
      let k := diff t s
      let hh := h * h % p
      let hhh := h * hh % p
      let w := u * hh % p
      let x := diff (diff (k * k % p) hhh) (2 * w % p)
      ⟨x, diff (k * diff w x % p) (s * hhh % p), h * q.z * r.z % p⟩

/-- `u` times the base point plus `v` times `q`, bit by bit below bit `i`, from `acc` on. -/
def combine (u v : Nat) (q both : Point) : Nat → Point → Point
  | 0, acc => acc
  | i + 1, acc =>
    let d := dbl acc
    combine u v q both i (match u.testBit i, v.testBit i with
      | false, false => d
      | true, false => add d ⟨gx, gy, 1⟩
      | false, true => add d q
      | true, true => add d both)

/-- `a` to the power of the bits of `e` below bit `i`, from `acc` on, modulo n. -/
def power (a e : Nat) : Nat → Nat → Nat
  | 0, acc => acc
  | i + 1, acc => power a e i (if e.testBit i then acc * acc % n * a % n else acc * acc % n)

/-- Does the signature (r, s) of a message with digest `e` verify with the public key (qx, qy)? -/
def verify (qx qy e r s : Nat) : Bool :=
  if r = 0 ∨ n ≤ r ∨ s = 0 ∨ n ≤ s ∨ p ≤ qx ∨ p ≤ qy ∨ qy * qy % p ≠ (qx * qx * qx + diff b (3 * qx % p)) % p then false
  else
    let w := power s (n - 2) 256 1
    let q : Point := ⟨qx, qy, 1⟩
    let t := combine (e * w % n) (r * w % n) q (add ⟨gx, gy, 1⟩ q) 256 ⟨1, 1, 0⟩
    let zz := t.z * t.z % p
    decide (t.z ≠ 0 ∧ (t.x = r * zz % p ∨ (r + n < p ∧ t.x = (r + n) * zz % p)))

end P256

end Sys2Proof.Machine
end

