-- ==== Sys2Proof/WellFormed.lean ====
section
/-! DEFINITION. Well-formed commands: every operand lies in the range that its register, field or instruction word can name. Operands that
are measured (log 6) have no range. -/

namespace Sys2Proof

/-- The owner IDs of R31. -/
def ownerOk (o : Nat) : Bool :=
  decide (1 ≤ o ∧ o ≤ 5) || decide (8 ≤ o ∧ o ≤ 18) || decide (o = 20) || decide (24 ≤ o ∧ o ≤ 55)

/-- The engines: track programs of six pods, contexts, DMA program channels (R152). -/
def engineOk (e : Nat) : Bool := decide (e < 24) || decide (32 ≤ e ∧ e < 48)

/-- A byte string. -/
def bytesOk (bs : List Nat) : Bool := bs.all fun b => decide (b < 256)

/-- The DCO frequencies in kHz for which the Boot ROM sets LO1PLL, LO2PLL, LO5PLL, SPLL, CPLL and NPLL (R52, R58, R75). -/
def defaultKhz : List Nat := [3040000, 2380000, 2260000, 3932160, 2400000, 3125000]

/-- A band entry the Boot ROM can write (R55, R57). -/
def BandFill.wf (b : BandFill) : Bool :=
  decide (b.pll < 6 ∧ b.entry < 16 ∧ b.flo < 2 ^ 22 ∧ b.fhi < 2 ^ 22 ∧ b.band < 64 ∧ b.calLo < b.calHi ∧ b.calHi < 2 ^ 22)

/-- Does the entry cover ADPLL `p`'s default frequency? -/
def BandFill.covers (b : BandFill) (p : Nat) : Bool :=
  decide (b.pll = p ∧ b.flo ≤ defaultKhz.getD p 0 ∧ defaultKhz.getD p 0 ≤ b.fhi)

/-- Two 48-bit addresses (R386). -/
def SvcFrom.wf (x : SvcFrom) : Bool := decide (x.mac < 2 ^ 48 ∧ x.dst < 2 ^ 48)

/-- The CMDs of R387's table. -/
def gheandCmds : List Nat := [0x01, 0x02, 0x03, 0x10, 0x11, 0x12, 0x13, 0x20, 0x21, 0x30, 0x31, 0x3F]

/-- A frame that is no Gheand command: where it is valid, its CMD is none of the table (R387). -/
def BadFrame.wf (x : BadFrame) : Bool :=
  decide (1 ≤ x.port ∧ x.port ≤ 2) && x.src.wf && x.unknown.all fun u => decide (u.1 < 256 ∧ u.2 < 256 ∧ u.1 ∉ gheandCmds)

/-- A 64-bit UID, two scopes, two key slots (R391). -/
def UnlockToken.wf (x : UnlockToken) : Bool := decide (x.uid < 2 ^ 64 ∧ x.scope < 4 ∧ x.key < 2)

/-- A loop filter with a proportional and an integral gain (R53). -/
def filterOk (w : Word) : Bool := decide (w.toNat % 256 ≠ 0 ∧ w.toNat / 2 ^ 14 % 256 ≠ 0)

/-- A number of 16 signed bits. -/
def is16 (v : Int) : Bool := decide (-32768 ≤ v ∧ v < 32768)

/-- Is every operand one that can be written? -/
def Instr.wf : Instr → Bool
  | .registerWrite owner addr size _ => ownerOk owner && decide (addr < 2 ^ 33) && decide (size = 1 ∨ size = 2 ∨ size = 4)
  | .offBlockAccess owner addr _ => ownerOk owner && decide (addr < 2 ^ 33)
  | .nomapAccess owner addr _ => ownerOk owner && decide (addr < 2 ^ 33)
  | .regWrite owner addr len _ _ => ownerOk owner && decide (addr < 2 ^ 32) && decide (len < 65536)
  | .regRead owner addr count len _ => ownerOk owner && decide (addr < 2 ^ 32) && decide (count < 65536) && decide (len < 65536)
  | .cmdSubmit owner queue len _ _ => ownerOk owner && decide (queue < 256) && decide (len < 65536)
  | .spiWrite addr words => decide (addr < 2 ^ 32) && decide (1 ≤ words.length ∧ words.length ≤ 256)
  | .spiRead addr count => decide (addr < 2 ^ 32) && decide (1 ≤ count ∧ count ≤ 256)
  | .pcieFlr => true
  | .huartBaudWrite owner _ => ownerOk owner
  | .hspiFrameRead owner => ownerOk owner
  | .hspiFrameWrite owner _ => ownerOk owner
  | .begin owner n => ownerOk owner && decide (n < 4)
  | .commit owner n => ownerOk owner && decide (n < 4)
  | .commitat owner n _ => ownerOk owner && decide (n < 4)
  | .abort owner n => ownerOk owner && decide (n < 4)
  | .txnAtWrite owner n which _ => ownerOk owner && decide (n < 4) && decide (which < 3)
  | .rwtWrite owner addr _ => ownerOk owner && decide (addr < 2 ^ 32)
  | .armedCommit n => decide (n < 4)
  | .landingComplete n => decide (n < 4)
  | .txnTimeout n => decide (n < 4)
  | .padClaim owner res => ownerOk owner && decide (res < 65536)
  | .padRelease owner res => ownerOk owner && decide (res < 65536)
  | .padFuncWrite owner n _ => ownerOk owner && decide (n < 64)
  | .relock owner pll => ownerOk owner && decide (pll < 6)
  | .bandcal owner pll idx => ownerOk owner && decide (pll < 6) && decide (idx < 16)
  | .bandcalDone pll _ _ => decide (pll < 6)
  | .adpllLocked pll _ _ _ => decide (pll < 6)
  | .lossOfLock pll _ => decide (pll < 6)
  | .lossOfReference loss => decide (loss.pll < 6)
  | .referenceReturn pll => decide (pll < 6)
  | .holdoverRelock pll _ _ _ => decide (pll < 6)
  | .adpllDeferredApply pll which => decide (pll < 6) && decide (which < 3)
  | .clkmonFault pair => decide (pair < 5)
  | .clkmonQualified input => decide (input < 2)
  | .clkmonRecover pair => decide (pair < 5)
  | .extPpsTimeout => true
  | .autotune owner port => ownerOk owner && decide (port < 4)
  | .autotuneDone port ser shunt => decide (port < 4) && decide (ser < 64) && decide (shunt < 64)
  | .biasSense port _ => decide (port < 4)
  | .biasTrip port => decide (port < 4)
  | .biasRetry owner port => ownerOk owner && decide (port < 4)
  | .rlEstimate port _ => decide (port < 4)
  | .loCalCommand owner mask => ownerOk owner && decide (mask < 8)
  | .loCalibration g => decide (g < 3)
  | .loCalComplete g => decide (g < 3)
  | .injStart owner mask => ownerOk owner && decide (mask < 8)
  | .injStop owner mask => ownerOk owner && decide (mask < 8)
  | .injCmdReady => true
  | .injCmdTimeout => true
  | .injBiasPublish entries => decide (entries.length = 12)
  | .blankAssert k _ _ => decide (k < 4)
  | .gridBoundary _ _ => true
  | .blockComplete stream i q ai aq => decide (stream < 24) && (i ++ q ++ ai ++ aq).all is16
  | .blockWindowClose stream _ => decide (stream < 24)
  | .pinGrant slot => decide (slot < 2)
  | .pinTimeout slot => decide (slot < 2)
  | .sweepStart pod => decide (pod < 6)
  | .sweepWriteback pod _ _ => decide (pod < 6)
  | .selfCheckSweep pod mismatch => decide (pod < 6) && decide (mismatch < 256)
  | .retest owner pod lanes pass => ownerOk owner && decide (pod < 6) && decide (lanes < 256) && decide (pass < 256)
  | .trkStart owner track _ => ownerOk owner && decide (track < 4096)
  | .trkStop owner track => ownerOk owner && decide (track < 4096)
  | .trkMove owner track pod => ownerOk owner && decide (track < 4096) && decide (pod < 8)
  | .trkClear owner track => ownerOk owner && decide (track < 4096)
  | .trkStopEffect track => decide (track < 4096)
  | .trkMoveEffect track => decide (track < 4096)
  | .trackContextWrite owner addr _ => ownerOk owner && decide (0x30000000 ≤ addr ∧ addr < 0x30200000)
  | .scrub err => decide (err < 3)
  | .trkWakeClearDone => true
  | .trackProgramEntry pod seq => decide (pod < 6) && decide (seq < 4)
  | .add e d a b => engineOk e && decide (d < 32) && decide (a < 32) && decide (b < 32)
  | .sub e d a b => engineOk e && decide (d < 32) && decide (a < 32) && decide (b < 32)
  | .addS e d a b => engineOk e && decide (d < 32) && decide (a < 32) && decide (b < 32)
  | .subS e d a b => engineOk e && decide (d < 32) && decide (a < 32) && decide (b < 32)
  | .and e d a b => engineOk e && decide (d < 32) && decide (a < 32) && decide (b < 32)
  | .or e d a b => engineOk e && decide (d < 32) && decide (a < 32) && decide (b < 32)
  | .xor e d a b => engineOk e && decide (d < 32) && decide (a < 32) && decide (b < 32)
  | .slt e d a b => engineOk e && decide (d < 32) && decide (a < 32) && decide (b < 32)
  | .sltu e d a b => engineOk e && decide (d < 32) && decide (a < 32) && decide (b < 32)
  | .min e d a b => engineOk e && decide (d < 32) && decide (a < 32) && decide (b < 32)
  | .max e d a b => engineOk e && decide (d < 32) && decide (a < 32) && decide (b < 32)
  | .abs e d a => engineOk e && decide (d < 32) && decide (a < 32)
  | .sll e d a b => engineOk e && decide (d < 32) && decide (a < 32) && decide (b < 32)
  | .srl e d a b => engineOk e && decide (d < 32) && decide (a < 32) && decide (b < 32)
  | .sra e d a b => engineOk e && decide (d < 32) && decide (a < 32) && decide (b < 32)
  | .addi e d a imm => engineOk e && decide (d < 32) && decide (a < 32) && decide (-32768 ≤ imm ∧ imm ≤ 32767)
  | .andi e d a imm => engineOk e && decide (d < 32) && decide (a < 32) && decide (imm < 65536)
  | .ori e d a imm => engineOk e && decide (d < 32) && decide (a < 32) && decide (imm < 65536)
  | .lui e d imm => engineOk e && decide (d < 32) && decide (imm < 65536)
  | .slli e d a n => engineOk e && decide (d < 32) && decide (a < 32) && decide (n < 32)
  | .srli e d a n => engineOk e && decide (d < 32) && decide (a < 32) && decide (n < 32)
  | .srai e d a n => engineOk e && decide (d < 32) && decide (a < 32) && decide (n < 32)
  | .srar e d a n => engineOk e && decide (d < 32) && decide (a < 32) && decide (n < 32)
  | .mul e d a b => engineOk e && decide (d < 32) && decide (a < 32) && decide (b < 32)
  | .mulh e d a b => engineOk e && decide (d < 32) && decide (a < 32) && decide (b < 32)
  | .mulhu e d a b => engineOk e && decide (d < 32) && decide (a < 32) && decide (b < 32)
  | .mulQ e d a b => engineOk e && decide (d < 32) && decide (a < 32) && decide (b < 32)
  | .mac e d a b => engineOk e && decide (d < 32) && decide (a < 32) && decide (b < 32)
  | .macQ e d a b => engineOk e && decide (d < 32) && decide (a < 32) && decide (b < 32)
  | .msubQ e d a b => engineOk e && decide (d < 32) && decide (a < 32) && decide (b < 32)
  | .sat e d a n => engineOk e && decide (d < 32) && decide (a < 32) && decide (n < 32)
  | .norm e d a => engineOk e && decide (d < 32) && decide (a < 32)
  | .clz e d a => engineOk e && decide (d < 32) && decide (a < 32)
  | .mag e d a b => engineOk e && decide (d < 32) && decide (a < 32) && decide (b < 32)
  | .atan2 e d a b => engineOk e && decide (d < 32) && decide (a < 32) && decide (b < 32)
  | .dllNelp e d early late => engineOk e && decide (d < 32) && decide (early < 8) && decide (late < 8)
  | .dllDot e d early late prompt => engineOk e && decide (d < 32) && decide (early < 8) && decide (late < 8) && decide (prompt < 8)
  | .pllCostas e d p _ _ => engineOk e && decide (d < 32) && decide (p < 8)
  | .fllCross e d a b p _ => engineOk e && decide (d < 32) && decide (a < 32) && decide (b < 32) && decide (p < 8)
  | .fllAtan e d a b p _ _ => engineOk e && decide (d < 32) && decide (a < 32) && decide (b < 32) && decide (p < 8)
  | .lfUpd e d a n _ => engineOk e && decide (d < 32) && decide (a < 32) && decide (n < 128)
  | .lfBlend e d a b n => engineOk e && decide (d < 32) && decide (a < 32) && decide (b < 32) && decide (n < 128)
  | .dPow e d t _ mode shift => engineOk e && decide (d < 32) && decide (t < 8) && decide (mode < 4) && decide (shift < 32)
  | .ncoCarr e d a => engineOk e && decide (d < 32) && decide (a < 32)
  | .ncoCarrAdd e d a => engineOk e && decide (d < 32) && decide (a < 32)
  | .ncoCode e d a b => engineOk e && decide (d < 32) && decide (a < 32) && decide (b < 32)
  | .ncoCodeAdd e d a => engineOk e && decide (d < 32) && decide (a < 32)
  | .ncoCphs e a => engineOk e && decide (a < 32)
  | .ncoKphs e a n => engineOk e && decide (a < 32) && decide (n < 32)
  | .tapOff e d a t => engineOk e && decide (d < 32) && decide (a < 32) && decide (t < 8)
  | .tapAdd e d a t => engineOk e && decide (d < 32) && decide (a < 32) && decide (t < 8)
  | .tapEn e d a => engineOk e && decide (d < 32) && decide (a < 32)
  | .codeSympos e d a => engineOk e && decide (d < 32) && decide (a < 32)
  | .codeSymlen e d a => engineOk e && decide (d < 32) && decide (a < 32)
  | .codeSel e d a => engineOk e && decide (d < 32) && decide (a < 32)
  | .trkStack e d a => engineOk e && decide (d < 32) && decide (a < 32)
  | .trkDuty e d a b => engineOk e && decide (d < 32) && decide (a < 32) && decide (b < 32)
  | .trkState e d a => engineOk e && decide (d < 32) && decide (a < 32)
  | .wipeLd e d a b => engineOk e && decide (d < 32) && decide (a < 32) && decide (b < 32)
  | .bCond e cond a off => engineOk e && decide (cond < 32) && decide (a < 32) && decide (-32768 ≤ off ∧ off ≤ 32767)
  | .jmp e tgt => engineOk e && decide (tgt < 131072)
  | .call e tgt => engineOk e && decide (tgt < 131072)
  | .loop e a len => engineOk e && decide (a < 32) && decide (len < 65536)
  | .link e addr => engineOk e && decide (addr < 2 ^ 32)
  | .end_ e => engineOk e
  | .ret e => engineOk e
  | .nop e => engineOk e
  | .jr e a => engineOk e && decide (a < 32)
  | .callr e a => engineOk e && decide (a < 32)
  | .mov e d a => engineOk e && decide (d < 32) && decide (a < 32)
  | .movfl e d => engineOk e && decide (d < 32)
  | .ldK e d k => engineOk e && decide (d < 32) && decide (k < 128)
  | .stK e a k => engineOk e && decide (a < 32) && decide (k < 128)
  | .ld e d a off => engineOk e && decide (d < 32) && decide (a < 32) && decide (-1024 ≤ off ∧ off ≤ 1023)
  | .st e d a b off => engineOk e && decide (d < 32) && decide (a < 32) && decide (b < 32) && decide (-1024 ≤ off ∧ off ≤ 1023)
  | .move e d a b size swap _ _ =>
    engineOk e && decide (d < 32) && decide (a < 32) && decide (b < 32) && decide (size < 4) && decide (swap < 4)
  | .waitq e d a src => engineOk e && decide (d < 32) && decide (a < 32) && decide (src < 64)
  | .waitqRelease e => engineOk e
  | .waittAbs e d a b => engineOk e && decide (d < 32) && decide (a < 32) && decide (b < 32)
  | .waittTp e d n => engineOk e && decide (d < 32) && decide (n < 4)
  | .waittRel e d a => engineOk e && decide (d < 32) && decide (a < 32)
  | .waittRelease e => engineOk e
  | .stamp e d => engineOk e && decide (d < 32)
  | .stampRead e d fn => engineOk e && decide (d < 32) && decide (fn < 8)
  | .txnBegin e d n => engineOk e && decide (d < 32) && decide (n < 4)
  | .txnCommit e d n => engineOk e && decide (d < 32) && decide (n < 4)
  | .txnCommitat e d a b n _ => engineOk e && decide (d < 32) && decide (a < 32) && decide (b < 32) && decide (n < 4)
  | .txnAbort e d n => engineOk e && decide (d < 32) && decide (n < 4)
  | .txnWait e d n => engineOk e && decide (d < 32) && decide (n < 4)
  | .txnWaitRelease e => engineOk e
  | .vote e d dom _ _ => engineOk e && decide (d < 32) && decide (dom < 32)
  | .voteWaitRelease e => engineOk e
  | .claim e d a => engineOk e && decide (d < 32) && decide (a < 32)
  | .release e d a => engineOk e && decide (d < 32) && decide (a < 32)
  | .event e d a b type ring =>
    engineOk e && decide (d < 32) && decide (a < 32) && decide (b < 32) && decide (type < 256) && decide (ring < 8)
  | .signal e n => engineOk e && decide (n < 32)
  | .halt e => engineOk e
  | .queueDoorbell owner n tail => ownerOk owner && decide (n < 8) && decide (tail < 2 ^ 32)
  | .run n => decide (n < 8)
  | .load n => decide (n < 8)
  | .fence n => decide (n < 8)
  | .badOp n => decide (n < 8)
  | .ctxResume owner n => ownerOk owner && decide (n < 8)
  | .ctxReset owner n => ownerOk owner && decide (n < 8)
  | .sigSet owner _ => ownerOk owner
  | .programStoreWrite owner addr _ => ownerOk owner && decide (0x10780000 ≤ addr ∧ addr < 0x10800000)
  | .executionWatchdog e => engineOk e
  | .planDoorbell owner tail => ownerOk owner && decide (tail < 2 ^ 32)
  | .planFetch => true
  | .captureBlockCopy slot => decide (slot < 2)
  | .binDispatch unit => decide (unit < 4)
  | .binComplete unit _ => decide (unit < 4)
  | .aidingPublish track words => decide (track < 4096) && decide (words.length = 14)
  | .measScan _ _ => true
  | .timemsgSend _ _ _ => true
  | .integrityEvaluation _ _ _ _ _ nsv _ _ => decide (nsv < 256)
  | .integSave => true
  | .lock owner sol => ownerOk owner && decide (sol < 8)
  | .holdover owner => ownerOk owner
  | .freerun owner => ownerOk owner
  | .step owner => ownerOk owner
  | .suspect owner _ => ownerOk owner
  | .slew owner _ => ownerOk owner
  | .slewComplete => true
  | .stepApply => true
  | .estErrUpdate => true
  | .suspectExpiry _ => true
  | .tpEdge n _ => decide (n < 4)
  | .loopbackCheck n kind _ => decide (n < 4) && decide (kind < 3)
  | .tpCalStart owner => ownerOk owner
  | .tpCalDone tables ladders => decide (tables.length = 4) && decide (ladders.length = 13)
  | .tpCalSwap => true
  | .captureEdge m _ _ => decide (m < 9)
  | .capturePop owner m => ownerOk owner && decide (m < 9)
  | .trgArmWrite owner k _ => ownerOk owner && decide (k < 16)
  | .triggerFire k => decide (k < 16)
  | .dtRebuild => true
  | .dtRead owner => ownerOk owner
  | .monoRead owner => ownerOk owner
  | .lastSeqRead owner stream => ownerOk owner && decide (stream < 24)
  | .frameRx port bytes _ _ => decide (port < 4) && bytesOk bytes
  | .frameTx port _ _ => decide (port < 5)
  | .txtsPop owner => ownerOk owner
  | .ntpRequest mode version poll transmit _ _ port _ =>
    decide (mode < 8) && decide (version < 8) && decide (poll < 256) && decide (transmit < 2 ^ 64) && decide (port < 4)
  | .requestUnicastTransmission client rate duration => decide (client < 2 ^ 32) && decide (rate < 2 ^ 32) && decide (duration < 2 ^ 32)
  | .announceReceiptTimeout => true
  | .esmcPduSend _ _ qlA qlB => decide (qlA < 16) && decide (qlB < 16)
  | .esmcTimeout port => decide (port < 3)
  | .linkDown port _ => decide (port < 4)
  | .np3FrameRx bytes => bytesOk bytes
  | .peerReport report _ _ _ => bytesOk report.bytes
  | .peerReportSend _ _ _ _ _ _ => true
  | .pwrVoteRaise owner mask => ownerOk owner && decide (mask < 2 ^ 32)
  | .pwrVoteWithdraw owner mask => ownerOk owner && decide (mask < 2 ^ 32)
  | .domainRun d => decide (1 ≤ d ∧ d ≤ 18)
  | .domainOff d => decide (1 ≤ d ∧ d ≤ 18)
  | .drainTimeout d => decide (1 ≤ d ∧ d ≤ 18)
  | .wakeNAssert => true
  | .hostActivity => true
  | .prooferSlice _ => true
  | .podPack => true
  | .monConversion temps vcore => decide (temps.length = 8) && decide (vcore < 4096)
  | .apply owner => ownerOk owner
  | .align owner => ownerOk owner
  | .snap owner => ownerOk owner
  | .rtcLoad => true
  | .rtcSnapLatch => true
  | .rtcRead owner => ownerOk owner
  | .rtcTrimWrite owner _ => ownerOk owner
  | .rtcAlarm => true
  | .oscFail => true
  | .oscRecover => true
  | .bctToUtc owner => ownerOk owner
  | .utcToBct owner => ownerOk owner
  | .rtcToUtc owner => ownerOk owner
  | .calConversionDone => true
  | .ledgerWrite => true
  | .ledgerSubAging owner => ownerOk owner
  | .ledgerSubLeap owner => ownerOk owner
  | .ledgerSubUpdate owner => ownerOk owner
  | .vddAonPowerUp => true
  | .crumbScanComplete => true
  | .crumbWrite => true
  | .swCrumb owner type => ownerOk owner && decide (type < 256)
  | .pwrFail => true
  | .lockstepMismatch => true
  | .islandWatchdog => true
  | .heartbeat owner _ => ownerOk owner
  | .heartbeatMiss => true
  | .kyoShadowMismatch => true
  | .stestStart owner => ownerOk owner
  | .stestPeriodic => true
  | .stestComplete fail => fail.all fun n => decide (n < 192)
  | .safeEnter owner key => ownerOk owner && decide (key < 65536)
  | .safeExit owner key => ownerOk owner && decide (key < 65536)
  | .safeAutoExit => true
  | .fltSwraise owner src _ => ownerOk owner && decide (src < 256)
  | .fltInject owner src => ownerOk owner && decide (src < 256)
  | .supplyFault k => decide (k < 13)
  | .interconnectTimeout owner => ownerOk owner
  | .bchStart owner ch => ownerOk owner && decide (ch < 16)
  | .bchPause owner ch => ownerOk owner && decide (ch < 16)
  | .bchResume owner ch => ownerOk owner && decide (ch < 16)
  | .bchStop owner ch => ownerOk owner && decide (ch < 16)
  | .pchStart owner ch => ownerOk owner && decide (ch < 8)
  | .pchPause owner ch => ownerOk owner && decide (ch < 8)
  | .pchResume owner ch => ownerOk owner && decide (ch < 8)
  | .pchReset owner ch => ownerOk owner && decide (ch < 8)
  | .dmaBurst ch => decide (ch < 16)
  | .dmaBusError addr ch _ _ _ => decide (addr < 2 ^ 64) && decide (ch < 24)
  | .dmaDoorbell owner mask => ownerOk owner && decide (mask < 256)
  | .paceAdd owner p v => ownerOk owner && decide (p < 16) && decide (v < 2 ^ 24)
  | .resetN => true
  | .softwareReset owner key => ownerOk owner && decide (key < 65536)
  | .boot _ revoke unlock bands filters =>
    (revoke.all fun k => decide (k < 2)) && (unlock.all UnlockToken.wf) && bands.all BandFill.wf &&
    (List.range 6).all fun p => bands.any (·.covers p) && filterOk (filters.getD p 0)
  | .trialExpiry => true
  | .healthConfirm owner key => ownerOk owner && decide (key < 65536)
  | .gheandInfo port src6 tag => decide (1 ≤ port ∧ port ≤ 2) && src6.wf && decide (tag < 256)
  | .gheandOpen port src6 tag => decide (1 ≤ port ∧ port ≤ 2) && src6.wf && decide (tag < 256)
  | .gheandClose port src6 tag => decide (1 ≤ port ∧ port ≤ 2) && src6.wf && decide (tag < 256)
  | .gheandBegin port src6 tag id count =>
    decide (1 ≤ port ∧ port ≤ 2) && src6.wf && decide (tag < 256) && decide (id < 2 ^ 32) && decide (count < 65536)
  | .gheandStage port src6 tag index data =>
    decide (1 ≤ port ∧ port ≤ 2) && src6.wf && decide (tag < 256) && decide (index < 65536) && bytesOk data
  | .gheandStatus port src6 tag => decide (1 ≤ port ∧ port ≤ 2) && src6.wf && decide (tag < 256)
  | .gheandCommit port src6 tag trialS =>
    decide (1 ≤ port ∧ port ≤ 2) && src6.wf && decide (tag < 256) && decide (trialS < 65536)
  | .gheandRead port src6 tag addr len =>
    decide (1 ≤ port ∧ port ≤ 2) && src6.wf && decide (tag < 256) && decide (addr < 2 ^ 32) && decide (len < 65536)
  | .gheandVote port src6 tag mask _ =>
    decide (1 ≤ port ∧ port ≤ 2) && src6.wf && decide (tag < 256) && decide (mask < 2 ^ 32)
  | .gheandRevoke port src6 tag token => decide (1 ≤ port ∧ port ≤ 2) && src6.wf && decide (tag < 256) && bytesOk token
  | .gheandUnlock port src6 tag token => decide (1 ≤ port ∧ port ≤ 2) && src6.wf && decide (tag < 256) && bytesOk token
  | .gheandReset port src6 tag => decide (1 ≤ port ∧ port ≤ 2) && src6.wf && decide (tag < 256)
  | .gheandLockTimeout => true
  | .svcRelease owner => ownerOk owner
  | .xtal32Tick => true
  | .vddAonPowerDown _ => true
  | .supplyRecover k => decide (k < 13)
  | .linkUp port => decide (port < 4)
  | .gheandBadFrame f => f.wf
  | .autoBaud _ first => decide (first < 256)
  | .macAgeing src6 => decide (src6 < 2 ^ 48)
  | .ocquelReset => true
  | .illegalOpcode e _ => engineOk e

end Sys2Proof
end

