-- ==== Sys2Proof/Machine/Boot.lean ====
section
/-! DEFINITION. Resets and VDD_AON (R430, R327, R431), the boot (R376–R382), trial and confirmation (R383, R384). -/

namespace Sys2Proof.Machine

/-! ### Resets (R430) -/

/-- Registers that a device reset leaves: the RTC block, the Ledger's three and the crumb writer's three (R430). -/
def keptAtReset (a : Nat) : Bool :=
  decide (a / 0x1000 = Reg.RTC_STAT / 0x1000) || [Reg.LEDGER_STAT, Reg.LEDGER_SEQ, Reg.LEDGER_LAST, Reg.CRUMB_SEQ,
    Reg.CRUMB_LOST, Reg.CRUMB_STAT].contains a

/-- Boot config, key store and staging record lie in MRAM: they outlive every reset and power cut (R380, R385). -/
def BootSt.stored (b : BootSt) : BootSt := { b with holder := 0, session := 0, deaf := false, islandLoad := true, due := false, window := false }

/-- The straps are sampled at reset release, and hold until the next (R23, R58, R376). -/
def State.sampleStraps (s : State) : State :=
  { s with
    host := { s.host with sel := s.straps.hostif }
    boot := { s.boot with bootSel := s.straps.boot, refSel := s.straps.ref } }

/-- Memory that outlives a reset or a power cut: MRAM and the Boot ROM (R14), with `sram` also Ocquel's SRAM (R317). -/
def keptByte (sram : Bool) (a : Nat) : Bool :=
  match poolOf a with
  | some .bootRom | some .mram => true
  | some .island => sram
  | _ => false

/-- Every other pool but the context store, which is cleared before its use (R16), loses its content (R317; log 3). -/
def State.loseVolatile (s : State) (sram : Bool) : State :=
  s.lose (([1, 7, 14, 16].flatMap fun d => lostRegions d 0) ++ (if sram then [] else [0x13C0]))

/-- What stands outside the device, or in MRAM, whatever happens to VDD_AON. -/
def State.outside (s : State) (sram : Bool) : State :=
  let s := s.loseVolatile sram
  { lost := s.lost, mem := s.mem.filter fun e => keptByte sram e.1
    ecc := s.ecc.filter fun e => keptByte sram (4 * e.1)
    hostMem := s.hostMem, pending := s.pending, now := s.now, ticks := s.ticks, free := s.free
    straps := s.straps, answer := s.answer, frames := s.frames, host := { sel := s.host.sel, msiSent := s.host.msiSent }
    rf := { refGone := s.rf.refGone }, nav := { saved := s.nav.saved }, boot := s.boot.stored }

/-- The reset is released: the straps, its cause, a new nonce, the RESET crumb with
the owner that caused it (R31) and count, and the wake logic's votes (R316, R338, R356, R391). -/
def State.released (s : State) (cause : Nat) (owner : Nat := 0) : State :=
  let (n, s) := s.sampleStraps.draw
  let s := ((s.wr F.SYS_RSTCAUSE_CAUSE cause).setReg Reg.BOOT_NONCE (BitVec.ofNat 32 n)).countReset cause
  let s := s.addCrumb 0x0C 0xFF owner [BitVec.ofNat 32 cause, s.reg Reg.PWR_WAKESTAT]
  let mask := if s.host.sel = 3 then 2 else 0x20002
  ((s.votes 20 mask true).wr ⟨Reg.PWR_WAKE_HOLD, 0, 19⟩ mask).settle

/-- What the supply monitors of LEAVEN hold (R348, R400). -/
def SafetySt.supplies (x : SafetySt) : SafetySt :=
  { level := x.level.filter fun e => decide (52 ≤ e.1 ∧ e.1 ≤ 63)
    detail := x.detail.filter fun e => decide (52 ≤ e.1 ∧ e.1 ≤ 63)
    banks := x.banks, banksOut := x.banksOut }

/-- A device reset: all but the state R430 names, with a Ledger write that is under way (R339), returns to its reset value; claims go without a crumb (R431), and the supply
comparators go on watching (R348). -/
def State.deviceReset (s : State) (cause : Nat) (owner : Nat := 0) : State :=
  if ¬ s.aon then s
  else
    { s.outside true with
      regs := s.regs.filter fun e => keptAtReset e.1
      rtc := s.rtc, ledger := s.ledger
      crumb := { s.crumb with swData := [], swRes := [] }
      safety := s.safety.supplies
      power := { stopUpdate := s.power.stopUpdate }
      time := { record := s.time.record } : State }.released cause owner

/-- RESET_N has been low and rises (R430); a power failure at the same moment goes first (R413). -/
def execResetN (s : State) : Out := .next (s.deviceReset 1)

/-- OCQUEL_RESET: the running island resets the device. -/
def execOcquelReset (s : State) : Out := .next (s.whenB (s.inRun 2 && s.on F.OCQ_STAT_RUN) (·.deviceReset 3 5))

/-- A write of SYS_SWRST: with its key, and from cores 0–3 or a host, the device resets; else it is ignored. -/
def execSoftwareReset (owner key : Nat) (s : State) : Out :=
  .next (s.command owner Reg.SYS_SWRST fun s => if key = 0x5E7A ∧ (isCore owner ∨ isHost owner) then s.deviceReset 4 owner else s)

/-! ### VDD_AON (R327, R430) -/

/-- Registers that live on while the RTC runs from VBAT alone (R327); RTC_STAT and RTC_EVT live on in part. -/
def keptOnVbat (a : Nat) : Bool := [Reg.RTC_STAT, Reg.RTC_TRIM, Reg.RTC_ALARM_LO, Reg.RTC_ALARM_HI, Reg.RTC_EVT].contains a

/-- VDD_AON is absent: nothing but the RTC and MRAM has state. With `vbat` the count goes on, on XTAL32 alone (R334). -/
def State.powerDown (s : State) (vbat : Bool) : State :=
  let t : State := { s.outside false with
    regs := s.regs.filter fun e => keptOnVbat e.1
    rtc := { count := s.rtc.count, window := s.rtc.window, alarmLate := s.rtc.alarmLate, lost := s.rtc.lost || !vbat } }
  let t := t.setReg Reg.RTC_STAT (t.reg Reg.RTC_STAT &&& (atBits F.RTC_STAT_SET.lo 1 1 ||| atBits F.RTC_STAT_OSC_FAIL.lo 1 1 |||
    atBits F.RTC_STAT_VBAT_LOST.lo 1 1))
  let t := t.setReg Reg.RTC_EVT (t.reg Reg.RTC_EVT &&& (atBits F.RTC_EVT_ALARM.lo 1 1 ||| atBits F.RTC_EVT_ALARM_LATE.lo 1 1))
  t.wr (F.PWR_DOM_STAT_STATE 0) 0

/-- VDD_AON_POWER_DOWN; given again, `vbat` says whether VBAT is there still. -/
def execVddAonPowerDown (vbat : Bool) (s : State) : Out := .next (s.powerDown vbat)

/-- LEAVEN decides the supply of each I/O bank, as far as it lies in one of the two ranges; R401 has RESET_N rise after that (R400). -/
def State.decideBanks (s : State) : State :=
  { s with safety := { s.safety with banks := s.straps.banks.map fun v => if v = 18 ∨ v = 33 then v else 0, banksOut := [] } }

/-- VDD_AON_POWER_UP: the RTC goes on or restarts, the Ledger is loaded and this power cycle counted, the crumb scan begins (R327,
R338, R339, R357). -/
def execVddAonPowerUp (s : State) : Out :=
  .next (s.whenB (!s.aon) fun s =>
    let lost := s.rtc.lost
    let s := if lost then { s with regs := [], rtc := {} }
      else (s.wr (F.PWR_DOM_STAT_STATE 0) 2).setRtc { s.rtc with onLirc := s.on F.RTC_STAT_OSC_FAIL }
    let s := (s.ledgerLoad.ledgerCount 0x10 4).decideBanks
    (s.whenB lost (·.ledgerCount 0x14 4)).released 0)

/-! ### Images and their checks (R377, R378) -/

/-- The first byte and the size of slot A (0), slot B (1) and Starter (2) (R17). -/
def slotBase (k : Nat) : Nat := if k = 0 then 0x04010000 else if k = 1 then 0x04290000 else 0x04510000
def slotSize (k : Nat) : Nat := if k = 2 then 0x200000 else 0x280000

/-- A header field of the image in a slot. -/
def State.header (s : State) (k o : Nat) : Nat := s.load (slotBase k + o) 4

/-- Is a key slot's REVOKED flag clear? -/
def State.keyGood (s : State) (k : Nat) : Bool := decide (k < 2 ∧ look 0 s.boot.revoked k = 0)

/-- Checks 1 and 7, which come before the copy (R378, R381). -/
def State.layoutReason (s : State) (k : Nat) : Nat :=
  let app := s.header k 0x10
  let at_ := s.header k 0x14
  let entry := s.header k 0x18
  let ocq := s.header k 0x1C
  if s.header k 0 ≠ 0x4D495242 ∨ s.header k 4 ≠ 1 then 1
  else if slotSize k < 0x100 + app + ocq ∨ 0x40000 < ocq ∨ at_ < 0x10001000 ∨ 0x1077E000 < at_ + app ∨ entry < at_ ∨ at_ + app ≤ entry then 7
  else 0

/-- The `n` bytes at offset `o` of the image in a slot. -/
def State.imageBytes (s : State) (k o n : Nat) : List Nat := s.ldBytes (slotBase k + o) n

/-- A 32-byte number of the image's header. -/
def State.imageNum (s : State) (k o : Nat) : Nat := leNum (s.imageBytes k o 32)

/-- Is PUBKEY's hash that of a key slot whose REVOKED flag is clear? -/
def State.keyKnown (s : State) (k : Nat) : Bool :=
  (List.range 2).any fun i => s.keyGood i && decide (look 0 s.boot.keys i = sha256 (s.imageBytes k 0x80 64))

/-- Does the signature over the header's first 192 bytes verify with PUBKEY? -/
def State.signatureOk (s : State) (k : Nat) : Bool :=
  P256.verify (s.imageNum k 0x80) (s.imageNum k 0xA0) (sha256 (s.imageBytes k 0 0xC0)) (s.imageNum k 0xC0) (s.imageNum k 0xE0)

/-- Is the digest at offset `d` of the header, most significant byte first, that of the `n` bytes at `o`? -/
def State.digestOk (s : State) (k d o n : Nat) : Bool := decide (leNum (s.imageBytes k d 32).reverse = sha256 (s.imageBytes k o n))

/-- The reason an image is refused for, the first that applies; 0 where it passes (R378). -/
def State.refusal (s : State) (k : Nat) : Nat :=
  let app := s.header k 0x10
  if s.layoutReason k ≠ 0 then s.layoutReason k
  else if ¬ s.keyKnown k then 2
  else if ¬ s.signatureOk k then 3
  else if ¬ s.digestOk k 0x40 0x100 app then 4
  else if ¬ s.digestOk k 0x60 (0x100 + app) (s.header k 0x1C) then 5
  else if s.header k 0x0C < s.boot.minSecVer then 6
  else if s.badIn (slotBase k) (0x100 + app + s.header k 0x1C) then 10
  else 0

/-- `n` bytes from `src` are copied to `dst`, with valid ECC. -/
def State.copyMem (s : State) (src dst n : Nat) : State :=
  { s.stBytes dst (s.ldBytes src n) with ecc := s.ecc.filter fun e => decide (4 * e.1 + 3 < dst ∨ dst + n ≤ 4 * e.1) }

/-- Step 5 of R381: the application goes to APP_LOAD, the Ocquel image to its SRAM through the load window (R15). -/
def State.copyImage (s : State) (k : Nat) : State :=
  let app := s.header k 0x10
  let s := s.copyMem (slotBase k + 0x100) (s.header k 0x14) app
  s.whenB s.boot.islandLoad fun s => s.copyMem (slotBase k + 0x100 + app) 0x4F000000 (s.header k 0x1C)

/-! ### Boot config (R380) -/

/-- Is pointer record A in force: it is valid, and B is not or has the lower SEQ, modulo 2^32? -/
def BootSt.inA (b : BootSt) : Bool :=
  b.ptrA.valid && (!b.ptrB.valid || decide ((b.ptrA.seq + 2 ^ 32 - b.ptrB.seq) % 2 ^ 32 < 2 ^ 31))

/-- The pointer record in force; with none valid, Starter is ACTIVE and CONFIRMED (log 44). -/
def BootSt.pointer (b : BootSt) : Pointer := if b.inA then b.ptrA else if b.ptrB.valid then b.ptrB else {}

def BootSt.active (b : BootSt) : Nat := b.pointer.active
def BootSt.trial (b : BootSt) : Bool := b.pointer.trial
def BootSt.prev (b : BootSt) : Nat := b.pointer.prev
def BootSt.trialBoots (b : BootSt) : Nat := b.pointer.trialBoots
def BootSt.trialS (b : BootSt) : Nat := b.pointer.trialS

/-- A new pointer goes to the record that is not in force, with the next SEQ. -/
def BootSt.point (b : BootSt) (p : Pointer) : BootSt :=
  let p := { p with valid := true, seq := (b.pointer.seq + 1) % 2 ^ 32 }
  if b.inA then { b with ptrB := p } else { b with ptrA := p }

/-- What a pointer record says. -/
def Pointer.content (p : Pointer) : List Nat :=
  [if p.valid then 1 else 0, p.seq, p.active, if p.trial then 1 else 0, p.prev, p.trialBoots, p.trialS]

/-- What the staging record says; an EMPTY one nothing. -/
def BootSt.stagingContent (b : BootSt) : List Nat :=
  match b.staging with
  | none => []
  | some r => [r.slot, r.state, r.id, r.count, r.trialS] ++ r.got.map (·.1)

/-- What the record at an address of Boot config or the key store says (R378, R380). -/
def BootSt.contentAt (b : BootSt) (a : Nat) : List Nat :=
  if 0x047B0000 ≤ a then b.keys.flatMap (fun e => [e.1, e.2]) ++ b.revoked.flatMap (fun e => [e.1, e.2]) ++ [b.minSecVer]
  else if a < 0x04000100 then b.ptrA.content
  else if a < 0x04000200 then b.ptrB.content
  else if 0x04001000 ≤ a ∧ a < 0x04002000 then b.stagingContent
  else if 0x04002000 ≤ a ∧ a < 0x04003000 then
    b.pendingRevoke.length :: b.pendingRevoke ++ b.pendingUnlock ++ [b.unlockNonce.toNat]
  else []

/-- The `n` bytes of Boot config or the key store from `a` on, the least significant first: the spec gives their records, not their bytes
(log 44). -/
def BootSt.recordWord (b : BootSt) (a n : Nat) : Nat :=
  leNum ((List.range n).map fun i => (Config.recordByte (b.contentAt (a + i)) (a + i)).toNat)

def State.setBoot (s : State) (b : BootSt) : State := { s with boot := b }

/-- A BOOT crumb: event, slot, version, reason (R382), and who caused it (R31). -/
def State.bootCrumb (s : State) (event slot version reason : Nat) (owner : Nat := 0) : State :=
  s.addCrumb 0x0D 0xFF owner [BitVec.ofNat 32 event, BitVec.ofNat 32 slot, BitVec.ofNat 32 version, BitVec.ofNat 32 reason]

/-- A BOOT crumb of an event that concerns no image: slot and version are free values. -/
def State.lockCrumb (s : State) (event : Nat) (owner : Nat := 0) : State :=
  let (a, s) := s.draw
  let (b, s) := s.draw
  s.bootCrumb event a b 0 owner

/-- What a slot holds, as BOOT_SLOTS codes it: the staging record of the slot, else BAD, TRIAL, CONFIRMED or EMPTY. -/
def BootSt.slotState (b : BootSt) (k : Nat) : Nat :=
  let staged := match b.staging with
    | some r => if r.slot = k ∧ b.active ≠ k then some r.state else none
    | none => none
  match staged with
  | some st => st
  | none =>
    if look 0 b.bad k = 1 then 5
    else if b.active = k then (if b.trial then 3 else 4)
    else if b.prev = k then 4 else 0

/-- BOOT_STAT and BOOT_SLOTS show the pointer record and the slots. -/
def State.showBoot (s : State) : State :=
  let b := s.boot
  let s := (s.wr F.BOOT_STAT_ACTIVE b.active).wr F.BOOT_STAT_TRIAL (if b.trial then 1 else 0)
  let s := (s.wr F.BOOT_STAT_TRIAL_BOOTS b.trialBoots).wr F.BOOT_STAT_PREV b.prev
  (s.wr F.BOOT_SLOTS_SLOT_A (b.slotState 0)).wr F.BOOT_SLOTS_SLOT_B (b.slotState 1)

/-- Boot config is written: the registers follow; how many MRAM words that takes is open (log 36). -/
def State.writeConfig (s : State) (b : BootSt) : State :=
  let (n, s) := s.draw
  ((s.setBoot b).showBoot).countMram 0 (n % 8193)

/-- An update-history entry of an activation or fallback, which the Boot ROM submits on core 0 (R338, R340); its result byte is a free
value. -/
def State.bootHistory (s : State) (k : Nat) : State :=
  let (r, s) := s.draw
  let entry := leBytes 6 (rtcSec s.rtc.count) ++ [k % 256, r % 256] ++ leBytes 4 (s.header k 8) ++ leBytes 4 (s.header k 0x40)
  let s := (List.range 4).foldl (fun s i => s.setReg (Reg.LEDGER_SUB_D i) (BitVec.ofNat 32 (leNum ((entry.drop (4 * i)).take 4)))) s
  s.ledgerTake 3

/-! ### Pending requests (R379, R391, R392) -/

/-- A verified REVOKE token names key slot `k`; one that would revoke the last good slot is discarded. -/
def State.applyRevoke (s : State) (k : Nat) : State :=
  if s.keyGood k && s.keyGood (1 - k) then
    let (n, s) := s.draw
    ((s.setBoot { s.boot with revoked := put 0 s.boot.revoked k 1 }).countMram 7 (n % 8193)).lockCrumb 11
  else s

/-- Does the device accept an UNLOCK token: by a key that is not revoked, with its own UID and the nonce that was in force when the token
came (R391)? -/
def State.unlockOk (s : State) (u : UnlockToken) : Bool :=
  s.keyGood u.key && decide (u.nonce = s.boot.unlockNonce) &&
    decide (u.uid = (s.reg Reg.BOOT_UID_LO).toNat + 2 ^ 32 * (s.reg Reg.BOOT_UID_HI).toNat)

/-- A verified UNLOCK token opens its scopes. -/
def State.applyUnlock (s : State) (scope : Nat) : State :=
  (s.wr F.BOOT_STAT_DBG scope).lockCrumb 12

/-- REVOKE first, then UNLOCK against the remaining keys; both are consumed (R392). `revoke` is the key slot a token with a good
signature by the other key names; `unlock` what a token with a good signature says. -/
def State.pendingTokens (s : State) (revoke : Option Nat) (unlock : Option UnlockToken) : State :=
  let s := match revoke with
    | some k => if s.boot.pendingRevoke ≠ [] then s.applyRevoke k else s
    | none => s
  let s := match unlock with
    | some u => if s.boot.pendingUnlock ≠ [] ∧ s.unlockOk u then s.applyUnlock (u.scope % 4) else s
    | none => s
  s.setBoot { s.boot with pendingRevoke := [], pendingUnlock := [] }

/-! ### The boot (R381, R382) -/

/-- A candidate is read, which an uncorrectable word shows, copied and checked: the state with its crumb, and whether it passes. -/
def State.tryImage (s : State) (k : Nat) : State × Bool :=
  let r := s.refusal k
  let s := s.eccScan 1 .mram (slotBase k) (0x100 + if s.layoutReason k = 0 then s.header k 0x10 + s.header k 0x1C else 0)
  let s := if s.layoutReason k = 0 then s.copyImage k else s
  if r = 0 then (s.bootCrumb 1 k (s.header k 8) 0, true)
  else ((s.bootCrumb 2 k (s.header k 8) r).wr F.BOOT_STAT_REASON r, false)

/-- The image in slot `k` runs: step 8 of R381; a trial's window starts (R383). -/
def State.runImage (s : State) (k source : Nat) : State :=
  let b := s.boot
  let trial := b.trial && decide (b.active = k)
  let s := s.setBoot { b with islandLoad := false, window := trial }
  let s := s.wr F.BOOT_TRIAL_REM_SEC (if trial then b.trialS else 0)
  let s := (s.setReg Reg.BOOT_VERSION (BitVec.ofNat 32 (s.header k 8))).wr F.BOOT_STAT_SOURCE source
  s.showBoot.integLoad.islandStart

/-- Service hold: no image runs, core 0 waits. -/
def State.serviceHold (s : State) : State := (s.wr F.BOOT_STAT_SOURCE 2).showBoot

/-- Candidates 4 and 5: Starter, in STATE CONFIRMED (R392), then service hold. -/
def State.bootStarter (s : State) : State :=
  let (s, ok) := s.tryImage 2
  let s := if ok && s.boot.trial then s.writeConfig (s.boot.point {}) else s
  if ok then (s.bootCrumb 7 2 (s.header 2 8) 0).runImage 2 1 else (s.lockCrumb 8).serviceHold

/-- Candidate 3: PREV becomes ACTIVE and CONFIRMED where it passes. -/
def State.bootPrevious (s : State) : State :=
  let k := s.boot.prev
  if 2 ≤ k then s.bootStarter
  else
    let (s, ok) := s.tryImage k
    if ok then
      let s := s.writeConfig (s.boot.point { active := k })
      ((s.bootCrumb 3 k (s.header k 8) 0).bootHistory k).runImage k 0
    else s.bootStarter

/-- The trial has failed: ACTIVE is PREV, or Starter with none, the trial slot is BAD; a fallback counts as a reset in the Ledger, once
(R382). -/
def State.fallBack (s : State) (reason : Nat) : State :=
  let b := s.boot
  let bad := b.active
  let s := s.writeConfig ({ b with bad := put 0 b.bad bad 1 }.point { active := if 2 ≤ b.prev then 2 else b.prev })
  let s := ((s.bootCrumb 6 bad (s.header bad 8) reason).wr F.BOOT_STAT_REASON reason).bootHistory bad
  if s.rd F.SYS_RSTCAUSE_CAUSE = 6 then s else s.countReset 6

/-- Candidate 2: ACTIVE, with the trial rules. -/
def State.bootActive (s : State) : State :=
  let expired := decide (s.rd F.SYS_RSTCAUSE_CAUSE = 6)
  let fell := s.boot.trial && (decide (s.boot.trialBoots = 3) || expired)
  let s := if fell then s.fallBack (if expired then 9 else 8) else s
  let k := s.boot.active
  if 2 ≤ k then s.bootStarter
  else
    let (s, ok) := s.tryImage k
    if ¬ ok then s.bootPrevious
    else if s.boot.trial then
      let s := s.writeConfig (s.boot.point { s.boot.pointer with trialBoots := s.boot.trialBoots + 1 })
      (s.bootCrumb 4 k (s.header k 8) 0).runImage k 0
    else s.runImage k 0

/-- Candidate 1: the staged image, where its slot is not ACTIVE; it is activated on trial. -/
def State.bootStaged (s : State) : State :=
  match s.boot.staging with
  | some r =>
    if r.state ≠ 2 ∨ r.slot = s.boot.active then s.bootActive
    else
      let k := r.slot
      let (s, ok) := s.tryImage k
      if ok then
        let b := s.boot
        let prev := if ¬ b.trial ∧ b.active < 2 then b.active else 3
        let s := s.writeConfig ({ b with staging := none, bad := put 0 b.bad k 0 }.point
          { active := k, trial := true, prev, trialBoots := 1, trialS := r.trialS })
        ((s.bootCrumb 3 k (s.header k 8) 0).bootHistory k).runImage k 0
      else (s.writeConfig { s.boot with staging := some { r with state := 5 } }).bootActive
  | none => s.bootActive

/-- NINT, NUM and DEN for a DCO at `khz` from a reference of `ref` kHz, where an epoch of DEN cycles is to hold a multiple of `align` DCO
cycles (R53, R54). The fraction is reduced, and widened as far as `align` asks. -/
def ratioFor (ref khz align : Nat) : Nat × Nat × Nat :=
  let g := Nat.gcd (khz % ref) ref
  let (n, d) := (khz % ref / g, ref / g)
  let k := if align = 0 then 1 else align / Nat.gcd align (khz / ref * d + n)
  (khz / ref, n * k, d * k)

/-- CLAMP by linear interpolation to FHI, rounded down (R57). -/
def clampFor (b : BandFill) : Nat := min 4095 ((b.fhi - b.calLo) * 4095 / (b.calHi - b.calLo))

/-- The Boot ROM writes one band entry: it runs BANDCAL on it and sets CLAMP from what that finds. -/
def State.fillBand (s : State) (b : BandFill) : State :=
  let p := b.pll
  let s := ((s.wr (F.PLL_BAND_A_FLO p b.entry) b.flo).wr (F.PLL_BAND_B_FHI p b.entry) b.fhi).wr (F.PLL_BAND_C_BAND p b.entry) b.band
  let s := (s.wr (F.PLL_BAND_C_CLAMP p b.entry) (clampFor b)).wr (F.PLL_BAND_C_VALID p b.entry) 1
  ((s.wr (F.PLL_CAL_LO_KHZ p) b.calLo).wr (F.PLL_CAL_HI_KHZ p) b.calHi).wr (F.PLL_EVT_CAL_DONE p) 1

/-- The Boot ROM sets up ADPLL `p` for its default frequency: ratio and loop filter (R58, R75). -/
def State.fillRatio (s : State) (p : Nat) (filter : Word) : State :=
  let (i, n, d) := ratioFor s.strapKhz (defaultKhz.getD p 0) (alignOf p)
  (((s.wr (F.PLL_NINT_INT p) i).wr (F.PLL_NNUM_NUM p) n).wr (F.PLL_NDEN_DEN p) d).setReg (Reg.PLL_LF p) filter

/-- The Boot ROM fills all six band tables, ratios and loop filters for the strapped reference; with REF_SEL 0b111 nothing (R58). What the
tables and filters hold is the Boot ROM's, an operand. -/
def State.fillBands (s : State) (bands : List BandFill) (filters : List Word) : State :=
  if 7 ≤ s.boot.refSel then s
  else
    let s := (bands.filter (·.wf)).foldl State.fillBand s
    (List.range 6).foldl (fun s p => s.fillRatio p (filters.getD p 0)) s

/-- BOOT: the Boot ROM of core 0 runs once after CORE has woken: it resumes (`record`: bank 0 holds a resume record, R317) or boots.
A boot holds the island in reset until the image runs (R15). -/
def execBoot (record : Bool) (revoke : Option Nat) (unlock : Option UnlockToken) (bands : List BandFill)
    (filters : List Word) (s : State) : Out :=
  .next (s.whenB (s.inRun 1 && s.boot.due) fun s =>
    let s := s.setBoot { s.boot with due := false }
    if record && s.power.bank0Kept then
      let s := (s.wr F.PWR_WAKESTAT_RESUMED 1).wr F.BOOT_STAT_SOURCE 3
      (s.setBoot { s.boot with islandLoad := false }).islandStart
    else
      let s := ((s.setBoot { s.boot with islandLoad := true }).wr F.OCQ_STAT_RUN 0).wr F.OCQ_STEST_STAT_BUSY 0
      let s := (s.wr F.PWR_WAKESTAT_RESUMED 0).fillBands bands filters
      let s := s.pendingTokens revoke unlock
      if s.boot.bootSel.testBit 1 then s.serviceHold else s.bootStaged)

/-! ### Trial and confirmation (R383, R384) -/

/-- TRIAL_EXPIRY: the window has reached 0. -/
def execTrialExpiry (s : State) : Out :=
  .next (s.whenB (s.boot.window && decide (s.rd F.BOOT_TRIAL_REM_SEC = 0)) (·.deviceReset 6))

/-- A write of BOOT_HEALTH_CONFIRM. -/
def State.confirm (s : State) (owner key : Nat) : State :=
  if ¬ isCore owner ∨ key ≠ 0xC0F1 then s.wr F.BOOT_HEALTH_CONFIRM_RESULT 3
  else if ¬ s.boot.trial then s.wr F.BOOT_HEALTH_CONFIRM_RESULT 1
  else if s.rd F.BOOT_TRIAL_REM_SEC = 0 then s.wr F.BOOT_HEALTH_CONFIRM_RESULT 2
  else
    let b := s.boot
    let k := b.active
    let s := s.writeConfig ({ b with window := false, minSecVer := max b.minSecVer (s.header k 0x0C) }.point { active := k, prev := b.prev })
    let (n, s) := s.draw
    let s := ((s.wr F.BOOT_TRIAL_REM_SEC 0).wr F.BOOT_HEALTH_CONFIRM_RESULT 0).countMram 7 (n % 8193)
    s.bootCrumb 5 k (s.header k 8) 0 owner

def execHealthConfirm (owner key : Nat) (s : State) : Out :=
  .next (s.command owner Reg.BOOT_HEALTH_CONFIRM (·.confirm owner key))

end Sys2Proof.Machine
end

