-- ==== Sys2Proof/Machine/Boundary.lean ====
section
/-! DEFINITION. The grid boundary, at which every stream, port and capture takes its next millisecond (R10, R105). -/

namespace Sys2Proof.Machine

/-- GRID_BOUNDARY (R105), with what was measured of each ADC and at each of its notches (log 6). -/
def execGridBoundary (adcs : List AdcMeas) (tones : List (List (Nat × Nat × Nat))) (s : State) : Out :=
  .next (s.whenB (s.inRun 1 && decide (s.rd (F.PLL_STAT_STATE 3) ≠ 0)) fun s =>
    let s := { s with sample := { s.sample with gridCount := s.sample.gridCount + gridMs, boundaryNow := s.now } }
    let s := (List.range 24).foldl (fun s n => s.endBlocks n) s
    let s := { s with sample := { s.sample with adcReasons := [] } }
    let s := (List.range 12).foldl (fun s m => (s.adcBoundary m (adcs.getD m {})).agcBoundary m (adcs.getD m {}).rms) s
    let s := (List.range 4).foldl (fun s p => if s.inRun (3 + p) then s.tunerBoundary p else s) s
    let s := (List.range 12).foldl (fun s m => s.adcConditions m) s
    let s := (List.range 6).foldl (fun s p => s.podLoads p) s
    if s.inRun 7 then
      let s := (List.range 48).foldl (fun s i => s.notchBoundary (i / 4) (i % 4) ((tones.getD (i / 4) []).getD (i % 4) (0, 0, 0))) s
      let s := { s with sample := { s.sample with ringCtrl := s.reg Reg.RING_CTRL } }
      ((List.range 24).foldl (fun t n => t.streamBoundary s n) s).whenB (s.inRun 14) State.millBoundary
    else s)

end Sys2Proof.Machine
end

