-- ==== Sys2Proof/Machine/Proofer.lean ====
section
/-! DEFINITION. The monitors and the Proofer: conversions, the slice's ration and admission, quiet slots and pod packing (R89, R218,
R318–R324, R348, R411, R425). -/

namespace Sys2Proof.Machine

/-! ### Monitors (R348, R411, R425) -/

/-- The average of the fourth and fifth of eight readings in order, doubled. -/
def median2 (ts : List Int) : Int :=
  let sorted := ts.mergeSort (fun a b => decide (a ≤ b))
  sorted.getD 3 0 + sorted.getD 4 0

/-- The hottest reading with its sensor, the first of equal ones. -/
def hottestOf (ts : List Int) : Int × Nat :=
  ts.zipIdx.foldl (fun (b : Int × Nat) e => if b.1 < e.1 then e else b) (ts.getD 0 0, 0)

/-- Source 65: a sensor more than 15 °C from the median in two consecutive reads. -/
def State.sensorCheck (s : State) (ts : List Int) : State :=
  let off (i : Nat) : Bool := decide (120 < (2 * ts.getD i 0 - median2 ts).natAbs)
  let was (i : Nat) : Bool := decide (look 0 s.mon.disagree i = 1)
  let s := if (List.range 8).any fun i => off i && !was i then s.wr F.MON_EVT_DISAGREE 1 else s
  let disagree := (List.range 8).foldl (fun m i => put 0 m i (if off i then 1 else 0)) s.mon.disagree
  let s := { s with mon := { s.mon with disagree } }
  if (List.range 8).any fun i => off i && was i then s.raise 65 else s.lower 65

/-- A temperature-triggered calibration request of each group with a reference (R89, R90). -/
def State.calRequests (s : State) (t0 : Int) : State :=
  let d := s.rd F.ADC_LOCAL_CTRL_TDELTA
  [0, 1, 2].foldl (fun s g =>
    let ref := look 0 s.rf.calTemp g
    if ref ≠ 0 ∧ d ≠ 0 ∧ 4 * d ≤ (t0 + 2048 - ref).natAbs then s.wr (calPending g) 1 else s) s

/-- VDD_CORE against its value at the last calibration; DRIFT stays until a calibration completes, which firmware starts at once where SPLL is
LOCKED (R425; log 177). -/
def State.vcoreCheck (s : State) (v : Nat) : State :=
  let s := s.wr F.MON_VCORE_VCORE v
  if 40 < ((s.rd F.MON_VCORE_VCORE : Int) - s.rd F.MON_VCORE_VCAL).natAbs ∧ ¬ s.on F.MON_VCORE_DRIFT then
    let s := (s.wr F.MON_VCORE_DRIFT 1).wr F.MON_EVT_DRIFT 1
    s.whenB (s.firmware && s.inRun 15 && decide (s.rd (F.PLL_STAT_STATE 3) = 2)) State.tpCalStart
  else s

/-- Above T_CRIT source 64 is raised (R321). -/
def State.critCheck (s : State) (hot : Int) : State :=
  if 4 * (s.rd F.PRF_TEMP_T_CRIT : Int) < hot then s.raise 64 (BitVec.ofInt 32 hot) (s.reg Reg.PRF_TEMP) else s.lower 64

/-- MON_CONVERSION: eight temperatures in 0.25 °C, which the sensors give from −40 to 150 °C (R411), and VDD_CORE in 0.5 mV. Of sources that
rise together FLT takes the lowest first (R359). -/
def execMonConversion (temps : List Int) (vcore : Nat) (s : State) : Out :=
  .next (s.whenB (s.inRun 1 && decide (temps.length = 8)) fun s =>
    let temps := temps.map (held (-160) 600)
    let s := temps.zipIdx.foldl (fun (s : State) (e : Int × Nat) =>
      (s.wr (F.MON_TEMP_TEMP e.2) (unsigned 12 e.1)).wr (F.MON_TEMP_VALID e.2) 1) s
    let (hot, at_) := hottestOf temps
    let s := (s.wr F.MON_TEMP_MAX_TEMP (unsigned 12 hot)).wr F.MON_TEMP_MAX_SENSOR at_
    ((s.vcoreCheck vcore).oneCycle fun s => (s.critCheck hot).sensorCheck temps).calRequests (temps.getD 0 0))

/-! ### The ration (R318, R319) -/

/-- f(T) as a fraction: 1 at or below T_SOFT, DERATE_MIN / 256 at and above T_HARD, linear between; `t` in 0.25 °C. -/
def State.derate (s : State) (t : Int) : Nat × Nat :=
  let soft := 4 * s.rd F.PRF_TEMP_T_SOFT
  let hard := 4 * s.rd F.PRF_TEMP_T_HARD
  let d := s.rd F.PRF_TEMP_DERATE_MIN
  if t ≤ soft then (1, 1)
  else if (hard : Int) ≤ t then (d, 256)
  else (256 * (hard - soft) - (256 - d) * (t - soft).toNat, 256 * (hard - soft))

/-- A megawatt-millisecond count in 1/256 fJ. -/
def mwUnits (mw : Nat) : Nat := mw * 1000000000 * 256

/-- The slice's ration, in 1/256 fJ. -/
def State.ration (s : State) : Nat :=
  let f := s.derate s.hottest
  mwUnits (s.rd F.PRF_CAP_MW) * f.1 / max 1 f.2

/-- The block of a stream whose millisecond was the one that has just ended: it completes in the slice that begins. -/
def State.ending (s : State) (n : Nat) : Option Block :=
  (s.stream n).blocks.find? fun b => b.ended && decide (b.start + gridMs = s.sample.gridCount)

/-- Is the track charged to the slice in which its stream's block completes: a block it would be eligible for but for the Proofer,
once the blocks before it are done with and its program has retired (log 167)? -/
def State.charged (s : State) (t : Nat) : Bool :=
  match s.ending (s.trkStream t) with
  | none => false
  | some b =>
    s.trkEn t && decide (1 ≤ s.trkState t ∧ s.trkState t ≤ 4) && s.podSweeps (s.trkPod t) && b.valid &&
      decide (0 ≤ s.aheadOf t b.seq) && s.dutyBlock t b.seq

/-- Samples of a block of the track's stream. -/
def State.trkSamples (s : State) (t : Nat) : Nat := samplesOf (s.stream (s.trkStream t)).cfg.rate

/-- Does the track's stack close with block `seq`, the blocks before it counted? -/
def State.stackCloses (s : State) (t seq : Nat) : Bool :=
  decide (((if s.stackOpens t then 0 else s.cx t 0x0C 5 5) + (s.aheadOf t seq).toNat + 1) % s.trkStack t = 0)

/-- E_t in 1/256 fJ (R319). -/
def State.trkEnergy (s : State) (t : Nat) : Nat :=
  let w := s.cx t 0x28 16 16
  s.trkSamples t / 16 * s.rd F.PRF_ELANE_FJ * (if w = 0 then 256 else w) +
    if (s.ending (s.trkStream t)).any fun b => s.stackCloses t b.seq then s.cx t 0x28 0 16 * s.rd F.PRF_ESEQ_FJ * 256 else 0

/-! ### Pod limits (R149) -/

/-- Sweep FCLK of a pod for a set of tracks, with the most that self-checks may take. -/
def State.sweepLoad (s : State) (p : Nat) (ts : List Nat) : Nat :=
  let w := max 1 (s.lanesOk p).length
  let on (x : Nat) : Nat := (ts.filter fun t => decide (s.trkPod t = p ∧ s.trkStream t = x)).length
  3840 + ((List.range 24).map fun x => (on x + w - 1) / w * (samplesOf (s.stream x).cfg.rate / 16)).foldl (· + ·) 0

/-- A common multiple of every STACK times every DUTY_N. -/
def loadUnit : Nat := 232792560 * 2520

/-- DUTY_N, which acts as 1 outside VECTOR (R136). -/
def State.dutyN (s : State) (t : Nat) : Nat := if s.trkState t = 4 then max 1 (s.cx t 0 19 4) else 1

/-- Sequencer cycles of a pod for a set of tracks, in 1/loadUnit. -/
def State.seqLoad (s : State) (p : Nat) (ts : List Nat) : Nat :=
  ((ts.filter fun t => decide (s.trkPod t = p)).map fun t =>
    s.cx t 0x28 0 16 * (loadUnit / (s.trkStack t * s.dutyN t))).foldl (· + ·) 0

/-- Tracks that no block of this slice is due for, but whose programs go on running: duty-cycled ones between their duty blocks (R149). -/
def State.resting (s : State) : List Nat :=
  allTracks.filter fun t => s.trkEn t && decide (s.trkState t = 4) && (s.ending (s.trkStream t)).any fun b => !s.dutyBlock t b.seq

/-- Does the pod have room for one more track beside those admitted and those that rest? -/
def State.podRoom (s : State) (rest ts : List Nat) (t : Nat) : Bool :=
  let p := s.trkPod t
  decide ((s.lanesOk p).length ≠ 0 ∧ s.sweepLoad p (t :: ts) * 100 ≤ s.rd F.PRF_POD_UTIL_MAX * 491520 ∧
    s.seqLoad p (t :: ts ++ rest) ≤ 1966080 * loadUnit)

/-! ### Admission (R320, R321) -/

/-- Admission as it goes: what is left, what was used, who was admitted (latest first) and deferred, and whether the Mill is held. -/
structure Admission where
  left : Nat
  used : Nat := 0
  took : List Nat := []
  deferred : List Nat := []
  /-- Reserved for the cells of the Mill's waiting bins; the units whose bins that run have got a cell each time. -/
  mill : Nat := 0
  ran : List Nat := []
  held : Bool := false
  deriving DecidableEq, Repr

/-- The tracks of a priority, from the one after the last admitted there on, round. -/
def State.rotation (s : State) (ts : List Nat) (pr : Nat) : List Nat :=
  let last := look 0 s.power.lastAdmitted pr
  let mine := ts.filter fun t => decide (s.trkPrio t = pr)
  (mine.filter fun t => decide (last ≤ t)) ++ mine.filter fun t => decide (t < last)

/-- One track: P0 always; others where ration and pod have room. -/
def State.admitTrack (s : State) (free crit : Bool) (rest : List Nat) (a : Admission) (t : Nat) : Admission :=
  let e := s.trkEnergy t
  if s.trkPrio t = 0 ∨ free then { a with left := a.left - e, used := a.used + e, took := t :: a.took }
  else if crit ∨ a.left < e ∨ ¬ s.podRoom rest a.took t then { a with deferred := t :: a.deferred }
  else { a with left := a.left - e, used := a.used + e, took := t :: a.took }

/-- The first elements of a list of FCLK counts whose sum stays within `limit`. -/
def within : Nat → List (Option Nat × Nat) → List (Option Nat × Nat)
  | _, [] => []
  | limit, c :: rest => if c.2 ≤ limit then c :: within (limit - c.2) rest else []

/-- The Mill's cells that ask in a slice, each with its FCLK: those still owed to the bins that run, with their unit, as many as fit the slice;
then those of the first `bins` bins that wait for a unit, as far as the enabled units can run them in a slice (log 94). -/
def State.millAsks (s : State) (bins : Nat) : List (Option Nat × Nat) :=
  let runs := (List.range 4).flatMap fun u =>
    match (s.unitBin u).bind fun b => s.millEntry b.1 with
    | some e => List.replicate (min (look 0 s.mill.owed u) (max 1 (491520 / max 1 e.cellFclk))) (some u, e.cellFclk)
    | none => []
  let waits := (s.mill.entries.flatMap fun e => if e.phase = .searching then List.replicate (e.bins - e.nextBin) e else []).take bins
  let units := ((List.range 4).filter (s.rd F.MILL_CTRL_UNIT_EN).testBit).length
  let used := (runs.map (·.2)).sum
  runs ++ within (units * 491520 - used) (waits.flatMap fun e => List.replicate e.ncoh (none, e.cellFclk))

/-- The Mill's cells, one after another until one is refused; the Mill is held where nothing is left for a waiting one. -/
def State.admitMill (s : State) (bins : Nat) (free crit : Bool) (a : Admission) : Admission :=
  ((s.millAsks bins).foldl (fun (acc : Admission × Bool) c =>
    let (a, more) := acc
    let e := c.2 * s.rd F.PRF_EMILL_FJ * 256
    if free then ({ a with used := a.used + e }, more)
    else if more && decide (e ≤ a.left) then
      let a := { a with left := a.left - e, used := a.used + e }
      (match c.1 with | some u => { a with ran := u :: a.ran } | none => { a with mill := a.mill + e }, true)
    else ({ a with held := a.held || decide (a.mill = 0) }, false)) ({ a with held := crit }, !crit)).1

/-- The cells admitted are no longer owed; with the Proofer switched off none is. -/
def State.payOwed (s : State) (a : Admission) : State :=
  let owed := if s.on F.PRF_CTRL_EN then a.ran.foldl (fun m u => put 0 m u (look 0 m u - 1)) s.mill.owed else []
  { s with mill := { s.mill with owed } }

/-- The whole slice: P0 to P3, the Mill after its priority. -/
def State.admission (s : State) (bins variable_ : Nat) : Admission :=
  let ts := allTracks.filter s.charged
  let rest := s.resting
  let free := !s.on F.PRF_CTRL_EN
  let crit := decide (4 * (s.rd F.PRF_TEMP_T_CRIT : Int) < s.hottest) && !free
  (List.range 4).foldl (fun a pr =>
    let a := (s.rotation ts pr).foldl (s.admitTrack free crit rest) a
    if pr = s.rd F.PRF_CTRL_MILL_PRIO then s.admitMill bins free crit a else a) { left := variable_ }

/-- P0's own energy. -/
def State.p0Energy (s : State) : Nat :=
  ((allTracks.filter fun t => s.charged t && decide (s.trkPrio t = 0)).map s.trkEnergy).foldl (· + ·) 0

/-- The last track admitted at each priority. -/
def State.noteAdmitted (s : State) (took : List Nat) : State :=
  let last := (List.range 4).foldl (fun m pr =>
    match took.find? fun t => decide (s.trkPrio t = pr) with
    | some t => put 0 m pr (t + 1)
    | none => m) s.power.lastAdmitted
  { s with power := { s.power with lastAdmitted := last, slice := took } }

/-- Which blocks may be swept: those admitted that their tracks have still before them, and the ended block of each track of `took`
(R119; log 167). -/
def State.setAdmitted (s : State) (took : List Nat) : State :=
  let tracks := s.fabric.tracks.foldl (fun m e =>
    put {} m e.1 { e.2 with admitted := e.2.admitted.filter fun q => decide (0 ≤ s.aheadOf e.1 q) }) s.fabric.tracks
  let s := { s with fabric := { s.fabric with tracks } }
  took.foldl (fun s t => match s.ending (s.trkStream t) with
    | some b => s.setTrk t { s.trk t with admitted := (s.trk t).admitted ++ [b.seq % 2 ^ 32] }
    | none => s) s

/-! ### Quiet slots (R324) -/

/-- Has a P0 track of the group an invalid block that has just ended? -/
def State.p0Invalid (s : State) (g : Nat) : Bool :=
  allTracks.any fun t => s.trkEn t && decide (s.trkPrio t = 0) &&
    decide ((s.stream (s.trkStream t)).cfg.adc % 3 = g) && (s.ending (s.trkStream t)).any fun b => !b.valid

/-- Does the slice that begins contain a DT whole second? -/
def State.secondInSlice (s : State) : Bool := s.dtOk && decide (dtNs s.dtNow = 0 ∨ 1000000000 < dtNs s.dtNow + 1000000)

/-- One pending request: granted, forced, or left to wait. -/
def State.quietSlot (s : State) (g : Nat) : State :=
  let s := if s.p0Invalid g then { s with rf := { s.rf with badAt := put 0 s.rf.badAt g (s.now + 1) } } else s
  if ¬ s.on (calPending g) ∨ s.on (calBusy g) then { s with rf := { s.rf with quietWait := put 0 s.rf.quietWait g 0 } }
  else
    let bad := look 0 s.rf.badAt g
    let waited := look 0 s.rf.quietWait g
    let others := [0, 1, 2].any fun h => decide (h ≠ g) && s.on (calBusy h)
    let quiet := s.locked g && !others && !s.secondInSlice &&
      decide (bad = 0 ∨ s.rd F.PRF_QUIET_GAP_MS * 491520 ≤ s.now + 1 - bad)
    let forced := decide (s.rd F.PRF_QUIET_MAX_S * 1000 ≤ waited) && s.locked g
    if quiet then (s.wr (calBusy g) 1).event F.PRF_EVT_QUIET_GRANT
    else if forced then ((s.wr (calBusy g) 1).wr F.PRF_EVT_QUIET_GRANT 1).event F.PRF_EVT_QUIET_FORCED
    else { s with rf := { s.rf with quietWait := put 0 s.rf.quietWait g (waited + 1) } }

/-! ### Pod packing (R323) -/

/-- Is the pod voted for? -/
def State.podVoted (s : State) (p : Nat) : Bool := decide (s.rd (F.PWR_DOM_VOTE_VOTES (8 + p)) ≠ 0)

/-- Client 5's vote on a pod. -/
def State.prfVote (s : State) (p : Nat) (up : Bool) : State :=
  ((s.vote 5 (8 + p) up).wr ⟨Reg.PRF_STAT, 16 + p, 1⟩ (if up then 1 else 0)).settle

/-- The load of a pod with the slice's tracks, in 1/100 of percent units: FCLK times 100. -/
def State.podLoad100 (s : State) (p : Nat) (ts : List Nat) : Nat := s.sweepLoad p ts * 100

/-- The load with a track moved to pod `q`: its own sweeps join those there. -/
def State.loadWith (s : State) (q : Nat) (moved : List Nat) : Nat :=
  let w := max 1 (s.lanesOk q).length
  let there := s.power.slice.filter fun t => decide (s.trkPod t = q)
  let on (x : Nat) : Nat := ((there ++ moved).filter fun t => decide (s.trkStream t = x)).length
  (3840 + ((List.range 24).map fun x => (on x + w - 1) / w * (samplesOf (s.stream x).cfg.rate / 16)).foldl (· + ·) 0) * 100

/-- A pod that may take tracks: voted, in Run, not in FAULT. -/
def State.podTakes (s : State) (p : Nat) : Bool := s.podVoted p && s.inRun (8 + p) && decide (s.rd (F.POD_STAT_STATE p) ≠ 3)

/-- May a P0 track move to pod `q`: do the streams of its tracks keep DEPTH ≤ 5? -/
def State.p0Target (s : State) (q : Nat) : Bool :=
  allTracks.all fun t => !(s.trkEn t && decide (s.trkPod t = q)) || decide (s.rd (F.RING_STR_ALLOC_DEPTH (s.trkStream t)) ≤ 5)

/-- A plan: each track with its new pod. -/
abbrev Moves := List (Nat × Nat)

def Moves.to (m : Moves) (q : Nat) : List Nat := (m.filter fun e => decide (e.2 = q)).map (·.1)

/-- The least loaded of the pods that can take a track within `limit` percent. -/
def State.place (s : State) (targets : List Nat) (limit : Nat) (m : Moves) (t : Nat) : Option Nat :=
  let fits := targets.filter fun q =>
    decide (s.loadWith q (if s.power.slice.contains t then t :: m.to q else m.to q) ≤ limit * 491520) &&
      (decide (s.trkPrio t ≠ 0) || s.p0Target q)
  fits.foldl (fun b q => match b with
    | none => some q
    | some c => if s.loadWith q (m.to q) < s.loadWith c (m.to c) then some q else b) none

/-- Places every track of a list, or none fits. -/
def State.placeAll (s : State) (targets : List Nat) (limit : Nat) : List Nat → Moves → Option Moves
  | [], m => some m
  | t :: ts, m => match s.place targets limit m t with
    | some q => s.placeAll targets limit ts ((t, q) :: m)
    | none => none

/-- A MOVE of the Proofer, unless the track stops or moves already. -/
def State.prfMove (s : State) (e : Nat × Nat) : State :=
  let x := s.trk e.1
  if x.stopping ∨ x.moveTo.isSome then s else s.setTrk e.1 { x with moveTo := some e.2, byCommand := false }

/-- Tracks assigned to a pod. -/
def State.podTracks (s : State) (p : Nat) : List Nat := allTracks.filter fun t => s.trkEn t && decide (s.trkPod t = p)

/-- Pack: the highest voted pod's tracks go to the others, if they fit. -/
def State.pack (s : State) : State :=
  match ((List.range 6).filter s.podVoted).reverse with
  | [] => s
  | h :: rest =>
    match rest.filter s.podTakes, s.placeAll (rest.filter s.podTakes) (s.rd F.PRF_POD_PACK_LO) (s.podTracks h) [] with
    | _ :: _, some m =>
      let s := m.reverse.foldl State.prfMove s
      { s with power := { s.power with packFrom := some h } }.event F.PRF_EVT_PACK
    | _, _ => s

/-- Is the pod above PACK_HI? -/
def State.podOver (s : State) (p : Nat) : Bool := decide (s.rd F.PRF_POD_PACK_HI * 491520 < s.loadWith p [])

/-- Unpack: a vote for the lowest unvoted pod. -/
def State.unpack (s : State) : State :=
  match (List.range 6).find? fun p => !s.podVoted p with
  | none => s
  | some q =>
    let s := s.prfVote q true
    { s with power := { s.power with packTo := some q } }.event F.PRF_EVT_PACK

/-- POD_PACK: a re-plan every PERIOD_MS with at most one change. A pack whose pod has not emptied lapses, and its pod is judged anew; while a
pod still wakes for an unpack, no change is made (log 171). -/
def execPodPack (s : State) : Out :=
  .next (s.whenB (s.inRun 1 && s.on F.PRF_CTRL_PACK_EN && s.ranMs .packing (s.rd F.PRF_PACK_PERIOD_MS)) fun s =>
    let s := { s.mark .packing with power := { (s.mark .packing).power with packFrom := none } }
    if s.power.packTo.isSome then s
    else if (List.range 6).any fun p => s.podVoted p && s.podOver p then s.unpack else s.pack)

/-- Takes tracks off pod `p` until it is no longer above PACK_HI without them. -/
def State.shed (s : State) (p q : Nat) : List Nat → Moves → Moves
  | [], m => m
  | t :: ts, m =>
    let left := s.power.slice.filter fun x => !(m.any fun e => decide (e.1 = x))
    if s.sweepLoad p left * 100 ≤ s.rd F.PRF_POD_PACK_HI * 491520 then m
    else match s.place [q] (s.rd F.PRF_POD_PACK_HI) m t with
      | some _ => s.shed p q ts ((t, q) :: m)
      | none => s.shed p q ts m

/-- A packing goes on: the emptied pod's vote is withdrawn; a pod that has reached Run gets its
tracks, but for one in FAULT (R326). -/
def State.packGoes (s : State) : State :=
  let s := match s.power.packFrom with
    | some h =>
      if s.rd (F.TRK_PODCNT_COUNT h) = 0 then
        { s with power := { s.power with packFrom := none } }.prfVote h false
      else s
    | none => s
  match s.power.packTo with
  | some q =>
    if s.inRun (8 + q) ∧ ¬ s.podTakes q then { s with power := { s.power with packTo := none } }
    else if s.inRun (8 + q) then
      let m := ((List.range 6).filter fun p => decide (p ≠ q) && s.podOver p).foldl (fun m p =>
        s.shed p q (s.power.slice.filter fun t => decide (s.trkPod t = p)) m) []
      let s := m.reverse.foldl State.prfMove s
      { s with power := { s.power with packTo := none } }
    else s
  | none => s

/-! ### The slice (R318–R321, R324) -/

/-- PROOFER_SLICE: what a slice leaves over stays with the Mill's reservation until the next one (log 94). -/
def execProoferSlice (bins : Nat) (s : State) : Out :=
  .next (s.whenB (s.inRun 1) fun s =>
    let ration := s.ration
    let base := mwUnits (s.rd F.PRF_BASE_MW)
    let over_ := decide (ration < base)
    let var := ration - base
    let crit := decide (4 * (s.rd F.PRF_TEMP_T_CRIT : Int) < s.hottest)
    let p0 := decide (var < s.p0Energy)
    let a := s.admission bins var
    let f := s.derate s.hottest
    let s := ((s.setAdmitted a.took).noteAdmitted a.took).payOwed a
    let s := (s.wr F.PRF_STAT_TEMP (unsigned 8 (s.hottest / 4))).wr F.PRF_STAT_FACTOR (min 255 (256 * f.1 / max 1 f.2))
    let flag (b : Bool) : Nat := if b then 1 else 0
    let s := ((s.wr F.PRF_STAT_P0_OVER (flag p0)).wr F.PRF_STAT_BASE_OVER (flag over_)).wr F.PRF_STAT_CRIT (flag crit)
    let s := s.holdMill a.held
    let s := { s with power := { s.power with millFunds := if s.on F.PRF_CTRL_EN then some (a.mill + a.left) else none } }
    let s := (s.wr F.PRF_RATION_NJ (ration / 256000000)).wr F.PRF_USED_NJ ((base + a.used) / 256000000)
    let s := (s.wr F.PRF_DEFER_LAST a.deferred.length).whenB (decide (a.deferred ≠ [])) fun s => s.sat F.PRF_DEFER_TOTAL
    let s := if p0 then s.event F.PRF_EVT_P0_OVER else s
    let s := if over_ then s.event F.PRF_EVT_BASE_OVER else s
    let s := if crit then s.event F.PRF_EVT_CRIT else s
    ([0, 1, 2].foldl State.quietSlot s).packGoes)

end Sys2Proof.Machine
end

