-- ==== Sys2Proof/Machine/Txn.lean ====
section
/-! DEFINITION. Transactions: their commands, the journal, the commit point and the landing (R33–R45). -/

namespace Sys2Proof.Machine

/-! ### Results (R45) -/

/-- A command's result code reaches its issuer: accepted with 0, refused with another. -/
def State.txnAnswer (s : State) (owner n code : Nat) : State :=
  let s := (s.setResult owner n code).touch owner n
  if code = 0 then s else s.refuse owner code

/-- A refused write: its code reads in TXN_STATn.RESULT. -/
def State.txnRefuse (s : State) (owner n code : Nat) : State := (s.setResult owner n code).refuse owner code

/-! ### The commit point (R37–R41, R48) -/

/-- Why the journal cannot commit now: DOMAIN_OFF before CLAIM_LOST; 0 where it can. -/
def State.commitCode (s : State) (n : Nat) : Nat :=
  let t := s.txn n
  if t.journal.any fun e => !s.answers e.addr then 4
  else if t.journal.any fun e => !s.claimOk t.owner e.addr e.value || s.dmaArmBad t.owner e.addr e.value then 0x0B
  else 0

/-- Is it a register of LEAVEN, whose writes land at the next XTAL32 tick? -/
def inLeaven (e : JEntry) : Bool := decide (domainOf e.addr = some 0)

/-- The journal lands: all but LEAVEN's writes at once, the transaction in LANDING until LANDING_COMPLETE. -/
def State.land (s : State) (n : Nat) : State :=
  let t := s.txn n
  (s.setTxn n { t with state := .landing }).applyRwt (t.journal.filter fun e => !inLeaven e)

/-- A commit: refused whole with its code, the transaction OPEN and the journal kept, or landed with `flag` set. -/
def State.commitNow (s : State) (n : Nat) (flag : Option Fld) : State × Nat :=
  let code := s.commitCode n
  if code ≠ 0 then (s.setTxn n { s.txn n with state := .opened }, code)
  else
    let s := match flag with
      | none => s
      | some f => s.wr f 1
    (s.land n, 0)

/-- Why a command of `owner` to domain `n` is refused by the domain's state; 0 where the owner's transaction is OPEN. -/
def State.txnGate (s : State) (owner n : Nat) : Nat :=
  let t := s.txn n
  match t.state with
  | .idle => 3
  | .opened => if t.owner = owner then 0 else 2
  | .failed => if t.owner = owner then 6 else 2
  | _ => if t.owner = owner then 3 else 2

/-- BEGIN (R33). -/
def State.txnBegin (s : State) (owner n : Nat) : State × Nat :=
  if (s.txn n).state = .idle then (s.setTxn n { state := .opened, owner }, 0) else (s, 1)

/-- COMMIT (R37, R38, R40). -/
def State.txnCommit (s : State) (owner n : Nat) : State × Nat :=
  if s.txnGate owner n ≠ 0 then (s, s.txnGate owner n) else s.commitNow n none

/-- The DT that TXN_AT_* name. -/
def State.txnAt (s : State) (n : Nat) : Nat :=
  dtOf (s.rd (F.TXN_AT_SEC_LO_SEC_LO n) + 2 ^ 32 * s.rd (F.TXN_AT_SEC_HI_SEC_HI n)) (s.rd (F.TXN_AT_NS_NS n))

/-- COMMITAT for a DT, which may be late (R41); before DT's rebuild it is armed as it stands (R284). -/
def State.armAt (s : State) (n : Nat) : State × Nat :=
  let target := s.txnAt n
  if s.dtOk ∧ target ≤ s.time.kyo.dt then
    if (s.rd F.TXN_CTRL_LATE_POLICY).testBit n then s.commitNow n (some (F.TXN_STAT_LATE n)) else (s, 5)
  else (s.setTxn n { s.txn n with state := .armed, at0 := false, target }, 0)

/-- COMMITAT (R39–R41). -/
def State.txnCommitAt (s : State) (owner n : Nat) (tp0 : Bool) : State × Nat :=
  if s.txnGate owner n ≠ 0 then (s, s.txnGate owner n)
  else if ¬ s.inRun 15 then (s, 4)
  else if tp0 then
    if ¬ s.on (F.TP_CFG_EN 0) then (s, 8)
    else (s.setTxn n { s.txn n with state := .armed, at0 := true, target := (s.pulse 0).edges }, 0)
  else s.armAt n

/-- ABORT (R42): JCOUNT reads one too many from here to the next BEGIN (E04). -/
def State.txnAbortCmd (s : State) (owner n : Nat) : State × Nat :=
  let t := s.txn n
  if t.state = .idle then (s, 3)
  else if t.owner ≠ owner then (s, 2)
  else if t.state = .landing then (s, 3)
  else (s.setTxn n { afterAbort := true }, 0)

/-- A command written to TXN_CMDn. Track sequencers and DMA program channels cannot issue one: their write starts nothing (R31; log 153). -/
def State.txnCommand (s : State) (owner n : Nat) (k : State → State × Nat) : State :=
  if n < 4 then
    s.access owner (Reg.TXN_CMD n) fun s => s.whenB (!decide (24 ≤ owner ∧ owner ≤ 55)) fun s =>
      let (t, code) := k s
      t.txnAnswer owner n code
  else s

/-- A transaction command that its issuer writes. -/
def State.txnIssued (s : State) (owner n : Nat) (k : State → State × Nat) : State :=
  s.ifHeard owner (Reg.TXN_CMD n) true (·.txnCommand owner n k)

def execBegin (owner n : Nat) (s : State) : Out := .next (s.txnIssued owner n (·.txnBegin owner n))

def execCommit (owner n : Nat) (s : State) : Out := .next (s.txnIssued owner n (·.txnCommit owner n))

def execCommitat (owner n : Nat) (tp0 : Bool) (s : State) : Out := .next (s.txnIssued owner n (·.txnCommitAt owner n tp0))

def execAbort (owner n : Nat) (s : State) : Out := .next (s.txnIssued owner n (·.txnAbortCmd owner n))

/-- A write to TXN_AT_SEC_LOn (0), TXN_AT_SEC_HIn (1) or TXN_AT_NSn (2), which takes effect only while OPEN (R33). -/
def State.txnAtWrite (s : State) (owner n which : Nat) (v : Word) : State × Nat :=
  let g := s.txnGate owner n
  if g ≠ 0 then (s, if g = 6 then 3 else g)
  else if which = 0 then (s.setReg (Reg.TXN_AT_SEC_LO n) v, 0)
  else if which = 1 then (s.wr (F.TXN_AT_SEC_HI_SEC_HI n) v.toNat, 0)
  else (s.wr (F.TXN_AT_NS_NS n) v.toNat, 0)

/-- A TXN_AT write; one that is accepted is no command and leaves RESULT. -/
def State.txnAtCommand (s : State) (owner n which : Nat) (v : Word) : State :=
  s.access owner (Reg.TXN_AT_SEC_LO n) fun s =>
    let (t, code) := (s.touch owner n).txnAtWrite owner n which v
    if code = 0 then t else t.txnRefuse owner n code

def execTxnAtWrite (owner n which : Nat) (v : Word) (s : State) : Out :=
  .next (if n < 4 ∧ which < 3 then s.ifHeard owner (Reg.TXN_AT_SEC_LO n) true (·.txnAtCommand owner n which v) else s)

/-! ### Writes to RWT fields (R34–R36, R39, R44) -/

/-- Why the write is refused; 0 where it is taken. The transaction's state is judged before the claim (log 146). -/
def State.rwtCode (s : State) (owner td a : Nat) (v : Word) : Nat :=
  let t := s.txn td
  let tune := decide (0x40050000 ≤ a ∧ a < 0x40054000 ∧ a % 0x1000 = 4) && s.on (F.RFP_STAT_TUNE_BUSY ((a - 0x40050000) / 0x1000))
  if t.state = .landing ∨ (t.held ∧ t.owner ≠ owner) then 1
  else if t.state = .failed then 6
  else if t.state = .armed then 3
  else if t.state = .idle ∧ (s.rd F.TXN_CTRL_REQUIRED).testBit td then 0x0A
  else if tune then 1
  else if ¬ s.claimOk owner a v ∨ s.dmaArmBad owner a v then 0x0C
  else 0

/-- A write goes to the journal: in place of an earlier one of the same address, or as a new entry; a 257th fails the transaction. -/
def State.journal (s : State) (owner td a : Nat) (v : Word) : State :=
  let t := s.txn td
  let e : JEntry := ⟨a, v &&& rwtMask a⟩
  if t.journal.any fun x => decide (x.addr = a) then
    s.setTxn td { t with journal := t.journal.map fun x => if x.addr = a then e else x }
  else if 256 ≤ t.journal.length then
    (s.setTxn td { t with state := .failed, journal := [] }).txnRefuse owner td 6
  else s.setTxn td { t with journal := t.journal ++ [e] }

/-- A write to the RWT fields of the register at `a`: refused, journaled, or applied at once. -/
def State.writeRwt (s : State) (owner a : Nat) (v : Word) : State :=
  match tdOf a with
  | none => s
  | some td =>
    s.access owner a fun s =>
      let s := s.touch owner td
      let code := s.rwtCode owner td a v
      if code ≠ 0 then
        let s := match trgOf a with
          | some k => if code = 0x0C ∧ s.claimOk owner a v then s.wr (F.TRG_STAT_REFUSED k) 1 else s
          | none => s
        s.txnRefuse owner td code
      else if (s.txn td).state = .opened then s.journal owner td a v
      else s.applyRwt [⟨a, v⟩]

/-- RWT_WRITE; at an address without RWT fields it does nothing. -/
def execRwtWrite (owner a : Nat) (v : Word) (s : State) : Out := 
  .next (if rwtMask a = 0 then s else s.ifHeard owner a true (·.writeRwt owner a v))

/-- TRG_ARM_WRITE (R273–R275): a write of TRGk_CFG. -/
def execTrgArmWrite (owner k : Nat) (v : Word) (s : State) : Out :=
  .next (if k < 16 then s.ifHeard owner (Reg.TRG_CFG k) true (·.writeRwt owner (Reg.TRG_CFG k) v) else s)

/-! ### The edge of an armed commit, the landing's end, the idle timeout (R39, R37, R43) -/

/-- Has the edge come for which the transaction is armed? -/
def State.armedDue (s : State) (n : Nat) : Bool :=
  let t := s.txn n
  decide (t.state = .armed) && s.dtOk &&
  (if t.at0 then decide (t.target < (s.pulse 0).edges) else decide (t.target ≤ s.time.kyo.dt))

/-- The armed commit at its edge: landed with OK, or OPEN again with the code in the owner's RESULT; the time in ARMED does not count
towards the idle timeout (R39; log 154). -/
def State.armedCommit (s : State) (n : Nat) (flag : Option Fld) : State :=
  let (t, code) := s.commitNow n flag
  (t.setResult (s.txn n).owner n code).mark (.txn n)

def execArmedCommit (n : Nat) (s : State) : Out := .next (s.whenB (s.armedDue n) (·.armedCommit n none))

/-- A late armed commit after DT's rebuild is treated as R41 has it, as if armed at the rebuild (R284). -/
def State.armedRebuilt (s : State) (n : Nat) : State :=
  if s.armedDue n && !(s.txn n).at0 then
    if (s.rd F.TXN_CTRL_LATE_POLICY).testBit n then s.armedCommit n (some (F.TXN_STAT_LATE n))
    else ((s.setTxn n { s.txn n with state := .opened }).setResult (s.txn n).owner n 5).mark (.txn n)
  else s

/-- The last writes, those of LEAVEN, land and the domain is IDLE. -/
def State.landingDone (s : State) (n : Nat) : State :=
  let t := s.txn n
  ((s.applyRwt (t.journal.filter inLeaven)).setTxn n {}).settle

def execLandingComplete (n : Nat) (s : State) : Out :=
  .next (s.whenB (decide ((s.txn n).state = .landing)) (·.landingDone n))

/-- TXN_TIMEOUT: the owner has left the transaction alone for TXN_TIMEOUT.MS; 0 sets no limit. -/
def execTxnTimeout (n : Nat) (s : State) : Out :=
  .next (s.whenB ((s.txn n).held && decide ((s.txn n).state ≠ .armed ∧ s.rd F.TXN_TIMEOUT_MS ≠ 0) &&
    s.ranMs (.txn n) (s.rd F.TXN_TIMEOUT_MS)) (·.txnAbort n 7))

/-! ### Claims and balls (R46–R51, R395, R396) -/

/-- The one function a FUNC code selects that only one ball may carry: TP, EXTIN, BLANK, TRG (R395). -/
def ballFunction (b f : Nat) : Option Nat :=
  if f = 0 then
    if 16 ≤ b ∧ b < 20 then some (0x100 + (b - 16))
    else if 20 ≤ b ∧ b < 28 then some (0x200 + (b - 20))
    else if 28 ≤ b ∧ b < 32 then some (0x300 + (b - 28))
    else none
  else if f = 2 ∧ 16 ≤ b ∧ b < 64 then some (0x400 + b % 16)
  else if f = 3 ∧ 32 ≤ b ∧ b < 48 then some (0x100 + (b - 32) % 4)
  else none

/-- Is the function on another ball? -/
def State.functionTaken (s : State) (b f : Nat) : Bool :=
  match ballFunction b f with
  | none => false
  | some x => (List.range 64).any fun c => decide (c ≠ b ∧ ballFunction c (s.rd (F.PAD_FUNC_FUNC c)) = some x)

/-- CLAIM: 0 OK, 1 CLAIM_DENIED, 3 BAD_RESOURCE (R47). -/
def State.claimRes (s : State) (owner r : Nat) : State × Nat :=
  if ¬ validRes r then (s, 3)
  else if s.ownerOf r = 0 ∨ s.ownerOf r = owner then
    ({ s with claims := { s.claims with owner := put 0 s.claims.owner r owner } }, 0)
  else (s, 1)

/-- RELEASE: 0 OK, 2 NOT_OWNER, 3 BAD_RESOURCE (R49). -/
def State.releaseRes (s : State) (owner r : Nat) : State × Nat :=
  if ¬ validRes r then (s, 3)
  else if s.ownerOf r = owner then ((s.unclaim r).settle, 0)
  else (s, 2)

/-- A PAD_CLAIM write: the result reads in PAD_CLAIM_RES, one that is not OK is a refused write (R47). -/
def State.padCommand (s : State) (owner : Nat) (k : State → State × Nat) : State :=
  s.access owner Reg.PAD_CLAIM fun s =>
    let (t, r) := k s
    let t := { t with claims := { t.claims with result := put 0 t.claims.result owner r } }
    if r = 0 then t else t.refuse owner (if r = 1 then 0x0C else if r = 2 then 2 else 0)

def execPadClaim (owner r : Nat) (s : State) : Out := 
  .next (s.ifHeard owner Reg.PAD_CLAIM true (·.padCommand owner (·.claimRes owner r)))

def execPadRelease (owner r : Nat) (s : State) : Out := 
  .next (s.ifHeard owner Reg.PAD_CLAIM true (·.padCommand owner (·.releaseRes owner r)))

/-- A write of PAD_FUNCn that takes RGMII off a ball of NP2 takes its link down (R395): only from the owner of MFBn, and no function twice (R51, R396). -/
def State.padFunc (s : State) (owner n : Nat) (v : Word) : State :=
  s.access owner (Reg.PAD_FUNC n) fun s =>
    if ¬ s.mayConfigure owner (0x1000 + n) ∨ s.functionTaken n (bits v 0 4) then s.refuse owner 0x0C
    else
      let s := s.setReg (Reg.PAD_FUNC n) (v &&& 0x1FF)
      if s.rgmii then s else s.dropLink 2

def execPadFuncWrite (owner n : Nat) (v : Word) (s : State) : Out := 
  .next (if n < 64 then s.ifHeard owner (Reg.PAD_FUNC n) true (·.padFunc owner n v) else s)

end Sys2Proof.Machine
end

