-- ==== Sys2Proof/Machine/TimeSys.lean ====
section
/-! DEFINITION. Classes T and S of the Lyzovel engines, waits and their releases (R183–R190), the DT step (R279, R285) and DT's rebuild
(R284). -/

namespace Sys2Proof.Machine

/-! ### Waiting -/

/-- Is the engine in WAIT? -/
def State.waits (s : State) (e : Nat) : Bool :=
  isEngine e && s.inRun 18 && match kindOf e with
  | .track => false
  | .ctx => decide (s.rd (F.LYZ_CTX_STAT_STATE (e - 32)) = 3)
  | .dma => decide (s.rd (F.DMA_PCH_STAT_STATE (e - 40)) = 2)

/-- A wait ends: d takes its result, the engine goes on after it, its run time starts again (R198). -/
def State.release (s : State) (e d v : Nat) : State :=
  let s := s.setEng e { s.eng e with wait := .none, ran := 0, since := s.now }
  ((s.setG e d (BitVec.ofNat 32 v)).advance e).engGo e false

/-- How a waiting instruction comes out at its issue: a fault, a result without a wait, or the wait. -/
inductive Waiting where
  | fault (code : Nat)
  | now (v : Nat)
  | wait (w : Wait)
  deriving DecidableEq, Repr

/-- The engine waits. -/
def State.enterWait (s : State) (e : Nat) (w : Wait) : State := (s.setEng e { s.eng e with wait := w }).engGo e true

/-- An instruction that may wait. -/
def State.waitInstr (s : State) (e : Nat) (legal : Kind → Bool) (cyc d : Nat) (k : State → Waiting) : State :=
  s.instr e legal cyc false fun s =>
    match k s with
    | .fault code => (s, code)
    | .now v => ((s.setG e d (BitVec.ofNat 32 v)).advance e, 0)
    | .wait w => (s.enterWait e w, 0)

/-! ### waitq (R183) -/

/-- Is the source ready? -/
def State.sourceReady (s : State) (src : Nat) : Bool :=
  if src < 16 then s.paceReady src
  else if src < 24 then decide (s.queueFill (src - 16) ≠ 0)
  else if src < 32 then !s.ringFull (src - 24)
  else s.on ⟨Reg.LYZ_SIG, src - 32, 1⟩

/-- A release on a signal clears it (R190). -/
def State.takeSource (s : State) (src : Nat) : State := if 32 ≤ src then s.wr ⟨Reg.LYZ_SIG, src - 32, 1⟩ 0 else s

/-- WAITQ: g[a] = 0 means no timeout. -/
def execWaitq (e d a src : Nat) (s : State) : Out :=
  .next (s.instr e notTrack 1 false fun s =>
    if 64 ≤ src then (s, 0x01)
    else if s.sourceReady src then (((s.takeSource src).setG e d 0).advance e, 0)
    else
      let n := (s.g e a).toNat
      (s.enterWait e (.queue src d (if n = 0 then none else some (s.now + n))), 0))

/-- Does an engine with a lower owner ID wait on the same signal? -/
def State.waitsBefore (s : State) (e src : Nat) : Bool :=
  (List.range e).any fun i => s.waits i && match (s.eng i).wait with
    | .queue src' _ _ => decide (src' = src ∧ 32 ≤ src)
    | _ => false

/-- WAITQ_RELEASE: ready, or timed out. -/
def execWaitqRelease (e : Nat) (s : State) : Out :=
  .next (s.whenB (s.waits e) fun s =>
    match (s.eng e).wait with
    | .queue src d limit =>
      if s.sourceReady src && !s.waitsBefore e src then (s.takeSource src).release e d 0
      else match limit with
        | some t => if t ≤ s.now then s.release e d 1 else s
        | none => s
    | _ => s)

/-! ### waitt (R184, R185) -/

/-- waitt abs as issued now, with DT's seconds [47:32]. -/
def State.absWait (s : State) (sec ns d : Nat) : Waiting :=
  if ¬ s.inRun 15 then .now 4
  else if ¬ s.dtOk then .wait (.rebuild true sec ns d)
  else
    let target := dtOf (dtSec s.dtNow / 2 ^ 32 * 2 ^ 32 + sec) ns
    if target ≤ s.time.kyo.dt then .now 1 else .wait (.dtAbs target d)

/-- waitt rel as issued now; after 0 ns it does not wait. -/
def State.relWait (s : State) (ns d : Nat) : Waiting :=
  if ¬ s.inRun 15 then .now 4
  else if ¬ s.dtOk then .wait (.rebuild false 0 ns d)
  else if ns = 0 then .now 0
  else .wait (.rel (s.time.kyo.mono + ns * 2 ^ 32) d)

def execWaittAbs (e d a b : Nat) (s : State) : Out :=
  .next (s.waitInstr e notTrack 1 d fun s => s.absWait (s.g e a).toNat (s.g e b).toNat d)

def execWaittTp (e d n : Nat) (s : State) : Out :=
  .next (s.waitInstr e notTrack 1 d fun s =>
    if 4 ≤ n then .fault 0x01
    else if ¬ s.inRun 15 then .now 4
    else if ¬ s.on (F.TP_CFG_EN n) then .now 3
    else .wait (.tp n (s.pulse n).edges d))

def execWaittRel (e d a : Nat) (s : State) : Out :=
  .next (s.waitInstr e notTrack 1 d fun s => s.relWait (s.g e a).toNat d)

/-- WAITT_RELEASE: the condition holds. -/
def execWaittRelease (e : Nat) (s : State) : Out :=
  .next (s.whenB (s.waits e && s.dtOk) fun s =>
    match (s.eng e).wait with
    | .dtAbs t d => if t ≤ s.time.kyo.dt then s.release e d 0 else s
    | .rel t d => if t ≤ s.time.kyo.mono then s.release e d 0 else s
    | .tp n k d => if k < (s.pulse n).edges then s.release e d 0 else s
    | _ => s)

/-- Every engine that can wait. -/
def waiters : List Nat := (List.range 16).map (· + 32)

/-- A forward step releases the abs waits it passes (R185). -/
def State.stepWait (s : State) (e : Nat) : State :=
  s.whenB (s.waits e) fun s =>
    match (s.eng e).wait with
    | .dtAbs t d => if t ≤ s.time.kyo.dt then s.release e d 2 else s
    | _ => s

/-- At the rebuild, waits issued before it are evaluated as if issued there; an abs target already passed is late (R284). -/
def State.rebuildWait (s : State) (e : Nat) : State :=
  s.whenB (s.waits e) fun s =>
    let go (d : Nat) (w : Waiting) : State := match w with
      | .fault _ => s
      | .now v => s.release e d v
      | .wait w => s.setEng e { s.eng e with wait := w }
    match (s.eng e).wait with
    | .rebuild true sec ns d => go d (s.absWait sec ns d)
    | .rebuild false _ ns d => go d (s.relWait ns d)
    | .dtAbs t d => if t ≤ s.time.kyo.dt then s.release e d 1 else s
    | _ => s

/-! ### The step and the rebuild (R279, R276, R284, R285) -/

/-- 100 ms in FCLK periods. -/
def stepDelay : Nat := 49152000

/-- Has the edge or the second come at which the armed step applies (R279)? -/
def State.stepDue (s : State) : Bool :=
  let k := s.time.kyo
  s.dtOk && k.step.isSome &&
  (if s.on (F.TP_CFG_EN 0) then decide (k.stepArmedAt + stepDelay ≤ (s.pulse 0).gridNow)
  else decide (k.stepArmedAt + stepDelay ≤ s.now ∧
    k.dt % Config.dtSecond < (if s.on F.KYO_STATE_SPLL_BYP then s.refPeriod else s.fclkShare.1)))

/-- The step enters DT; the ends of running phases, placed by DT, move with it. -/
def State.shiftDt (s : State) (v : Int) : State :=
  let k := s.time.kyo
  let s := s.setKyo { k with step := none, stepped := some (s.now, v), dt := (k.dt + v * 2 ^ 32).toNat }
  (List.range 4).foldl (fun s n =>
    let p := s.pulse n
    if p.active then s.setPulse n { p with riseAt := (p.riseAt + v * 2 ^ 32).toNat, fallAt := (p.fallAt + v * 2 ^ 32).toNat } else s) s

/-- Firmware notes the edge that its TIMEMSG of the second in which a step is applied describes, and moves check 4's anchor with DT; after a
backward step epochs and seconds come again (R237, R238, R249). -/
def State.tellStep (s : State) (v : Int) : State :=
  let tp0 := s.on (F.TP_CFG_EN 0)
  let p := s.pulse 0
  let first := match p.secAt with
    | some t => if t / 1000000000 = p.gridAt / 1000000000 then t else p.gridAt
    | none => p.gridAt
  let at_ := if tp0 then first else dtSec s.dtNow * 1000000000
  let n := s.nav.moveAnchor (v * 65536000)
  if v < 0 then { s with nav := { n with stepEdge := some (at_, v, tp0), lastEpoch := 0, again := true, coasted := [] } }
  else { s with nav := { n with stepEdge := some (at_, v, tp0) } }

/-- STEP_APPLY: with everything that a forward step passes (R285). -/
def execStepApply (s : State) : Out :=
  .next (s.whenB s.stepDue fun s =>
    let v := s.time.kyo.step.getD 0
    let s := (((s.tellStep v).shiftDt v).event F.KYO_EVT_STEPPED).followLeaps
    if v ≤ 0 then s
    else
      let s := (List.range 4).foldl (fun s n =>
        if s.armedDue n && !(s.txn n).at0 then s.armedCommit n (some (F.TXN_STAT_STEPPED n)) else s) s
      let s := (List.range 16).foldl State.trgStepped s
      waiters.foldl State.stepWait s)

/-- DT_REBUILD: at the first XTAL32 tick after TIME entered Run. -/
def execDtRebuild (s : State) : Out :=
  .next (s.whenB (s.inRun 15 && !s.time.kyo.valid) fun s =>
    let s := (s.rebuild (!s.on (F.PLL_STAT_OUT_PLL 3))).followLeaps
    let s := (List.range 4).foldl State.armedRebuilt s
    let s := (List.range 16).foldl (fun s k => if s.rd (F.TRG_STAT_STATE k) = 1 then s.trgEvaluate k else s) s
    waiters.foldl State.rebuildWait s)

/-! ### stamp (R186) -/

/-- A stamp with TIME not in Run: an off-block access. -/
def State.stampOff (s : State) (e d : Nat) : State := (s.offBlock (ownerOfEngine e) Reg.KYO_DT_NS false).setG e d 0x0FF00FF0

/-- STAMP: fn 0 latches DT and MONO_NS. -/
def execStamp (e d : Nat) (s : State) : Out :=
  .next (s.instr e onCtx 1 true fun s =>
    if ¬ s.inRun 15 then (s.stampOff e d, 0)
    else
      let mono := if s.dtOk then s.time.kyo.mono else 0
      let s := s.setEng e { s.eng e with stampDt := s.dtNow, stampMono := mono }
      (s.setG e d (BitVec.ofNat 32 (dtNs s.dtNow)), 0))

/-- The word of the latch, or TS32, that fn names. -/
def State.stampWord (s : State) (e fn : Nat) : Option Word :=
  let x := s.eng e
  let mono := inNs x.stampMono
  match fn with
  | 1 => some (BitVec.ofNat 32 (dtSec x.stampDt))
  | 2 => some (BitVec.ofNat 32 (dtSec x.stampDt / 2 ^ 32 + 65536 * dtFrac x.stampDt))
  | 3 => some (BitVec.ofNat 32 mono)
  | 4 => some (BitVec.ofNat 32 (mono / 2 ^ 32))
  | 5 => some s.ts32
  | _ => none

def execStampRead (e d fn : Nat) (s : State) : Out :=
  .next (s.instr e onCtx 1 true fun s =>
    match s.stampWord e fn with
    | none => (s, 0x01)
    | some w => if s.inRun 15 then (s.setG e d w, 0) else (s.stampOff e d, 0))

/-! ### txn.* (R184, R187) -/

/-- A transaction command of a context: d receives the result code. -/
def State.txnInstr (s : State) (e cyc d n : Nat) (k : Nat → State → State × Nat) : State :=
  s.instr e onCtx cyc true fun s =>
    if 4 ≤ n then (s, 0x01)
    else
      let o := ownerOfEngine e
      let (t, code) := k o s
      ((t.txnAnswer o n code).setG e d (BitVec.ofNat 32 code), 0)

def execTxnBegin (e d n : Nat) (s : State) : Out := .next (s.txnInstr e 4 d n fun o s => s.txnBegin o n)

def execTxnCommit (e d n : Nat) (s : State) : Out := .next (s.txnInstr e 4 d n fun o s => s.txnCommit o n)

/-- TXN_COMMITAT: without AT_TP0 the TXN_AT registers are written first; with it a and b must be 0. -/
def execTxnCommitat (e d a b n : Nat) (tp0 : Bool) (s : State) : Out :=
  .next (if tp0 ∧ (a ≠ 0 ∨ b ≠ 0) then s.instr e onCtx 6 true fun s => (s, 0x01)
  else s.txnInstr e 6 d n fun o s =>
    if tp0 ∨ s.txnGate o n ≠ 0 then s.txnCommitAt o n tp0
    else
      let s := (s.setReg (Reg.TXN_AT_SEC_LO n) (s.g e a)).wr (F.TXN_AT_NS_NS n) (s.g e b).toNat
      (s.wr (F.TXN_AT_SEC_HI_SEC_HI n) (dtSec s.dtNow / 2 ^ 32)).txnCommitAt o n false)

def execTxnAbort (e d n : Nat) (s : State) : Out := .next (s.txnInstr e 4 d n fun o s => s.txnAbortCmd o n)

/-- Is the domain ARMED or LANDING under this engine's ownership? -/
def State.txnPending (s : State) (e n : Nat) : Bool :=
  decide ((s.txn n).owner = ownerOfEngine e ∧ ((s.txn n).state = .armed ∨ (s.txn n).state = .landing))

/-- The RESULT that owner reads in TXN_STATn. -/
def State.txnResultOf (s : State) (owner n : Nat) : Nat := look 0 s.txnResult (owner * 4 + n)

def execTxnWait (e d n : Nat) (s : State) : Out :=
  .next (s.waitInstr e onCtx 1 d fun s =>
    if 4 ≤ n then .fault 0x01
    else if s.txnPending e n then .wait (.txn n d)
    else .now (s.txnResultOf (ownerOfEngine e) n))

def execTxnWaitRelease (e : Nat) (s : State) : Out :=
  .next (s.whenB (s.waits e) fun s =>
    match (s.eng e).wait with
    | .txn n d => if s.txnPending e n then s else s.release e d (s.txnResultOf (ownerOfEngine e) n)
    | _ => s)

/-! ### Class S (R188–R190) -/

/-- vote: each context keeps its own; domain 0 needs none (R189). -/
def execVote (e d dom : Nat) (up wait : Bool) (s : State) : Out :=
  .next (s.instr e onCtx 2 false fun s =>
    if 18 < dom ∨ (wait ∧ ¬ up) then (s, 0x01)
    else
      let votes := put 0 s.power.ctxVotes ((e - 32) * 32 + dom) (if up then 1 else 0)
      let s := if dom = 0 then s else ({ s with power := { s.power with ctxVotes := votes } } : State).seqVotes
      if up ∧ wait ∧ s.dom dom ≠ 2 then (s.enterWait e (.vote dom d), 0)
      else ((s.setG e d (BitVec.ofNat 32 (s.dom dom))).advance e, 0))

/-- VOTE_WAIT_RELEASE: the domain is in RUN. -/
def execVoteWaitRelease (e : Nat) (s : State) : Out :=
  .next (s.whenB (s.waits e) fun s =>
    match (s.eng e).wait with
    | .vote dom d => if s.dom dom = 2 then s.release e d 2 else s
    | _ => s)

/-- claim and release: d receives the result. -/
def State.resInstr (s : State) (e d a : Nat) (k : Nat → Nat → State → State × Nat) : State :=
  s.instr e onCtx 2 true fun s =>
    let (t, r) := k (ownerOfEngine e) ((s.g e a).toNat % 65536) s
    (t.setG e d (BitVec.ofNat 32 r), 0)

def execClaim (e d a : Nat) (s : State) : Out := .next (s.resInstr e d a fun o r s => s.claimRes o r)

def execRelease (e d a : Nat) (s : State) : Out := .next (s.resInstr e d a fun o r s => s.releaseRes o r)

/-- event: a track program's TAG is its track (R194). -/
def execEvent (e d a b type ring : Nat) (s : State) : Out :=
  .next (s.instr e notDma 1 true fun s =>
    if type < 0x40 ∨ 0xFF < type ∨ 7 < ring then (s, 0x01)
    else
      let full := s.ringFull ring
      let tag := if kindOf e = .track then (s.eng e).track else (s.eng e).tag
      ((s.postEvent ring (ownerOfEngine e) type tag 0 (s.g e a) (s.g e b)).setG e d (if full then 1 else 0), 0))

def execSignal (e n : Nat) (s : State) : Out :=
  .next (s.instr e notTrack 1 true fun s => if 31 < n then (s, 0x01) else (s.setSignal n, 0))

end Sys2Proof.Machine
end

