-- ==== Sys2Proof/Machine/Bus.lean ====
section
/-! DEFINITION. Access to registers and memory by address: what a read shows, what a write does, and how it is answered (R6–R8,
R14–R17, R30, R414–R417). -/

namespace Sys2Proof.Machine

/-! ### What a read of a register shows -/

/-- The code of a transaction's state in TXN_STATn. -/
def TxnState.code : TxnState → Nat
  | .idle => 0 | .opened => 1 | .armed => 2 | .failed => 3 | .landing => 4

/-- TXN_STATn as `owner` reads it: LATE and STEPPED are the register's, RESULT is the reader's own (R45). -/
def State.showTxn (s : State) (owner n : Nat) : Word :=
  let t := s.txn n
  s.reg (Reg.TXN_STAT n) ||| atBits 0 3 t.state.code ||| atBits 8 6 t.owner ||| atBits 16 8 (look 0 s.txnResult (owner * 4 + n))

/-- TXN_JCOUNTn: the entries in use, one too many after an abort (E04, R42). -/
def State.showJcount (s : State) (n : Nat) : Nat := (s.txn n).journal.length + (if (s.txn n).afterAbort then 1 else 0)

/-- The journal entry that TXN_PEEK_ADDRn names. -/
def State.peek (s : State) (n : Nat) : Option JEntry :=
  (s.txn n).journal.find? fun e => decide (e.addr / 4 = s.rd (F.TXN_PEEK_ADDR_ADDR n))

/-- The registers of a transaction domain that are views; `o` is the offset in the domain. -/
def State.showTxnReg (s : State) (owner n o : Nat) : Option Word :=
  if o = 4 then some (s.showTxn owner n)
  else if o = 8 then some (BitVec.ofNat 32 (s.showJcount n))
  else if o = 0x18 then some (s.reg (Reg.TXN_PEEK_ADDR n) ||| (if (s.peek n).isSome then 1 else 0))
  else if o = 0x1C then some (((s.peek n).map (·.value)).getD 0)
  else none

/-- PAD_QUERY as `owner` reads it (R47, R50). -/
def State.showQuery (s : State) (owner : Nat) : Word :=
  let r := look 0 s.claims.query owner
  atBits 0 16 r ||| atBits 16 6 (s.ownerOf r) ||| atBits 22 1 (if s.preempted r then 1 else 0)

/-- Views of LEAVEN's registers. -/
def State.showLeaven (s : State) (owner a : Nat) : Option Word :=
  if a = Reg.PWR_VOTE_RES then some (BitVec.ofNat 32 (look 0 s.power.noClient owner))
  else if a = Reg.CRUMB_STAT then
    some (s.reg a ||| atBits 0 6 s.crumb.queue.length |||
      atBits 6 1 (if s.crumb.queue.isEmpty || s.on F.CRUMB_STAT_SCAN then 0 else 1))
  else if Reg.CRUMB_SW_D 0 ≤ a ∧ a < Reg.CRUMB_SW_D 8 then some (look 0 s.crumb.swData (owner * 16 + (a - Reg.CRUMB_SW_D 0) / 4))
  else if a = Reg.CRUMB_SW_RES then some (BitVec.ofNat 32 (look 0 s.crumb.swRes owner))
  else if a = Reg.RTC_SEC_HI then some (BitVec.ofNat 32 (rtcSec (look 0 s.rtc.latch owner) / 2 ^ 32))
  else if a = Reg.RTC_FRAC then some (BitVec.ofNat 32 (rtcFrac (look 0 s.rtc.latch owner)))
  else if a = Reg.BOOT_STRAP then some (BitVec.ofNat 32 (s.boot.bootSel % 4 + 4 * (s.host.sel % 4)))
  else if a = Reg.SVC_STAT then
    some ((if s.boot.bootSel.testBit 0 then withBits (s.reg a) 4 4 7 else s.reg a) |||
      atBits 0 1 (if s.boot.holder = 0 then 0 else 1) ||| atBits 1 2 s.boot.holder)
  else none

/-- Views of the island's registers. -/
def State.showIsland (s : State) (a : Nat) : Option Word :=
  if a = Reg.OCQ_STAT then some s.ocqStat
  else if a = Reg.FLT_CNT then some (BitVec.ofNat 32 (min 65535 (look 0 s.safety.count (s.rd F.FLT_CNT_SEL_SRC))))
  else if a = Reg.FLT_CTRL then
    some (s.reg a ||| atBits 8 1 (if s.errN then 1 else 0) |||
      atBits 9 1 (if s.on F.FLT_CTRL_ERRN_MODE && !s.errN then 1 else 0))
  else none

/-- Views of Kyonino's registers (R262–R264, R271, R277). -/
def State.showTime (s : State) (owner a : Nat) : Option Word :=
  let dt := look 0 s.time.kyo.dtLatch owner
  if a = Reg.KYO_DT_SEC_LO then some (BitVec.ofNat 32 (dtSec dt))
  else if a = Reg.KYO_DT_SEC_HI then some (BitVec.ofNat 32 (dtSec dt / 2 ^ 32 + 2 ^ 16 * dtFrac dt))
  else if a = Reg.KYO_TS32 then some s.ts32
  else if a = Reg.KYO_MONO_HI then some (BitVec.ofNat 32 (look 0 s.time.kyo.monoLatch owner / 2 ^ 32))
  else if a = Reg.KYO_SLEW_REM then some (BitVec.ofInt 32 s.slewRem)
  else if 0x400E2000 ≤ a ∧ a < 0x400E2120 ∧ a % 0x20 = 0x14 then
    some (s.reg a ||| atBits 0 5 (s.cap ((a - 0x400E2000) / 0x20)).fifo.length)
  else none

/-- Views of DMA's and the hosts' registers. -/
def State.showHost (s : State) (a : Nat) : Option Word :=
  if Reg.DMA_PACE_CFG 0 ≤ a ∧ a < Reg.DMA_PACE_CFG 16 ∧ a % 0x10 = 4 then
    let p := (a - Reg.DMA_PACE_CFG 0) / 0x10
    some (atBits 0 24 ((s.paceLevel p).getD 0) ||| atBits 31 1 (if s.paceReady p then 1 else 0))
  else if 0x40120040 ≤ a ∧ a < 0x401200C0 ∧ a % 0x10 = 4 then some (s.reg a ||| 0xFFF)
  else if a = Reg.HSPI_STAT then some (atBits 0 11 s.host.hspiOut.length ||| atBits 16 11 s.host.hspiIn.length)
  else if a = Reg.HUART_STAT then some (atBits 0 12 s.host.uartRx.length)
  else none

/-- Views of CORE's and RF's registers. -/
def State.showCore (s : State) (owner a : Nat) : Option Word :=
  if 0x400D0000 ≤ a ∧ a < 0x400D0100 then s.showTxnReg owner ((a - 0x400D0000) / 0x40) (a % 0x40)
  else if 0x400C0100 ≤ a ∧ a < 0x400C0300 ∧ a % 0x40 = 0x28 then
    some (withBits (s.reg a) 0 3 (s.ctxState ((a - 0x400C0100) / 0x40)))
  else if a = Reg.PAD_CLAIM_RES then some (BitVec.ofNat 32 (look 0 s.claims.result owner))
  else if a = Reg.PAD_QUERY then some (s.showQuery owner)
  else if a = Reg.CLK_STRAP then some (BitVec.ofNat 32 (s.boot.refSel + 256 * s.strapKhz))
  else if 0x40050000 ≤ a ∧ a < 0x40054000 ∧ 0x40 ≤ a % 0x1000 ∧ a % 8 = 4 then
    let p := (a - 0x40050000) / 0x1000
    let g := (a % 0x1000 - 0x44) / 8
    some (withBits (s.reg a) 0 7 (s.gainOf (3 * p + g)))
  else none

/-- The register at `a` as `owner` reads it, without the effects of the read; WO fields read 0 (R8). -/
def State.show (s : State) (owner a : Nat) : Word :=
  let b := a / 0x10000
  let v := if b = 0x400C ∨ b = 0x400D ∨ b = 0x4015 ∨ b = 0x4003 ∨ b = 0x4005 then s.showCore owner a
    else if b = 0x400E then s.showTime owner a
    else if b = 0x4012 ∨ b = 0x4013 then s.showHost a
    else match s.showLeaven owner a with
      | some v => some v
      | none => s.showIsland a
  v.getD (s.reg a)

/-- The transaction domain whose registers hold address `a`. -/
def txnBlock (a : Nat) : Option Nat := if 0x400D0000 ≤ a ∧ a < 0x400D0100 then some ((a - 0x400D0000) / 0x40) else none

/-- An access to the registers of a transaction domain, which its owner is not idle for (R43). -/
def State.touchAt (s : State) (owner a : Nat) : State :=
  match txnBlock a with
  | some n => s.touch owner n
  | none => s

/-- A read of the register at `a`: its value, and what the read itself does, in the answer and the state. -/
def State.readReg (s : State) (owner a : Nat) : State :=
  if a = Reg.KYO_DT_NS then s.readDt owner
  else if a = Reg.KYO_MONO_LO then s.readMono owner
  else if a = Reg.RTC_SEC_LO then s.readRtc owner
  else if a = Reg.PTPA_TXTS_INFO then s.popTxts owner
  else if 0x400E2000 ≤ a ∧ a < 0x400E2120 ∧ a % 0x20 = 8 then s.popCapture owner ((a - 0x400E2000) / 0x20)
  else if 0x40080000 ≤ a ∧ a < 0x40080300 ∧ a % 0x20 = 8 then s.readLastSeq owner ((a - 0x40080000) / 0x20)
  else if 0x40078200 ≤ a ∧ a < 0x40078500 ∧ a % 0x10 = 0xC then s.readNtCur owner ((a - 0x40078200) / 0x10)
  else if a = Reg.HSPI_FRAME then
    match s.host.hspiOut with
    | [] => s.okay owner 0
    | w :: rest => (({ s with host := { s.host with hspiOut := rest } } : State).pace).okay owner w
  else (s.touchAt owner a).okay owner (s.show owner a)

/-! ### The MSI-X table and PBA (R25, R427) -/

/-- Is this an address of the MSI-X table or the PBA? -/
def isMsix (a : Nat) : Bool := decide (0x40130800 ≤ a ∧ a < 0x40130A00) || decide (a = 0x40130C00)

/-- The pending bits; that of vector 31 never sets (R427). -/
def State.msixPba (s : State) : Nat := s.host.msixPending.foldl (fun acc e => if e.1 = 31 then acc else acc + e.2 * 2 ^ e.1) 0

/-- The address that stands for Message Control of the MSI-X capability in the endpoint's configuration space (log 152). -/
def msixControl : Nat := 0x1F0000002

/-- A configuration write of Message Control: bit 14 is the function mask; when it clears, each pending message goes that its own mask does
not hold (R25, R427; log 152). -/
def State.writeMsixControl (s : State) (owner : Nat) (v : Word) : State :=
  let s := { s.okay owner with host := { s.host with functionMask := v.getLsbD 14 } }
  if v.getLsbD 14 then s
  else s.host.msixPending.foldl (fun s e =>
    if e.1 ≠ 31 ∧ look 1 s.host.msixMasked e.1 = 1 then s
    else ({ s with host := { s.host with msixPending := put 0 s.host.msixPending e.1 0 } } : State).msi e.1) s

def State.readMsix (s : State) (owner a : Nat) : State :=
  s.okay owner (if a = 0x40130C00 then BitVec.ofNat 32 s.msixPba
    else if a % 16 = 12 then BitVec.ofNat 32 (look 1 s.host.msixMasked ((a - 0x40130800) / 16))
    else s.reg a)

/-- A write of a table word; a mask bit that clears lets a pending message go (log 58). The PBA is read-only. -/
def State.writeMsix (s : State) (owner a : Nat) (v : Word) : State :=
  let s := s.okay owner
  if a = 0x40130C00 then s
  else if a % 16 ≠ 12 then s.setReg a v
  else
    let k := (a - 0x40130800) / 16
    let s := { s with host := { s.host with msixMasked := put 1 s.host.msixMasked k (bits v 0 1) } }
    if k ≠ 31 ∧ bits v 0 1 = 0 ∧ look 0 s.host.msixPending k = 1 ∧ ¬ s.host.functionMask then
      ({ s with host := { s.host with msixPending := put 0 s.host.msixPending k 0 } } : State).msi k
    else s

/-! ### What a write of a register does -/

/-- The bits of the register at `a` whose access code satisfies `p`. -/
def maskOf (a : Nat) (p : Acc → Bool) : Word :=
  match rowOf a with
  | none => 0
  | some r => r.mask p

/-- RW, W1C and W1S fields take a write as R8 has it; every other bit stays. -/
def State.writePlain (s : State) (a : Nat) (v : Word) : State :=
  let rw := maskOf a (· = .rw)
  let old := s.reg a
  s.setReg a (((old &&& ~~~rw ||| v &&& rw) &&& ~~~(v &&& maskOf a (· = .w1c))) ||| (v &&& maskOf a (· = .w1s)))

/-- A plain write that is accepted. -/
def State.takePlain (s : State) (owner a : Nat) (v : Word) : State := (s.okay owner).writePlain a v

/-- A plain write from the owners that `ok` admits; others get TGT_ERR. -/
def State.takeFrom (s : State) (ok : Bool) (owner a : Nat) (v : Word) : State :=
  if ok then s.takePlain owner a v else s.tgtErr owner

/-- A register that firmware on cores 0–3 writes whole and that is RO to every other owner. -/
def State.firmwareWrite (s : State) (owner a : Nat) (v : Word) : State :=
  let s := s.okay owner
  if isCore owner then s.setReg a (v &&& maskOf a fun _ => true) else s

/-- SYS, PWR and PRF. -/
def State.writeSys (s : State) (owner a : Nat) (v : Word) : Option State :=
  if a = Reg.SYS_SWRST then
    some ((s.okay owner).whenB (decide (bits v 16 16 = 0x5E7A) && (isCore owner || isHost owner)) (·.deviceReset 4 owner))
  else if a = Reg.PWR_VOTE then
    let s := s.okay owner
    some (match bits v 30 2 with
      | 1 => s.pwrVote owner (bits v 0 19) true
      | 2 => s.pwrVote owner (bits v 0 19) false
      | _ => if (clientOf owner).isNone then s.pwrVote owner 0 true else s)
  else if a = Reg.PWR_WAKE_HOLD then some ((s.okay owner).wakeRelease (bits v 0 19))
  else if a = Reg.PWR_CTRL then some (s.takePlain owner a v).settle
  else if a = Reg.PRF_CAP then some ((s.okay owner).setReg a (BitVec.ofNat 32 (max 1500 (min 6000 (bits v 0 13)))))
  else none

/-- The ADPLLs, the ports, injection and LO calibration. -/
def State.writeRf (s : State) (owner a : Nat) (v : Word) : Option State :=
  let o := a % 0x1000
  if 0x40040000 ≤ a ∧ a < 0x40046000 ∧ o = 0x1C then
    let p := (a - 0x40040000) / 0x1000
    let s := s.okay owner
    let s := s.whenB (v.toNat.testBit 0) (·.relock p)
    some (s.whenB (v.toNat.testBit 1) (·.bandcal p (bits v 4 4)))
  else if 0x40050000 ≤ a ∧ a < 0x40054000 ∧ o = 0x1C then
    let p := (a - 0x40050000) / 0x1000
    let s := s.okay owner
    let s := s.whenB (v.toNat.testBit 0) (·.autotune p)
    some (s.whenB (v.toNat.testBit 1 && s.on (F.RFP_BIAS_TRIPPED p)) (·.biasClear p))
  else if a = Reg.INJ_CMD then
    let s := s.okay owner
    some (match bits v 0 2 with
      | 1 => s.injCommand true (bits v 4 3)
      | 2 => s.injCommand false (bits v 4 3)
      | _ => s)
  else if Reg.INJ_BIAS 0 ≤ a ∧ a < Reg.INJ_BIAS 12 then
    let m := (a - Reg.INJ_BIAS 0) / 4
    some ((s.firmwareWrite owner a v).whenB (!s.inRun (3 + m / 3)) (·.wr (F.INJ_BIAS_VALID m) 0))
  else if a = Reg.ADC_LOCAL_CMD then some ((s.okay owner).loCalCommand (bits v 0 3))
  else none

/-- The fabric and the Mill. A re-test's outcome is the lanes' own: a free value (R146). -/
def State.writeFabric (s : State) (owner a : Nat) (v : Word) : Option State :=
  if 0x40090000 ≤ a ∧ a < 0x40096000 ∧ a % 0x1000 = 0x24 then
    let (x, s) := s.draw
    some ((s.okay owner).retest ((a - 0x40090000) / 0x1000) (bits v 0 9) (x % 512))
  else if a = Reg.TRK_CMD then
    let t := bits v 0 12
    let s := s.okay owner
    some (match bits v 12 3 with
      | 1 => s.trkStart t (v.toNat.testBit 18)
      | 2 => s.trkStop t
      | 3 => s.trkMove t (bits v 15 3)
      | 4 => s.trkClear t
      | _ => s)
  else if a = Reg.TRK_RAW_RD ∨ a = Reg.MILL_HIT_RD ∨ a = Reg.MILL_HIT_CFG then some (s.takePlain owner a v).pace
  else if a = Reg.MILL_PLAN_TAIL then some ((s.okay owner).planTail (bits v 0 10))
  else none

/-- Lyzovel's queues, contexts and signals, and the transaction domains. -/
def State.writeLyz (s : State) (owner a : Nat) (v : Word) : Option State :=
  if a = Reg.LYZ_PS_FW then some (s.firmwareWrite owner a v)
  else if a = Reg.LYZ_SIG_SET then some ((s.okay owner).setSignals v)
  else if 0x400C0100 ≤ a ∧ a < 0x400C0300 then
    let n := (a - 0x400C0100) / 0x40
    if a % 0x40 = 0x2C then
      let s := s.okay owner
      some (match bits v 0 2 with
        | 1 => s.ctxResume n
        | 2 => s.ctxReset n
        | _ => s)
    else none
  else if 0x400D0000 ≤ a ∧ a < 0x400D0100 then
    let n := (a - 0x400D0000) / 0x40
    let o := a % 0x40
    if o = 0 then
      match bits v 0 3 with
      | 1 => some (s.txnCommand owner n (·.txnBegin owner n))
      | 2 => some (s.txnCommand owner n (·.txnCommit owner n))
      | 3 => some (s.txnCommand owner n (·.txnCommitAt owner n (v.toNat.testBit 3)))
      | 4 => some (s.txnCommand owner n (·.txnAbortCmd owner n))
      | _ => some (s.okay owner)
    else if 0x0C ≤ o ∧ o ≤ 0x14 then some (s.txnAtCommand owner n ((o - 0x0C) / 4) v)
    else none
  else none

/-- Kyonino, the pulses' calibration, the RTC, the calendar and the Ledger. -/
def State.writeTime (s : State) (owner a : Nat) (v : Word) : Option State :=
  if a = Reg.KYO_CMD then
    let s := s.okay owner
    some (match bits v 0 3 with
      | 1 => s.kyoLock (bits v 4 3)
      | 2 => s.loseSource
      | 3 => s.enterFreerun
      | 4 => s.armStep
      | 5 => s.kyoSuspect (v.toNat.testBit 7)
      | _ => s)
  else if a = Reg.KYO_HOLD_E0 then some (((s.okay owner).setReg a v).recoverRule)
  else if a = Reg.KYO_SLEW then some ((s.okay owner).addSlew v)
  else if 0x400E0100 ≤ a ∧ a < 0x400E0130 then some (s.firmwareWrite owner a v)
  else if a = Reg.TP_CAL_CMD then some ((s.okay owner).whenB (v.toNat.testBit 0) State.tpCalStart)
  else if a = Reg.RTC_CMD then
    let s := s.okay owner
    let s := if v.toNat.testBit 1 then s.rtcAlign else if v.toNat.testBit 0 then s.rtcApply else s
    some (s.whenB (v.toNat.testBit 2) State.rtcSnap)
  else if a = Reg.RTC_TRIM then some ((s.okay owner).writeTrim v)
  else if a = Reg.RTC_ALARM_LO ∨ a = Reg.RTC_ALARM_HI then some ((s.okay owner).writeAlarm a v)
  else if a = Reg.CAL_CMD then some ((s.okay owner).whenB (decide (bits v 0 2 ≠ 0)) (·.calStart (bits v 0 2)))
  else if Reg.LEDGER_SUB_D 0 ≤ a ∧ a < Reg.LEDGER_SUB_D 4 then some (s.takeFrom (isCore owner) owner a v)
  else if a = Reg.LEDGER_SUB_RES then some (if isCore owner then s.okay owner else s.tgtErr owner)
  else if a = Reg.LEDGER_SUB_CMD then some (s.ledgerSubmit owner (bits v 0 4))
  else none

/-- The island, the fault collector and the crumb writer (R350, R352). -/
def State.writeSafety (s : State) (owner a : Nat) (v : Word) : Option State :=
  let locked := s.on F.FLT_CTRL_LOCK
  if a = Reg.OCQ_SAFE_REQ then
    some (match bits v 0 2 with
      | 1 => s.safeEnter owner (bits v 16 16)
      | 2 => s.safeExit owner (bits v 16 16)
      | _ => s.tgtErr owner)
  else if a = Reg.OCQ_HB then some (s.heartbeat owner v)
  else if a = Reg.OCQ_STEST_CMD then some ((s.okay owner).whenB (v.toNat.testBit 0) State.selfTest)
  else if a / 0x1000 = 0x40111 then
    if ¬ fltWriter owner then some (s.tgtErr owner)
    else if (Reg.FLT_CLASS 0 ≤ a ∧ a < Reg.FLT_CLASS 12) ∨ a = Reg.FLT_CTRL then some (s.takeFrom (!locked) owner a v)
    else if a = Reg.FLT_SWRAISE then some (s.fltSwraise owner (bits v 0 8) (v.toNat.testBit 8))
    else if a = Reg.FLT_INJECT then
      if v.toNat.testBit 8 then some (s.fltInject owner (bits v 0 8)) else some (s.takeFrom (!locked || decide (owner = 5)) owner a v)
    else none
  else if Reg.CRUMB_SW_D 0 ≤ a ∧ a < Reg.CRUMB_SW_D 8 then
    some { s.okay owner with
      crumb := { s.crumb with swData := put 0 s.crumb.swData (owner * 16 + (a - Reg.CRUMB_SW_D 0) / 4) v } }
  else if a = Reg.CRUMB_SW_CMD then some (s.swCrumb owner (bits v 0 8))
  else none

/-- A channel's commands, lowest bit first (log 60). -/
def State.channelBits (s : State) (v : Word) (k : Nat → State → State) : State :=
  (List.range 4).foldl (fun s i => if v.toNat.testBit i then k i s else s) s

/-- Registers of register channel `c` at offset `o`: only from its owner; the CUR registers in PAUSED and HALTED only (R360, R369). -/
def State.writeBch (s : State) (owner c o a : Nat) (v : Word) : State :=
  if ¬ s.mayConfigure owner (0x3000 + c) then s.refuse owner 0x0C
  else if o = 0x18 then
    (s.okay owner).channelBits v fun i s => match i with
      | 0 => s.bchStart owner c
      | 1 => s.bchPause c
      | 2 => s.bchResume c
      | _ => (s.stopBch c).seqVotes
  else if 0x20 ≤ o ∧ ¬ (s.rd (F.DMA_BCH_STAT_STATE c) = 3 ∨ s.rd (F.DMA_BCH_STAT_STATE c) = 4) then s.okay owner
  else s.takePlain owner a v

/-- Registers of program channel `p`, likewise. -/
def State.writePch (s : State) (owner p o a : Nat) (v : Word) : State :=
  if ¬ s.mayConfigure owner (0x4000 + p) then s.refuse owner 0x0C
  else if o = 0x0C then
    (s.okay owner).channelBits v fun i s => match i with
      | 0 => s.pchStart p
      | 1 => s.pchPause p
      | 2 => s.pchResume p
      | _ => (s.resetPch p).seqVotes
  else s.takePlain owner a v

/-- The bits of DMA_IRQ, DMA_IRQ_ERR and DMA_IEN of the channels `owner` holds (R367). -/
def State.ownChannels (s : State) (owner : Nat) : Word :=
  (List.range 24).foldl (fun m c =>
    if s.mayConfigure owner (if c < 16 then 0x3000 + c else 0x4000 + (c - 16)) then m ||| atBits c 1 1 else m) 0

/-- The DMA block (R360, R363, R366, R367, R373). -/
def State.writeDma (s : State) (owner a : Nat) (v : Word) : Option State :=
  let o := a - 0x40120000
  if a = Reg.DMA_CTRL then some (if isCore owner then s.takePlain owner a v else s.okay owner)
  else if a = Reg.DMA_STAT then some (s.takePlain owner a v).clearHalt
  else if a = Reg.DMA_IRQ ∨ a = Reg.DMA_IRQ_ERR then some (s.takePlain owner a (v &&& s.ownChannels owner))
  else if a = Reg.DMA_IEN then
    some ((s.okay owner).setReg a (s.reg a &&& ~~~(s.ownChannels owner) ||| v &&& s.ownChannels owner))
  else if a = Reg.DMA_DOORBELL then some ((s.okay owner).doorbell owner (bits v 0 8))
  else if 0x40 ≤ o ∧ o < 0xC0 then some (s.takeFrom (isCore owner || isHost owner) owner a v)
  else if 0x100 ≤ o ∧ o < 0x200 then
    let p := (o - 0x100) / 0x10
    if o % 0x10 = 8 then some ((s.okay owner).paceAdd p (bits v 0 24)) else some (s.takePlain owner a v).pace
  else if 0x400 ≤ o ∧ o < 0x800 then some (s.writeBch owner ((o - 0x400) / 0x40) (o % 0x40) a v)
  else if 0x800 ≤ o then some (s.writePch owner ((o - 0x800) / 0x20) (o % 0x20) a v)
  else none

/-- The staging lock is free. -/
def State.dropLock (s : State) : State := (s.setBoot { s.boot with holder := 0, session := 0 }).wr F.SVC_STAT_IDLE_S 0

/-- Cores 0–3 break the staging lock (R388); the crumb's event is a free value, as the spec gives none for it. -/
def State.svcBreak (s : State) (owner : Nat) : State :=
  s.whenB (isCore owner && decide (s.boot.holder ≠ 0)) fun s =>
    let (e, s) := s.draw
    (s.dropLock).lockCrumb e owner

/-- The host interfaces, the service port, the boot block and the pads. -/
def State.writeHost (s : State) (owner a : Nat) (v : Word) : Option State :=
  if a = Reg.HSPI_FRAME then
    let s := s.okay owner
    some (if 1024 ≤ s.host.hspiIn.length then s else { s with host := { s.host with hspiIn := s.host.hspiIn ++ [v] } })
  else if a = Reg.HUART_BAUD then
    let r := max 9600 (min 12000000 (bits v 0 24))
    let s := (s.okay owner).setReg a (BitVec.ofNat 32 r)
    some (if owner = 18 then s else { s with host := { s.host with uartRate := r } })
  else if a = Reg.SVC_CMD then some ((s.okay owner).whenB (v.toNat.testBit 0) (·.svcBreak owner))
  else if a = Reg.BOOT_HEALTH_CONFIRM then some ((s.okay owner).confirm owner (bits v 16 16))
  else if a = Reg.PAD_CLAIM then
    match bits v 16 2 with
    | 1 => some (s.padCommand owner (·.claimRes owner (bits v 0 16)))
    | 2 => some (s.padCommand owner (·.releaseRes owner (bits v 0 16)))
    | _ => some (s.okay owner)
  else if a = Reg.PAD_QUERY then
    some { s.okay owner with claims := { s.claims with query := put 0 s.claims.query owner (bits v 0 16) } }
  else if Reg.PAD_FUNC 0 ≤ a ∧ a < Reg.PAD_FUNC 64 then some (s.padFunc owner ((a - Reg.PAD_FUNC 0) / 4) v)
  else none

/-- A write with an effect of its own, by the block that holds `a`; none for a register of plain fields. -/
def State.writeSpecial (s : State) (owner a : Nat) (v : Word) : Option State :=
  let b := a / 0x10000
  if b ≤ 0x4002 then s.writeSys owner a v
  else if b ≤ 0x4006 then s.writeRf owner a v
  else if b ≤ 0x400B then s.writeFabric owner a v
  else if b ≤ 0x400D then s.writeLyz owner a v
  else if b = 0x400E ∨ b = 0x4010 then s.writeTime owner a v
  else if b = 0x4011 then s.writeSafety owner a v
  else if b = 0x4012 then s.writeDma owner a v
  else s.writeHost owner a v

/-- A write of the register at `a`, whose block is in Run. -/
def State.writeReg (s : State) (owner a : Nat) (v : Word) : State :=
  match s.writeSpecial owner a v with
  | some t => t
  | none => if rwtMask a ≠ 0 then s.writeRwt owner a v else (s.touchAt owner a).takePlain owner a v

/-! ### Registers by address -/

/-- Is this an address of the register space (R14)? -/
def inRegs (a : Nat) : Bool := decide (0x40000000 ≤ a ∧ a < 0x40400000)

/-- Does the word address name a register, the MSI-X table or the PBA? -/
def named (a : Nat) : Bool := (rowOf a).isSome || isMsix a

/-- A read of `n` bytes from the register space (R30, R415, R416). -/
def State.regRead (s : State) (owner a n : Nat) : State :=
  let w := a / 4 * 4
  if ¬ s.answers w then s.offBlock owner w false
  else if ¬ named w then s.noMap owner
  else
    let t := if isMsix w then s.readMsix owner w else s.readReg owner w
    if n = 4 ∧ a = w then t
    else { t with answer := { t.answer with value := BitVec.ofNat 32 (bits t.answer.value (8 * (a - w)) (8 * n)) } }

/-- A write of `n` bytes to the register space. -/
def State.regWrite (s : State) (owner a n : Nat) (v : Word) : State :=
  let w := a / 4 * 4
  if ¬ s.answers w then s.offBlock owner w true
  else if ¬ named w then s.noMap owner
  else if n ≠ 4 ∨ a ≠ w then s.tgtErr owner
  else if isMsix w then s.writeMsix owner w v
  else s.writeReg owner w v

/-! ### Memory by address (R14–R17, R140, R176) -/

/-- The word that holds the bytes at `a`, with `n` of them replaced. -/
def State.merged (s : State) (a n : Nat) (v : Word) : Word := withBits (s.ld32 (a / 4 * 4)) (8 * (a % 4)) (8 * n) v.toNat

/-- Is this the Boot config or the key store, whose bytes are kept as structure (log 44)? -/
def isRecordStore (a : Nat) : Bool := decide (0x04000000 ≤ a ∧ a ≤ 0x0400FFFF) || decide (0x047B0000 ≤ a ∧ a ≤ 0x047BFFFF)

/-- An access to Ocquel's SRAM that is not its own: the error response of an off block, with value 0 (R15).
It counts as an off-block access only while OCQ is not in Run (R30; log 100). -/
def State.islandError (s : State) (owner a : Nat) (write : Bool) : State :=
  let t := if s.poolUp .island then s.offReply owner write else s.offBlock owner a write
  { t with answer := { t.answer with value := 0 } }

/-- A read of `n` bytes of a pool: the marker where it is off, 0 from Ocquel's SRAM (for Ocquel too while the island load window is open, R15) and from the context store while it clears, a free value
where samples are being written (R112) or the word is bad. -/
def State.memRead (s : State) (owner : Nat) (p : Pool) (a n : Nat) : State :=
  if p = .island ∧ (owner ≠ 5 ∨ s.boot.islandLoad) then s.islandError owner a false
  else if ¬ s.poolUp p then s.offBlock owner a false
  else if p = .context ∧ s.on F.TRK_SCRUB_CLEARING then s.okay owner 0
  else if isRecordStore a then s.okay owner (BitVec.ofNat 32 (s.boot.recordWord a n))
  else if p = .ring ∧ s.beingWritten a n then
    let (v, s) := s.draw
    s.okay owner (BitVec.ofNat 32 (v % 256 ^ n))
  else if s.badIn a n then
    let (v, s) := (s.eccAccess owner p a).draw
    s.okay owner (BitVec.ofNat 32 (v % 256 ^ n))
  else s.okay owner (BitVec.ofNat 32 (s.load a n))

/-- `n` bytes are stored; a whole word has valid ECC. -/
def State.storeN (s : State) (a n : Nat) (v : Word) : State := if n = 4 then s.st32 a v else s.store a n v.toNat

/-- A write of `n` bytes of a pool; the sample ring drops every write (R112). -/
def State.memPut (s : State) (owner : Nat) (p : Pool) (a n : Nat) (v : Word) : State :=
  match p with
  | .island =>
    if owner = 5 ∧ ¬ s.boot.islandLoad then if s.poolUp p then (s.storeN a n v).okay owner else s.offBlock owner a true
    else if owner = 1 ∧ s.boot.islandLoad then (s.storeN a n v).okay owner
    else s.islandError owner a true
  | .bootRom => if s.inRun 1 then s.tgtErr owner else s.offBlock owner a true
  | .mram =>
    if 0x04750000 ≤ a ∧ a ≤ 0x047AFFFF then ((s.storeN a n v).okay owner).countMram 6 1 else s.tgtErr owner
  | .context => if s.inRun 1 then s.writeContext owner a (s.merged a n v) else s.offBlock owner a true
  | .sram =>
    if ¬ s.inRun 1 then s.offBlock owner a true
    else if 0x10780000 ≤ a then s.writeProgram owner a (s.merged a n v)
    else (s.storeN a n v).okay owner
  | .ring => if s.poolUp p then s.tgtErr owner else s.offBlock owner a true
  | .acq => if s.poolUp p then ((s.storeN a n v).spoil a n).okay owner else s.offBlock owner a true
  | .code | .packet => if s.poolUp p then (s.storeN a n v).okay owner else s.offBlock owner a true

/-- A write of `n` bytes of a pool. One of part of a word reads the rest of it first: an uncorrectable error there is met and stays. -/
def State.memWrite (s : State) (owner : Nat) (p : Pool) (a n : Nat) (v : Word) : State :=
  let t := s.memPut owner p a n v
  if n < 4 ∧ s.badIn a n ∧ t.answer.status = .ok then (t.eccAccess owner p a).setUpset a 2 else t

/-! ### The interconnect -/

/-- A read of `n` bytes at `a`, at most four, by `owner`; the answer says how it ended. -/
def State.busRead (s : State) (owner a n : Nat) : State :=
  if ¬ s.aon then s
  else if inRegs a then s.regRead owner a n
  else match poolOf a with
    | some p => s.memRead owner p a n
    | none => s.noMap owner

/-- A write of `n` bytes at `a`. -/
def State.busWrite (s : State) (owner a n : Nat) (v : Word) : State :=
  if ¬ s.aon then s
  else if inRegs a then s.regWrite owner a n v
  else match poolOf a with
    | some p => s.memWrite owner p a n v
    | none => s.noMap owner

/-- Did the last access complete? -/
def State.fine (s : State) : Bool := decide (s.answer.status = .ok)

/-! ### PCIe windows (R24) -/

/-- Where offset `o` of BAR2 leads: the address in the window's pool, or none where it falls outside a pool a window may point into. -/
def State.bar2 (s : State) (o : Nat) : Option (Pool × Nat) :=
  let a := s.rd (F.PCIE_WIN_BASE_BASE (o / 0x800000)) * 0x100000 + o % 0x800000
  match poolOf a with
  | some .bootRom | some .island | none => none
  | some p => some (p, a)

/-- A write through BAR2; MRAM is read-only there. -/
def State.bar2Write (s : State) (owner o n : Nat) (v : Word) : State :=
  match s.bar2 o with
  | none => s.offBlock owner (s.rd (F.PCIE_WIN_BASE_BASE (o / 0x800000)) * 0x100000 + o % 0x800000) true
  | some (.mram, _) => s.tgtErr owner
  | some (p, a) => s.memWrite owner p a n v

/-- An access by a host: below 2^32 a device address, from there on an offset in BAR2 plus 2^32 (log 61). -/
def isBar2 (owner a : Nat) : Bool := decide (owner = 16 ∧ 0x100000000 ≤ a ∧ a < 0x102000000)

/-! ### The commands -/

/-- REGISTER_WRITE. An access that is not aligned to its size is refused (R416; log 102). -/
def execRegisterWrite (owner addr size : Nat) (v : Word) (s : State) : Out :=
  .next (if ¬ ([1, 2, 4].contains size) ∨ ¬ s.aon then s
    else s.ifHeard owner addr true fun s =>
      if owner = 16 ∧ addr = msixControl ∧ size = 2 then s.writeMsixControl owner v
      else if isBar2 owner addr then
        if addr % size = 0 then s.bar2Write owner (addr - 0x100000000) size v else s.tgtErr owner
      else if addr % size = 0 ∨ inRegs addr then s.busWrite owner addr size v
      else match poolOf addr with
        | some p => if s.poolUp p then s.tgtErr owner else s.offBlock owner addr true
        | none => s.noMap owner)

/-- Is this address that of a register block, or of a pool, that is not in Run, of Ocquel's SRAM to another owner, or of a window's part outside every
pool? -/
def State.isOff (s : State) (owner addr : Nat) : Bool :=
  if isBar2 owner addr then
    match s.bar2 (addr - 0x100000000) with
    | none => true
    | some (p, _) => !s.poolUp p
  else if inRegs addr then !s.answers addr
  else match poolOf addr with
    | some p => decide (p = .island ∧ owner ≠ 5) || !s.poolUp p
    | none => false

/-- The word address an off-block access counts under. -/
def State.offAddr (s : State) (owner addr : Nat) : Nat :=
  if isBar2 owner addr then
    let o := addr - 0x100000000
    s.rd (F.PCIE_WIN_BASE_BASE (o / 0x800000)) * 0x100000 + o % 0x800000
  else addr

/-- OFF_BLOCK_ACCESS. -/
def execOffBlockAccess (owner addr : Nat) (write : Bool) (s : State) : Out :=
  .next (s.whenB (s.aon && s.isOff owner addr) fun s =>
    let a := s.offAddr owner addr
    s.ifHeard owner a write fun s =>
      if write then
        match poolOf a with
        | some p =>
          if isBar2 owner addr then s.offBlock owner a true
          else if p = .island ∧ owner = 1 ∧ s.boot.islandLoad then s
          else s.memWrite owner p a 4 0
        | none => s.offBlock owner a true
      else
        match poolOf a with
        | some p => s.memRead owner p a 4
        | none => s.offBlock owner a false)

/-- NOMAP_ACCESS. -/
def execNomapAccess (owner addr : Nat) (write : Bool) (s : State) : Out :=
  .next (s.whenB (s.aon && inRegs addr && s.answers addr && !named (addr / 4 * 4)) fun s =>
    s.ifHeard owner addr write fun s => if write then s.busWrite owner addr 4 0 else s.busRead owner addr 4)

/-- SVC_RELEASE. -/
def execSvcRelease (owner : Nat) (s : State) : Out := .next (s.command owner Reg.SVC_CMD (·.svcBreak owner))

end Sys2Proof.Machine
end

