-- ==== Sys2Proof/Machine/Discrim.lean ====
section
/-! DEFINITION. Class D: discriminators and loop filters (R165–R167). -/

namespace Sys2Proof.Machine

/-- I and Q of a tap of the closed stack; with PE those of PE (R165). -/
def State.tapIQ (s : State) (e t : Nat) (pe : Bool) : Int × Int :=
  if pe then (s.ki e 72, s.ki e 73) else (s.ki e (56 + 2 * (t % 8)), s.ki e (57 + 2 * (t % 8)))

/-- The k words of a tap's sums. -/
def tapWords (t : Nat) (pe : Bool) : List Nat := if pe then [72, 73] else [56 + 2 * (t % 8), 57 + 2 * (t % 8)]

/-- A class D instruction whose effect is a value for d, from the words `ws` among others. -/
def State.tapOp (s : State) (e cyc d : Nat) (ws : List Nat) (f : State → Flagged) : State :=
  s.instr e onTrack cyc true fun s => s.reading e ws fun s => (putResult e d (f s) s, 0)

/-- One whose value has a free part. -/
def State.tapFree (s : State) (e cyc d : Nat) (ws : List Nat) (f : Nat → State → Flagged) : State :=
  s.instr e onTrack cyc true fun s => s.reading e ws fun s =>
    let (v, t) := s.draw
    (putResult e d (f v s) t, 0)

/-- I² + Q². -/
def power (v : Int × Int) : Int := v.1 * v.1 + v.2 * v.2

/-- dll.nelp. -/
def execDllNelp (e d early late : Nat) (s : State) : Out :=
  .next (s.tapOp e 6 d (tapWords early false ++ tapWords late false) fun s =>
    let p := power (s.tapIQ e early false)
    let q := power (s.tapIQ e late false)
    q31 (p - q) (p + q))

/-- dll.dot. -/
def execDllDot (e d early late prompt : Nat) (s : State) : Out :=
  .next (s.tapOp e 6 d (tapWords early false ++ tapWords late false ++ tapWords prompt false) fun s =>
    let x := s.tapIQ e early false
    let y := s.tapIQ e late false
    let p := s.tapIQ e prompt false
    q31 ((x.1 - y.1) * p.1 + (x.2 - y.2) * p.2) (power p))

/-- Costas with I = 0 gives a quarter cycle with the sign of Q (R165). -/
def costas (f : Nat) (i q : Int) : Flagged :=
  if i = 0 ∧ q ≠ 0 then plain (if 0 < q then 2 ^ 30 else -(2 ^ 30))
  else atan2c32 f i.natAbs (if i < 0 then -q else q)

/-- pll.costas; `mode` is the four-quadrant form. -/
def execPllCostas (e d p : Nat) (pe mode : Bool) (s : State) : Out :=
  .next (s.tapFree e 8 d (tapWords p pe) fun f s =>
    let v := s.tapIQ e p pe
    if mode then atan2c32 f v.1 v.2 else costas f v.1 v.2)

/-- Cross and dot product of the previous prompt (in a and b) and the present one. -/
def State.crossDot (s : State) (e a b p : Nat) (pe : Bool) : Int × Int :=
  let v := s.tapIQ e p pe
  let x := s.gi e a
  let y := s.gi e b
  (x * v.2 - y * v.1, x * v.1 + y * v.2)

/-- fll.cross. -/
def execFllCross (e d a b p : Nat) (pe : Bool) (s : State) : Out :=
  .next (s.tapOp e 6 d (tapWords p pe) fun s =>
    let (cr, dt) := s.crossDot e a b p pe
    q31Sqrt (if dt < 0 then -cr else cr) (power (s.gi e a, s.gi e b) * power (s.tapIQ e p pe)).toNat)

/-- fll.atan. -/
def execFllAtan (e d a b p : Nat) (pe data : Bool) (s : State) : Out :=
  .next (s.tapFree e 10 d (tapWords p pe) fun f s =>
    let (cr, dt) := s.crossDot e a b p pe
    if data then atan2c32 f dt.natAbs (if dt < 0 then -cr else cr) else atan2c32 f dt cr)

/-- k[w] takes a saturated value. -/
def State.setKi (s : State) (e w : Nat) (v : Int) : State := s.setK e w (BitVec.ofInt 32 v)

/-- lf.upd on the second- or third-order state block at word `n`, which lies in k80–k127 or K_PROT is raised (R167). -/
def execLfUpd (e d a n : Nat) (third : Bool) (s : State) : Out :=
  .next (s.instr e onTrack 3 true fun s =>
    let len := if third then 5 else 3
    if n < 80 ∨ 128 < n + len then (s, 0x02)
    else s.reading e ((List.range len).map (n + ·)) fun s =>
      let err := s.gi e a
      let gain := fun w => mulr (s.ki e w) err
      let i2 := Flagged.bind (gain (n + 2)) fun g => sat32 (s.ki e (n + 4) + g)
      let i1 := Flagged.bind (gain (n + 1)) fun g =>
        if third then sat32 (s.ki e (n + 3) + i2.1 + g) else sat32 (s.ki e (n + 2) + g)
      let out := Flagged.bind (gain n) fun g => sat32 (i1.1 + g)
      let s' := if third then (s.setKi e (n + 4) i2.1).setKi e (n + 3) i1.1 else s.setKi e (n + 2) i1.1
      (putResult e d (out.1, out.2 ||| i1.2 ||| (if third then i2.2 else 0)) s', 0))

/-- lf.blend with the weight word k[n]; a negative weight is held to 0. -/
def execLfBlend (e d a b n : Nat) (s : State) : Out :=
  .next (s.tapOp e 2 d [n] fun s =>
    let w := s.ki e n
    let v := sat32 (s.gi e a + rndShift ((max 0 w) * (s.gi e b - s.gi e a)) 31)
    (v.1, v.2 ||| (if w < 0 then 4 else 0)))

/-- d.pow; mode 3 raises ILLEGAL_OP. -/
def execDPow (e d t : Nat) (pe : Bool) (mode shift : Nat) (s : State) : Out :=
  .next (s.instr e onTrack 2 true fun s =>
    if 3 ≤ mode then (s, 0x01)
    else s.reading e (tapWords t pe) fun s =>
      let v := s.tapIQ e t pe
      let x := if mode = 0 then power v else if mode = 1 then v.1 * v.1 - v.2 * v.2 else v.1 * v.1
      (putResult e d (sat32 (rndShift x (shift % 32))) s, 0))

end Sys2Proof.Machine
end

