-- ==== Sys2Proof/Machine/MoveMem.lean ====
section
/-! DEFINITION. Class M but `waitq`: moves between registers, k words, memory and registers of the device (R153, R180–R182), and the
elements that `move` and the DMA engine carry (R362–R366). -/

namespace Sys2Proof.Machine

/-! ### Registers and k words -/

def execMov (e d a : Nat) (s : State) : Out := .next (s.valueOp e onAll 1 d fun s => (s.gi e a, 0))

def execMovfl (e d : Nat) (s : State) : Out := .next (s.valueOp e onAll 1 d fun s => ((s.eng e).fl, 0))

/-- A DMA channel's scratch block must lie in system SRAM (R372). -/
def State.kOk (s : State) (e : Nat) : Bool :=
  decide (kindOf e ≠ .dma) || decide (0x10000000 ≤ s.kBase e ∧ s.kBase e < 0x10800000)

/-- A channel whose access the interconnect does not take: it faults BUS, and the bus error halts the others (R181, R371). -/
def State.chanBus (s : State) (e a : Nat) (write : Bool) : State :=
  s.oneCycle fun s => (s.engFault e 0x09).busError a write false false (if write then some (e - 24) else none)

def execLdK (e d k : Nat) (s : State) : Out :=
  .next (s.instr e onAll 1 false fun s =>
    if s.kOk e then s.reading e [k % 128] fun s => ((s.setG e d (s.k e (k % 128))).advance e, 0)
    else (s.chanBus e (s.kBase e) false, 0))

/-- st.k; k0–k79 are protected from track programs (R153), and the firmware's words from channels (R176). -/
def execStK (e a k : Nat) (s : State) : Out :=
  .next (s.instr e onAll 1 false fun s =>
    if kindOf e = .track ∧ k % 128 < 80 then (s, 0x02)
    else if s.kOk e ∧ ¬ (kindOf e = .dma ∧ s.isFw (s.kBase e + 4 * (k % 128))) then ((s.setK e (k % 128) (s.g e a)).advance e, 0)
    else (s.chanBus e (s.kBase e) true, 0))

/-! ### ld and st (R181) -/

/-- g[a] plus a signed offset, as an address. -/
def State.effAddr (s : State) (e a : Nat) (off : Int) : Nat := ((s.gi e a + off) % 2 ^ 32).toNat

/-- Is the engine still in the program it issued from, now that its access has taken effect? An access may reset it. -/
def State.alive (s : State) (e : Nat) : Bool :=
  match kindOf e with
  | .track => (s.eng e).on
  | .ctx => decide (s.rd (F.LYZ_CTX_STAT_STATE (e - 32)) = 2)
  | .dma => [1, 4, 5].contains (s.rd (F.DMA_PCH_STAT_STATE (e - 40)))

/-- An access is done: d takes its value and the next word follows. -/
def State.accessDone (s : State) (e d : Nat) (v : Word) : State := if s.alive e then (s.setG e d v).advance e else s

/-- A bus error on ld or st: the engine faults BUS, and a channel's halts the others (R181, R371, R374). -/
def State.accessFault (s : State) (e a : Nat) (write : Bool) : State × Nat :=
  if kindOf e = .dma then (s.chanBus e a write, 0) else (s, 0x09)

/-- Does a DMA channel access an offset that names no register? That is a bus error whether its block is in Run or not (R415). -/
def unnamedBy (e a : Nat) : Bool := decide (kindOf e = .dma) && inRegs a && !named a

def execLd (e d a : Nat) (off : Int) (s : State) : Out :=
  .next (s.instr e notTrack 0 false fun s =>
    let x := s.effAddr e a off
    if x % 4 ≠ 0 then (s, 0x07)
    else
      let t := (s.spend e (if inRegs x then 8 else 4)).busRead (ownerOfEngine e) x 4
      if t.fine ∧ ¬ inRegs x ∧ s.badIn x 4 then (t, 0x05)
      else if t.fine ∨ t.answer.status = .offBlock ∧ ¬ unnamedBy e x then (t.accessDone e d t.answer.value, 0)
      else t.accessFault e x false)

/-- The status st writes to d for an access to `a` that was not answered NOMAP. -/
def stStatus (a : Nat) (r : Answer) : Nat :=
  match r.status with
  | .offBlock => 0x10
  | .refused =>
    if r.code = 0 then 0x12
    else if rwtMask a ≠ 0 ∨ a / 0x1000 = 0x400D0 then r.code
    else if r.code = 0x0C then 0x11 else 0x12
  | .tgtErr => 0x12
  | _ => 0

def execSt (e d a b : Nat) (off : Int) (s : State) : Out :=
  .next (s.instr e notTrack 0 false fun s =>
    let x := s.effAddr e a off
    if x % 4 ≠ 0 then (s, 0x07)
    else
      let t := (s.spend e (if inRegs x then 8 else 2)).busWrite (ownerOfEngine e) x 4 (s.g e b)
      if t.fine then (t.accessDone e d 0, 0)
      else if t.answer.status = .noMap ∨ unnamedBy e x then t.accessFault e x true
      else (t.accessDone e d (BitVec.ofNat 32 (stStatus x t.answer)), 0))

/-! ### Elements (R362–R365) -/

/-- One end of a transfer: an address, whether it stays, and whether it lies in host memory. -/
structure End where
  addr : Nat
  fix : Bool
  pcie : Bool
  deriving DecidableEq, Repr

/-- The end after `n` bytes. -/
def End.after (x : End) (n : Nat) : End := if x.fix then x else { x with addr := x.addr + n }

/-- One element of `n` bytes is read; 8 bytes are two words. -/
def State.readElem (s : State) (owner : Nat) (x : End) (n : Nat) : State × List Nat :=
  if x.pcie then (s.okay owner, leBytes n (s.hostLoad x.addr n))
  else
    let t := s.busRead owner x.addr (min 4 n)
    if n = 8 ∧ t.fine then
      let u := t.busRead owner (x.addr + 4) 4
      (u, leBytes 4 t.answer.value.toNat ++ leBytes 4 u.answer.value.toNat)
    else (t, leBytes (min 4 n) t.answer.value.toNat)

/-- One element is written. -/
def State.writeElem (s : State) (owner : Nat) (x : End) (n : Nat) (bs : List Nat) : State :=
  if x.pcie then (s.hostStore x.addr n (leNum bs)).okay owner
  else
    let t := s.busWrite owner x.addr (min 4 n) (BitVec.ofNat 32 (leNum (bs.take 4)))
    if n = 8 ∧ t.fine then t.busWrite owner (x.addr + 4) 4 (BitVec.ofNat 32 (leNum (bs.drop 4))) else t

/-- Elements are read one after another until one fails: the state, the bytes, and where it failed. -/
def readElems (owner n : Nat) : Nat → End → State → State × List Nat × Option Nat
  | 0, _, s => (s, [], none)
  | k + 1, x, s =>
    let (t, bs) := s.readElem owner x n
    if ¬ t.fine then (t, [], some x.addr)
    else
      let (u, rest, err) := readElems owner n k (x.after n) t
      (u, bs ++ rest, err)

/-- Elements are written one after another until one fails: the state, how many were written, and where it failed. -/
def writeElems (owner n : Nat) : Nat → End → List Nat → State → State × Nat × Option Nat
  | 0, _, _, s => (s, 0, none)
  | k + 1, x, bs, s =>
    let t := s.writeElem owner x n (bs.take n)
    if ¬ t.fine then (t, 0, some x.addr)
    else
      let (u, done, err) := writeElems owner n k (x.after n) (bs.drop n) t
      (u, done + 1, err)

/-- The swap of R365 on each unit of a byte string. -/
def swapBytes (mode : Nat) : List Nat → List Nat
  | a :: b :: c :: d :: rest =>
    (match mode with
      | 1 => [b, a, d, c]
      | 2 => [d, c, b, a]
      | 3 => [c, d, a, b]
      | _ => [a, b, c, d]) ++ swapBytes mode rest
  | [a, b] => if mode = 1 then [b, a] else [a, b]
  | l => l

/-- What carrying some elements came to: the bytes written, and the address and direction of the access that failed. -/
structure Carry where
  wrote : Nat
  err : Option (Nat × Bool)
  deriving DecidableEq, Repr

/-- `bytes` bytes go from one end to the other: read, swapped, written. -/
def State.carry (s : State) (owner elem swap bytes : Nat) (src dst : End) : State × Carry :=
  match readElems owner elem (bytes / elem) src s with
  | (t, _, some a) => (t, ⟨0, some (a, false)⟩)
  | (t, bs, none) =>
    let (u, n, err) := writeElems owner elem (bytes / elem) dst (swapBytes swap bs) t
    (u, ⟨n * elem, err.map fun a => (a, true)⟩)

/-- Do the `n` bytes from `a` on answer a read, and hold a word with an uncorrectable error? -/
def State.upset (s : State) (a n : Nat) : Bool := !inRegs a && s.readable a n && s.badIn a n

/-- A context's move: unit by unit, until one fails; an uncorrectable source word fails its unit before anything of it is written (R197). -/
def moveUnits (owner elem swap unit : Nat) : Nat → End → End → State → State × Option (Nat × Bool)
  | 0, _, _, s => (s, none)
  | k + 1, src, dst, s =>
    if s.upset src.addr unit then (s.readDone owner (src.addr / 4 * 4) ((src.addr % 4 + unit + 3) / 4), some (src.addr, false)) else
    let (t, c) := s.carry owner elem swap unit src dst
    if c.err.isSome then (t, c.err) else moveUnits owner elem swap unit k (src.after unit) (dst.after unit) t

/-! ### Bursts (R364, R366) -/

/-- Bytes up to the next 256-byte boundary of an end that is not fixed. -/
def End.room (x : End) : Nat := if x.fix then 256 else 256 - x.addr % 256

/-- The bytes of a transfer's next burst, a whole number of elements and swap units; 0 while its pacing source holds it back. -/
def State.burst (s : State) (x : Xfer) (pace : Option Nat) : Nat :=
  let src : End := ⟨x.src, x.srcFix, x.srcPcie⟩
  let dst : End := ⟨x.dst, x.dstFix, x.dstPcie⟩
  let n := min (min src.room dst.room) (x.count * x.elem)
  match pace with
  | none => n
  | some p =>
    if ¬ s.paceReady p then 0
    else
      let m := max x.elem x.unit
      min n (((s.paceLevel p).getD 0 - s.rd (F.DMA_PACE_CFG_LO p)) * s.paceUnit p / m * m)

/-- A paced burst takes its bytes off a software counter. -/
def State.payPace (s : State) (pace : Option Nat) (bytes : Nat) : State :=
  match pace with
  | none => s
  | some p =>
    if s.rd (F.DMA_PACE_CFG_SEL p) = 0 then
      ({ s with dma := { s.dma with level := put 0 s.dma.level p (look 0 s.dma.level p - bytes) } } : State).pace
    else s

/-! ### The read engine's turns (R364) -/

/-- The pacing source of register channel `c`. -/
def State.bchPace (s : State) (c : Nat) : Option Nat :=
  if s.on (F.DMA_BCH_CFG_PACE_EN c) then some (s.rd (F.DMA_BCH_CFG_PACE_SRC c)) else none

/-- The pacing source of program channel `p`. -/
def State.pchPace (s : State) (p : Nat) : Option Nat :=
  if s.on (F.DMA_PCH_CFG_PACE_EN p) then some (s.rd (F.DMA_PCH_CFG_PACE_SRC p)) else none

/-- What a `move` of engine `e` describes, `done` bytes into it. -/
def State.moveXfer (s : State) (e d a b size swap : Nat) (srcFix dstFix : Bool) (done : Nat) : Xfer :=
  let elem := 2 ^ (size % 4)
  { size := size % 4, swap := swap % 4, srcFix, dstFix, srcPcie := false, dstPcie := false, pch := true
    src := (s.g e a).toNat + (if srcFix then 0 else done), dst := (s.g e b).toNat + (if dstFix then 0 else done)
    count := (s.g e d).toNat - done / elem }

/-- Has channel `ch`, 16–23 for the program channels, a burst to read: a register channel in RUN, a program channel that stands at a `move`,
and its pacing lets it? -/
def State.wantsRead (s : State) (ch : Nat) : Bool :=
  if ch < 16 then decide (s.rd (F.DMA_BCH_STAT_STATE ch) = 1 ∧ s.burst (s.bchXfer ch) (s.bchPace ch) ≠ 0)
  else
    let e := 24 + ch
    s.issues e && match lyzDecode e (s.ld32 (s.pcByte e)) with
      | some (.move _ d a b size swap sf df) => decide (s.burst (s.moveXfer e d a b size swap sf df (s.eng e).moved) (s.pchPace (ch - 16)) ≠ 0)
      | _ => false

/-- PRIO of channel `ch`. -/
def State.prioCh (s : State) (ch : Nat) : Nat := if ch < 16 then s.rd (F.DMA_BCH_CFG_PRIO ch) else s.rd (F.DMA_PCH_CFG_PRIO (ch - 16))

/-- Is it channel `ch`'s turn: no other that has a burst to read comes before it, by PRIO and then in round-robin order? -/
def State.inTurn (s : State) (ch : Nat) : Bool :=
  let p := s.prioCh ch
  let after (k : Nat) : Nat := (k + 24 - look 0 s.dma.turn p) % 24
  (List.range 24).all fun k =>
    decide (k = ch) || !s.wantsRead k || decide (s.prioCh k < p) || (decide (s.prioCh k = p) && decide (after ch < after k))

/-- Channel `ch` is served: the one after it is the next that the read engine looks at. -/
def State.served (s : State) (ch : Nat) : State :=
  { s with dma := { s.dma with turn := put 0 s.dma.turn (s.prioCh ch) ((ch + 1) % 24) } }

/-! ### move (R182, R372, R374) -/

/-- A completed move: each incrementing register has advanced by the bytes moved; the next word follows. -/
def State.moved (s : State) (e a b bytes : Nat) (srcFix dstFix : Bool) : State :=
  if ¬ s.alive e then s
  else
    let s := if srcFix then s else s.setG e a (s.g e a + BitVec.ofNat 32 bytes)
    let s := if dstFix then s else s.setG e b (s.g e b + BitVec.ofNat 32 bytes)
    s.advance e

/-- FCLK of a context's move: 8 bytes each between pools, 8 for each element to or from registers. -/
def Xfer.cycles (x : Xfer) : Nat :=
  if inRegs x.src || inRegs x.dst then 8 * x.count else (x.count * x.elem + 7) / 8

/-- Is the count out of range, or an address or the count misaligned (R182)? -/
def Xfer.misaligned (x : Xfer) : Bool :=
  decide (x.count = 0 ∨ 16777215 < x.count ∨ x.src % x.elem ≠ 0 ∨ x.dst % x.elem ≠ 0 ∨ x.src % x.unit ≠ 0 ∨ x.dst % x.unit ≠ 0 ∨
    x.count * x.elem % x.unit ≠ 0)

/-- `move` on a control context: the whole of it; a bus error faults BUS (log 62), an uncorrectable source word ECC (R197). -/
def State.moveCtx (s : State) (e a b : Nat) (x : Xfer) : State × Nat :=
  if x.misaligned then (s, 0x07)
  else
    let unit := max x.elem x.unit
    let bytes := x.count * x.elem
    match moveUnits (ownerOfEngine e) x.elem x.swap unit (bytes / unit) ⟨x.src, x.srcFix, false⟩ ⟨x.dst, x.dstFix, false⟩
        (s.spend e x.cycles) with
    | (t, some (a, w)) => (t, if !w && t.upset a unit then 0x05 else 0x09)
    | (t, none) => (t.moved e a b bytes x.srcFix x.dstFix, 0)

/-- A move's channel stops with ERROR and the code (R374). -/
def State.pchError (s : State) (p code : Nat) : State := ((s.wr (F.DMA_PCH_STAT_ERR p) code).pchGo p 7).dmaIrq true (16 + p)

/-- A channel that ends its move before it pauses is PAUSED now (R374). -/
def State.pchMoveEnds (s : State) (p : Nat) : State := if s.rd (F.DMA_PCH_STAT_STATE p) = 4 then s.pchGo p 5 else s

/-- `move` on a DMA program channel: its next burst, in its turn; the last one completes it (R364; log 63). -/
def State.moveDma (s : State) (e d a b size swap : Nat) (srcFix dstFix : Bool) : State × Nat :=
  let p := e - 40
  let done := (s.eng e).moved
  let x := s.moveXfer e d a b size swap srcFix dstFix done
  let code := if 16777215 < x.count then 1 else s.xferErr x
  if code ≠ 0 then ((s.setEng e { s.eng e with moved := 0 }).pchError p code, 0)
  else
    let n := s.burst x (s.pchPace p)
    if n = 0 ∨ ¬ s.inTurn (16 + p) then (s, 0)
    else
    let s := s.served (16 + p)
    if s.upset x.src n then (s.readDone (ownerOfEngine e) (x.src / 4 * 4) ((x.src % 4 + n + 3) / 4), 0x05)
    else
      match s.carry (ownerOfEngine e) x.elem x.swap n ⟨x.src, srcFix, false⟩ ⟨x.dst, dstFix, false⟩ with
      | (t, ⟨_, some (w, write)⟩) => (t.busError w write false false (if write then some (16 + p) else none), 0)
      | (t, ⟨_, none⟩) =>
        let t := t.payPace (s.pchPace p) n
        if ¬ t.alive e then (t, 0)
        else if n < x.count * x.elem then (t.setEng e { t.eng e with moved := done + n }, 0)
        else
          let t := t.setEng e { t.eng e with moved := 0 }
          ((t.moved e a b (done + n) srcFix dstFix).pchMoveEnds p, 0)

def execMove (e d a b size swap : Nat) (srcFix dstFix : Bool) (s : State) : Out :=
  .next (s.instr e notTrack 0 false fun s =>
    if kindOf e = .dma then s.moveDma e d a b size swap srcFix dstFix
    else s.moveCtx e a b (s.moveXfer e d a b size swap srcFix dstFix 0))

end Sys2Proof.Machine
end

