-- ==== Sys2Proof/Machine/DmaMove.lean ====
section
/-! DEFINITION. Bursts of register channels (R361–R371). -/

namespace Sys2Proof.Machine

/-- A 64-bit address in its pair of CUR registers. -/
def State.setCur (s : State) (lo hi a : Nat) : State :=
  (s.setReg lo (BitVec.ofNat 32 a)).setReg hi (BitVec.ofNat 32 (a / 2 ^ 32))

/-- The CUR registers after `n` bytes have been written. -/
def State.bchAdvance (s : State) (c : Nat) (x : Xfer) (n : Nat) : State :=
  let s := if x.srcFix then s else s.setCur (Reg.DMA_BCH_CUR_SRC_LO c) (Reg.DMA_BCH_CUR_SRC_HI c) (x.src + n)
  let s := if x.dstFix then s else s.setCur (Reg.DMA_BCH_CUR_DST_LO c) (Reg.DMA_BCH_CUR_DST_HI c) (x.dst + n)
  s.wr (F.DMA_BCH_CUR_COUNT_COUNT c) (x.count - n / x.elem)

/-- No data is in flight between bursts: a PAUSING channel is PAUSED, or IDLE where STOP asked for it (R369, E05 of R370). -/
def State.bchPaused (s : State) (c : Nat) : State :=
  let stop := (look {} s.dma.bch c).stopping
  ((s.e05 c).setBch c {}).bchGo c (if stop then 0 else 3)

/-- The next burst of a channel in RUN, in its turn (R364). -/
def State.bchBurst (s : State) (c : Nat) : State :=
  let x := s.bchXfer c
  let n := s.burst x (s.bchPace c)
  if s.on F.DMA_STAT_HALT_BUSERR ∨ n = 0 ∨ ¬ s.inTurn c then s
  else if s.regionErr x then s.bchError c 2
  else
    let owner := s.rd (F.DMA_BCH_STAT_OWNER c)
    match (s.served c).carry owner x.elem x.swap n ⟨x.src, x.srcFix, x.srcPcie⟩ ⟨x.dst, x.dstFix, x.dstPcie⟩ with
    | (t, ⟨w, some (a, write)⟩) =>
      (t.bchAdvance c x w).busError a write false false (if write then some c else none)
    | (t, ⟨_, none⟩) =>
      if t.rd (F.DMA_BCH_STAT_STATE c) = 0 then t
      else
        let t := (t.bchAdvance c x n).payPace (s.bchPace c) n
        if x.count * x.elem = n then (t.bchGo c 0).dmaIrq false c else t

/-- DMA_BURST. -/
def execDmaBurst (ch : Nat) (s : State) : Out :=
  .next (s.whenB (decide (ch < 16) && s.inRun 18) fun s =>
    match s.rd (F.DMA_BCH_STAT_STATE ch) with
    | 1 => s.bchBurst ch
    | 2 => s.bchPaused ch
    | _ => s)

end Sys2Proof.Machine
end

