-- ==== Sys2Proof/Machine/HostAccess.lean ====
section
/-! DEFINITION. The host interfaces: SPI accesses, host frames to the device, the frame FIFO, the UART's rate and the PCIe function-level
reset (R23–R29, R43, R49, R191). -/

namespace Sys2Proof.Machine

/-- The next word address. -/
def nextWord (a : Nat) : Nat := (a + 4) % 2 ^ 32

/-- Words are written one after another, up to the first error. -/
def hostWrites (owner : Nat) : Nat → List Word → State → State
  | _, [], s => s
  | a, w :: ws, s =>
    let t := s.busWrite owner a 4 w
    if t.fine then hostWrites owner (nextWord a) ws t else t

/-- Words are read one after another, up to and with the first error. -/
def hostReads (owner : Nat) : Nat → Nat → State → State × List Word
  | _, 0, s => (s, [])
  | a, n + 1, s =>
    let t := s.busRead owner a 4
    if t.fine then
      let (u, ws) := hostReads owner (nextWord a) n t
      (u, t.answer.value :: ws)
    else (t, [t.answer.value])

/-! ### SPI (R26) -/

/-- What the device shifts out during an access: READY and the error bits of the previous one, then data. -/
def State.shiftOut (s : State) (data : List Word) (prev : Nat) : State :=
  { s with frames := s.frames ++ [⟨0x300, (0x80 + prev) :: bytesOfWords data⟩] }

def execSpiWrite (addr : Nat) (words : List Word) (s : State) : Out :=
  .next (if s.hostAsleep 17 then (s.shiftOut [] s.host.spiStatus).offBlock 17 addr true
    else s.whenB (s.hostUp 17 && decide (1 ≤ words.length ∧ words.length ≤ 256)) fun s =>
      hostWrites 17 addr words (s.shiftOut [] s.host.spiStatus))

def execSpiRead (addr count : Nat) (s : State) : Out :=
  .next (if s.hostAsleep 17 then (s.shiftOut [0x0FF00FF0] s.host.spiStatus).offBlock 17 addr false
    else s.whenB (s.hostUp 17 && decide (1 ≤ count ∧ count ≤ 256)) fun s =>
      let (t, ws) := hostReads 17 addr count s
      t.shiftOut ws s.host.spiStatus)

/-! ### Host frames to the device (R27) -/

/-- The words of a frame of `len` payload bytes leave the SPI frame FIFO (log 31). -/
def State.takeIn (s : State) (owner len : Nat) : State :=
  if owner = 17 then { s with host := { s.host with hspiIn := s.host.hspiIn.drop ((9 + len + 3) / 4) } } else s

/-- The bytes from the first 0xB7 0x5A on. -/
def toSync : List Nat → List Nat
  | 0xB7 :: 0x5A :: rest => 0xB7 :: 0x5A :: rest
  | _ :: rest => toSync rest
  | [] => []

/-- The receiver of the SPI frame FIFO passes the sync bytes in front and searches for the next ones (R27); the FIFO goes on at the word
they begin in. -/
def State.resync (s : State) : State :=
  let left := toSync ((bytesOfWords s.host.hspiIn).drop 2)
  { s with host := { s.host with hspiIn := s.host.hspiIn.drop (s.host.hspiIn.length - (left.length + 3) / 4) } }

/-- A frame with a bad CRC or length is counted and discarded, and the receiver searches for the next. -/
def State.dropFrame (s : State) (owner : Nat) (crcOk : Bool) : State :=
  if owner = 17 then
    let s := s.resync.sat F.HSPI_CNT_CRC_ERR
    if crcOk then s else { s with host := { s.host with spiStatus := 4 } }
  else if owner = 18 then s.sat F.HUART_CNT_CRC_ERR
  else s

/-- A host frame arrives over the strapped interface: discarded, or acted on by `k`. -/
def State.hostFrame (s : State) (owner len : Nat) (crcOk : Bool) (k : State → State) : State :=
  s.whenB (s.hostUp owner) fun s =>
    if ¬ crcOk ∨ 4096 < len then s.dropFrame owner crcOk else k (s.takeIn owner len)

/-- The status byte of REG_RESP: READY and the error of the last access (R26, R30, R415, R45). A TGT_ERR shows as REFUSED (log 145). -/
def Answer.statusByte (r : Answer) : Nat :=
  0x80 + match r.status with
    | .offBlock => 1
    | .ok | .none => 0
    | _ => 2

/-- REG_RESP. -/
def State.respond (s : State) (data : List Word) : State := s.sendFrame 0x03 (s.answer.statusByte :: bytesOfWords data)

/-- The UART takes the rate written to HUART_BAUD once its REG_RESP has been sent. -/
def State.newRate (s : State) (owner : Nat) : State :=
  if owner = 18 then { s with host := { s.host with uartRate := (s.reg Reg.HUART_BAUD).toNat } } else s

/-- REG_WRITE with its words: 1 to 256. -/
def State.frameWrite (s : State) (owner addr : Nat) (words : List Word) : State :=
  if 1 ≤ words.length ∧ words.length ≤ 256 then ((hostWrites owner addr words s).respond []).newRate owner else s

/-- A UART frame that finds HOST off: OFF_BLOCK, in a REG_RESP. -/
def State.asleepFrame (s : State) (addr : Nat) (write : Bool) : State :=
  let t := s.offBlock 18 addr write
  { t with frames := t.frames ++ [⟨0x03, t.answer.statusByte :: (if write then [] else bytesOfWords [t.answer.value])⟩] }

def execRegWrite (owner addr len : Nat) (crcOk : Bool) (words : List Word) (s : State) : Out :=
  .next (if owner = 18 ∧ s.hostAsleep 18 then s.asleepFrame addr true
    else s.hostFrame owner len crcOk (·.frameWrite owner addr words))

/-- REG_READ: as many words as are asked for and one REG_RESP can carry (log 104). -/
def execRegRead (owner addr count len : Nat) (crcOk : Bool) (s : State) : Out :=
  .next (if owner = 18 ∧ s.hostAsleep 18 then s.asleepFrame addr false
    else s.hostFrame owner len crcOk fun s =>
      let (t, ws) := hostReads owner addr (min count 1023) s
      t.respond ws)

/-- CMD_SUBMIT: whole entries of eight words for queue `queue`. -/
def execCmdSubmit (owner queue len : Nat) (crcOk : Bool) (entries : List Word) (s : State) : Out :=
  .next (s.hostFrame owner len crcOk fun s =>
    if queue < 8 ∧ entries.length % 8 = 0 ∧ s.inRun 1 then s.submit owner queue entries else s)

/-! ### The frame FIFO, the UART's rate, the function-level reset -/

def execHspiFrameRead (owner : Nat) (s : State) : Out := .next (s.ifHeard owner Reg.HSPI_FRAME false (·.busRead owner Reg.HSPI_FRAME 4))

def execHspiFrameWrite (owner : Nat) (v : Word) (s : State) : Out :=
  .next (s.ifHeard owner Reg.HSPI_FRAME true (·.busWrite owner Reg.HSPI_FRAME 4 v))

/-- HUART_BAUD_WRITE: from the UART host by a REG_WRITE frame of its own. -/
def execHuartBaudWrite (owner : Nat) (v : Word) (s : State) : Out :=
  .next (if owner = 18 then s.whenB (s.hostUp 18) (·.frameWrite 18 Reg.HUART_BAUD [v]) else s.ifHeard owner Reg.HUART_BAUD true (·.busWrite owner Reg.HUART_BAUD 4 v))

/-- PCIE_FLR (R43, R49): of the strapped PCIe endpoint, whose function mask clears (log 152). -/
def execPcieFlr (s : State) : Out :=
  .next (s.whenB (s.hostUp 16) fun s => { (s.ownerReset 16).settle with host := { (s.ownerReset 16).settle.host with functionMask := false } })

end Sys2Proof.Machine
end

