-- ==== Sys2Proof/Machine/Gheand.lean ====
section
/-! DEFINITION. The Gheand service protocol on SVC (port 1) and NP3 (port 2, with the sender's MAC), served by LEAVEN (R386–R391). -/

namespace Sys2Proof.Machine

/-! ### Sessions, frames and replies (R386–R388) -/

/-- Is the link of this transport up? -/
def State.svcUp (s : State) (port : Nat) : Bool := s.aon && (decide (port = 1) || (decide (port = 2) && s.on (F.NP_STAT_LINK 3)))

/-- Does this session hold the staging lock? -/
def State.holds (s : State) (port mac : Nat) : Bool :=
  decide (s.boot.holder = port ∧ port ≠ 0) && (decide (port = 1) || decide (s.boot.session = mac))

/-- Does the service engine take frames of this sender: over NP3 those addressed to NP3's MAC or to broadcast (R386)? -/
def State.svcTakes (s : State) (port : Nat) (src : SvcFrom) : Bool :=
  s.svcUp port && (decide (port = 1) || decide (src.dst = Config.np3Mac ∨ src.dst = 2 ^ 48 - 1))

/-- Does it understand them? With a rate that was measured wrong the port drops every frame (R428). -/
def State.svcHears (s : State) (port : Nat) (src : SvcFrom) : Bool := s.svcTakes port src && !(decide (port = 1) && s.boot.deaf)

/-- A Gheand frame on the wire: sync, length, CMD, TAG, payload, CRC-32 over all but the sync (R387). -/
def gheandBytes (cmd tag : Nat) (payload : List Nat) : List Nat :=
  let body := leBytes 2 payload.length ++ [cmd % 256, tag % 256] ++ payload
  [0xC6, 0x4E] ++ body ++ leBytes 4 (crc32 body)

/-- A reply goes back over the transport that its command came by, over NP3 to the sender's MAC: CMD | 0x80, the tag, the status byte and the
data (R386, R387). -/
def State.gheandReply (s : State) (port : Nat) (src : SvcFrom) (cmd tag status : Nat) (data : List Nat) : State :=
  let bs := gheandBytes (cmd ||| 0x80) tag (status :: data)
  if port = 2 then s.emit 3 (beBytes 6 src.mac ++ beBytes 6 Config.np3Mac ++ [0x88, 0xB5] ++ bs)
  else s.say (cmd ||| 0x80) bs

/-- A frame with a bad CRC or length, or at a rate that was measured wrong, is dropped and counted, with no reply (R387, R428). -/
def State.svcDrop (s : State) : State := s.sat F.SVC_CNT_DROPPED

/-- A valid frame: counted, the holder's idle time starts again, and `k` gives status, data and state. -/
def State.gheand (s : State) (port : Nat) (src : SvcFrom) (tag cmd : Nat) (k : State → Nat × List Nat × State) : State :=
  s.whenB (s.svcTakes port src) fun s =>
  if ¬ s.svcHears port src then s.svcDrop
  else
    let s := s.sat F.SVC_CNT_FRAMES
    let s := if s.holds port src.mac then s.wr F.SVC_STAT_IDLE_S 0 else s
    let (status, data, s) := k s
    s.gheandReply port src cmd tag status data

/-- A command that needs the lock. -/
def State.gheandLocked (s : State) (port : Nat) (src : SvcFrom) (tag cmd : Nat) (k : State → Nat × State) : State :=
  s.gheand port src tag cmd fun s =>
    if s.holds port src.mac then
      let (status, s) := k s
      (status, [], s)
    else (if s.boot.holder ≠ 0 then 1 else 2, [], s)

/-- A frame of `len` payload bytes: one above 1,040 is malformed (R387). -/
def State.svcSized (s : State) (port : Nat) (src : SvcFrom) (len : Nat) (k : State → State) : State :=
  if 1040 < len then s.whenB (s.svcTakes port src) State.svcDrop else k s

/-- INFO. -/
def execGheandInfo (port : Nat) (src : SvcFrom) (tag : Nat) (s : State) : Out :=
  .next (s.gheand port src tag 0x01 fun s =>
    (0, bytesOfWords ([Reg.SYS_CHIPID, Reg.SYS_REV, Reg.BOOT_UID_LO, Reg.BOOT_UID_HI, Reg.BOOT_STAT, Reg.BOOT_SLOTS,
      Reg.BOOT_VERSION].map s.reg), s))

/-- OPEN takes a free lock, with its crumb. -/
def State.openLock (s : State) (port mac : Nat) : Nat × State :=
  if s.boot.holder = 0 then
    (0, ((s.setBoot { s.boot with holder := port, session := if port = 2 then mac else 0 }).wr F.SVC_STAT_IDLE_S 0).lockCrumb 9 20)
  else (if s.holds port mac then 0 else 1, s)

def execGheandOpen (port : Nat) (src : SvcFrom) (tag : Nat) (s : State) : Out :=
  .next (s.gheand port src tag 0x02 fun s =>
    let (status, s) := s.openLock port src.mac
    (status, [], s))

def execGheandClose (port : Nat) (src : SvcFrom) (tag : Nat) (s : State) : Out :=
  .next (s.gheandLocked port src tag 0x03 fun s => (0, s.dropLock))

/-! ### Staging (R389) -/

/-- The slot that is not ACTIVE; slot A while Starter is (log 64). -/
def BootSt.target (b : BootSt) : Nat := if b.active = 0 then 1 else 0

/-- The staging record in force; one whose slot is ACTIVE is treated as EMPTY (R382). -/
def BootSt.record (b : BootSt) : Option Staging := b.staging.filter fun r => decide (r.slot ≠ b.active)

def State.beginStage (s : State) (id count : Nat) : Nat × State :=
  if count < 1 ∨ 2560 < count then (3, s)
  else if s.boot.trial then (5, s)
  else
    match s.boot.record with
    | some r =>
      if r.state = 1 ∧ r.id = id ∧ r.count = count then (0, s)
      else (0, s.writeConfig { s.boot with staging := some { slot := s.boot.target, state := 1, id, count } })
    | none => (0, s.writeConfig { s.boot with staging := some { slot := s.boot.target, state := 1, id, count } })

def execGheandBegin (port : Nat) (src : SvcFrom) (tag id count : Nat) (s : State) : Out :=
  .next (s.gheandLocked port src tag 0x10 (·.beginStage id count))

/-- A block and its bitmap bit go to MRAM. -/
def State.stageBlock (s : State) (index : Nat) (data : List Nat) : Nat × State :=
  match s.boot.record with
  | none => (5, s)
  | some r =>
    if r.state ≠ 1 then (5, s)
    else if r.count ≤ index then (4, s)
    else if data.length < 1 ∨ 1024 < data.length ∨ (index + 1 < r.count ∧ data.length ≠ 1024) then (3, s)
    else
      let s := (s.stBytes (slotBase r.slot + 1024 * index) data).countMram (1 + r.slot) ((data.length + 7) / 8)
      (0, s.writeConfig { s.boot with staging := some { r with got := put 0 r.got index 1 } })

def execGheandStage (port : Nat) (src : SvcFrom) (tag index : Nat) (data : List Nat) (s : State) : Out :=
  .next (s.svcSized port src (2 + data.length) (·.gheandLocked port src tag 0x11 (·.stageBlock index data)))

/-- The first block not in MRAM; the block count where none is missing. -/
def Staging.missing (r : Staging) : Nat := ((List.range r.count).find? fun i => decide (look 0 r.got i = 0)).getD r.count

/-- STATUS: state, first missing block, blocks written, as 32-bit words (log 65). -/
def execGheandStatus (port : Nat) (src : SvcFrom) (tag : Nat) (s : State) : Out :=
  .next (s.gheand port src tag 0x12 fun s =>
    let words := match s.boot.record with
      | none => [0, 0, 0]
      | some r => [r.state, r.missing, r.got.length]
    (0, words.flatMap (leBytes 4), s))

def State.commitStage (s : State) (trialS : Nat) : Nat × State :=
  if (trialS ≠ 0 ∧ trialS < 10) ∨ 65535 < trialS then (3, s)
  else
    match s.boot.record with
    | none => (5, s)
    | some r =>
      if r.missing < r.count then (5, s)
      else (0, s.writeConfig { s.boot with staging := some { r with state := 2, trialS := if trialS = 0 then 300 else trialS } })

def execGheandCommit (port : Nat) (src : SvcFrom) (tag trialS : Nat) (s : State) : Out :=
  .next (s.gheandLocked port src tag 0x13 (·.commitStage trialS))

/-! ### READ and VOTE (R390) -/

/-- Words are read one after another; an address that names nothing gives none. -/
def svcReads : Nat → Nat → State → State × Option (List Word)
  | _, 0, s => (s, some [])
  | a, n + 1, s =>
    let t := s.busRead 20 a 4
    if t.answer.status = .noMap then (t, none)
    else
      let (u, ws) := svcReads (a + 4) n t
      (u, ws.map (t.answer.value :: ·))

/-- READ: MRAM and registers only. -/
def State.svcRead (s : State) (addr len : Nat) : Nat × List Nat × State :=
  if len < 4 ∨ 1024 < len ∨ len % 4 ≠ 0 ∨ addr % 4 ≠ 0 then (3, [], s)
  else if ¬ (inRegs addr || decide (poolOf addr = some .mram ∧ addr + len ≤ 0x04800000)) then (4, [], s)
  else match svcReads addr (len / 4) s with
    | (t, none) => (4, [], t)
    | (t, some ws) => (0, bytesOfWords ws, t)

def execGheandRead (port : Nat) (src : SvcFrom) (tag addr len : Nat) (s : State) : Out :=
  .next (s.gheand port src tag 0x20 (·.svcRead addr len))

/-- VOTE as client 19; one that wakes a domain records cause 5. -/
def State.svcVote (s : State) (mask : Nat) (up : Bool) : Nat × State :=
  let wakes := up && (List.range 18).any fun i => mask.testBit (i + 1) && decide (s.dom (i + 1) = 0)
  let s := if wakes then s.wr F.PWR_WAKESTAT_CAUSE 5 else s
  (0, s.pwrVote 20 mask up)

def execGheandVote (port : Nat) (src : SvcFrom) (tag mask : Nat) (up : Bool) (s : State) : Out :=
  .next (s.gheandLocked port src tag 0x21 (·.svcVote mask up))

/-! ### Tokens and RESET (R379, R391) -/

/-- A REVOKE token waits for the next boot. -/
def State.keepRevoke (s : State) (token : List Nat) : Nat × State :=
  if token = [] then (3, s) else (0, s.writeConfig { s.boot with pendingRevoke := token })

def execGheandRevoke (port : Nat) (src : SvcFrom) (tag : Nat) (token : List Nat) (s : State) : Out :=
  .next (s.svcSized port src token.length (·.gheandLocked port src tag 0x30 (·.keepRevoke token)))

/-- An UNLOCK token waits with the nonce in force. -/
def State.keepUnlock (s : State) (token : List Nat) : Nat × State :=
  if token = [] then (3, s)
  else (0, s.writeConfig { s.boot with pendingUnlock := token, unlockNonce := s.reg Reg.BOOT_NONCE })

def execGheandUnlock (port : Nat) (src : SvcFrom) (tag : Nat) (token : List Nat) (s : State) : Out :=
  .next (s.svcSized port src token.length (·.gheandLocked port src tag 0x31 (·.keepUnlock token)))

/-- RESET: the reply, then the device reset; the millisecond between them is not told apart (log 66). -/
def execGheandReset (port : Nat) (src : SvcFrom) (tag : Nat) (s : State) : Out :=
  .next (
    let held := s.svcHears port src && s.holds port src.mac
    let s := s.gheandLocked port src tag 0x3F fun s => (0, s)
    s.whenB held (·.deviceReset 4 20))

/-! ### The lock's timeout, bad frames, the rate -/

/-- GHEAND_LOCK_TIMEOUT: 60 s without a valid frame of the holder. -/
def execGheandLockTimeout (s : State) : Out :=
  .next (s.whenB (s.aon && decide (s.boot.holder ≠ 0 ∧ 60 ≤ s.rd F.SVC_STAT_IDLE_S)) fun s => s.dropLock.lockCrumb 10)

/-- GHEAND_BAD_FRAME: dropped and counted; a valid frame of a CMD that R387 does not list is answered, with a status it does not state
(log 188). -/
def execGheandBadFrame (x : BadFrame) (s : State) : Out :=
  .next (match x.unknown with
    | none => s.whenB (s.svcTakes x.port x.src) State.svcDrop
    | some (cmd, tag) =>
      s.gheand x.port x.src tag cmd fun s =>
        let (v, s) := s.draw
        (v % 5 + 1, [], s))

/-- The eight rates, by index (R386). -/
def baudRates : List Nat := [115200, 230400, 460800, 921600, 1000000, 1500000, 2000000, 3000000]

/-- The difference of two rates. -/
def rateGap (a b : Nat) : Nat := (a - b) + (b - a)

/-- The index of the nearest rate. -/
def nearestRate (rate : Nat) : Nat :=
  (List.range 8).foldl (fun best i =>
    if rateGap rate (baudRates.getD i 0) < rateGap rate (baudRates.getD best 0) then i else best) 0

/-- AUTO_BAUD: the rate of the first byte; a leading 0x00 at 3 Mbaud is taken for 1.5 Mbaud, and the port drops every frame until it
measures again (E10, R428). -/
def execAutoBaud (rate first : Nat) (s : State) : Out :=
  .next (s.whenB (s.aon && !s.boot.bootSel.testBit 0) fun s =>
    let i := nearestRate rate
    let wrong := i = 7 ∧ first = 0
    (s.wr F.SVC_STAT_BAUD (if wrong then 5 else i)).setBoot { s.boot with deaf := decide wrong })

end Sys2Proof.Machine
end

