-- ==== Sys2Proof/Machine/Sky.lean ====
section
/-! DEFINITION. The statistics of the six consistency checks (R243–R249, R253, R254), from the MEAS records of an epoch, the blocks'
gain, the peers' reports, and what the navigation engine knows of the sky. -/

namespace Sys2Proof.Machine

/-! ### The records of an epoch (R243, R245) -/

/-- A record of the epoch with what the navigation engine knows of its signal. -/
structure Sight where
  meas : MeasRec
  sky : SkySignal
  deriving DecidableEq, Repr

/-- The records of an epoch (in DT ms): of signals of the sky, on tracks that firmware has seen report (R237). -/
def State.epochRecs (s : State) (epoch : Nat) : List MeasRec :=
  ((allTracks.filter fun t => decide (look 0 s.nav.scanned t ≠ 0 ∧ s.cx t 0x1CC 16 16 = epoch % 1000)).map s.measRec).filter fun r =>
    decide (r.epoch = epoch) && r.outside

/-- Is a record left out of every statistic of its epoch (R245)? -/
def MeasRec.leftOut (r : MeasRec) : Bool := !r.flags.testBit 0 || r.integ.testBit 10 || r.integ.testBit 11 || decide (r.slip ≠ 0)

/-- Is the carrier phase of a record valid? -/
def MeasRec.phaseValid (r : MeasRec) : Bool := r.flags.testBit 2

/-- The first of those with equal keys. -/
def firstBy {α : Type} (key : α → Nat) (l : List α) : List α :=
  l.foldl (fun acc x => if acc.any fun y => decide (key y = key x) then acc else acc ++ [x]) []

/-- The records that the statistics use; of several tracks of one signal on one port the lowest stands for it (log 173). -/
def State.sights (s : State) (epoch : Nat) (sky : Sky) : List Sight :=
  firstBy (fun v => v.meas.key) (((s.epochRecs epoch).filter fun r => !r.leftOut).filterMap fun r =>
    (sky.signals.find? fun x => decide (x.track = r.track)).map fun x => ⟨r, x⟩)

/-- Has a track's PHASE_VALID come anew since an epoch: is LOCK_TIME, in 0.1 s, shorter than the time since (R236)? -/
def MeasRec.lockedSince (r : MeasRec) (since epoch : Nat) : Bool := decide (r.lock < 65535 ∧ since + (r.lock + 1) * 100 ≤ epoch)

/-- The sights of a signal that stand above the elevation mask. -/
def NavSt.aboveMask (n : NavSt) (v : Sight) : Bool := decide ((n.cfg 3 24 8 : Int) < v.sky.elev)

/-- A statistic at an evaluation: its check, what tells it from the check's others, whether it is the chain, group, offset or clock
form, its value as a fraction in its threshold's unit, whether it exceeds its threshold and is below half of it, what it accuses, and
whether it excludes nothing of that, as of a single peer (R253). -/
structure Stat where
  check : Nat
  key : Nat
  common : Bool := false
  num : Int
  den : Nat
  exceeds : Bool
  below : Bool
  scope : List Scope
  bare : Bool := false
  deriving DecidableEq, Repr

/-- A statistic judged by its size: `num` / `den` against `thr`, in one unit. -/
def Stat.plain (check key : Nat) (num : Int) (den thr : Nat) (scope : List Scope) : Stat :=
  { check, key, num, den, scope, exceeds := decide (thr * den < num.natAbs), below := decide (2 * num.natAbs < thr * den) }

/-! ### Check 1: inter-band code -/

/-- Pairs of signals of one satellite on two band groups, both PHASE_VALID, the lower group first (log 139). -/
def bandPairs (l : List Sight) : List (Sight × Sight) :=
  l.flatMap fun a => (l.filter fun b => decide (a.meas.sat = b.meas.sat ∧ a.meas.group < b.meas.group) && a.meas.phaseValid && b.meas.phaseValid).map
    fun b => (a, b)

/-- (ρ_a − ρ_b) + (Φ_a − Φ_b), in mm. -/
def bandSum (p : Sight × Sight) : Int := (p.1.sky.rho - p.2.sky.rho) + (p.1.sky.phi - p.2.sky.phi)

/-- The baseline of a pair. -/
def NavSt.baseline (n : NavSt) (a b : Nat) : Option Baseline := n.baselines.find? fun x => decide (x.a = a ∧ x.b = b)

/-- Has the baseline been formed: are its first 60 s over (R246)? -/
def Baseline.formed (x : Baseline) (epoch : Nat) : Bool := decide (x.since + 60000 ≤ epoch)

/-- Check 1's statistics, in 0.1 m. -/
def State.stats1 (s : State) (epoch : Nat) (l : List Sight) : List Stat :=
  (bandPairs l).filterMap fun p =>
    match s.nav.baseline p.1.meas.key p.2.meas.key with
    | none => none
    | some x =>
      if x.formed epoch then
        some (Stat.plain 1 (p.1.meas.key + 2 ^ 28 * p.2.meas.key) (x.n * bandSum p - x.sum) (100 * x.n) (s.nav.cfg 1 0 16)
          [.signal p.1.meas.key, .signal p.2.meas.key])
      else none

/-- A baseline after an evaluation's record of one of its signals: a slip, an LO re-lock or a PHASE_VALID that is lost or has come anew
restarts it; of an excluded signal a slip is only remembered (R246, R251, R257). -/
def State.keepBaseline (s : State) (epoch : Nat) (recs : List MeasRec) (x : Baseline) : Option Baseline :=
  let mine := recs.filter fun r => decide (r.key = x.a ∨ r.key = x.b)
  let slip := mine.any fun r => decide (r.slip % 4 ≠ 0) || r.lockedSince x.since epoch
  if mine.any fun r => s.excluded r.track then some (if slip then { x with slipped := true } else x)
  else if slip || x.slipped || mine.any (fun r => !r.phaseValid) then none
  else some x

/-- The mean of a pair forms: its first 60 s count; pairs with an excluded signal start none. -/
def State.formBaseline (s : State) (epoch : Nat) (p : Sight × Sight) : State :=
  let (a, b) := (p.1.meas.key, p.2.meas.key)
  let rest := s.nav.baselines.filter fun x => !decide (x.a = a ∧ x.b = b)
  if s.excluded p.1.meas.track || s.excluded p.2.meas.track then s
  else match s.nav.baseline a b with
    | none => { s with nav := { s.nav with baselines := rest ++ [⟨a, b, epoch, bandSum p, 1, false⟩] } }
    | some x =>
      if x.formed epoch then s
      else { s with nav := { s.nav with baselines := rest ++ [{ x with sum := x.sum + bandSum p, n := x.n + 1 }] } }

/-! ### Check 2: C/N0 against AGC -/

/-- The greatest of the numbers below 2^n that satisfy `p`, where with a number every smaller one does; 0 if none. -/
def greatest (p : Nat → Bool) : Nat → Nat → Nat
  | 0, acc => acc
  | n + 1, acc => greatest p n (if p (acc + 2 ^ n) then acc + 2 ^ n else acc)

/-- What blanking took from C/N0: −10 log10(1 − BLANK16 / 65,536) dB, in whole thousandths (R225; log 139). -/
def blankLoss (b : Nat) : Nat :=
  if b = 0 then 0 else greatest (fun n => decide (10 ^ n * (65536 - b) ^ 10000 ≤ 65536 ^ 10000)) 16 0

/-- The elevation bin of 10 degrees that a learned median belongs to, with its signal ID. -/
def Sight.bin (v : Sight) : Nat := v.meas.id * 16 + (v.sky.elev / 10).toNat

/-- e: normalised C/N0 above its learned median, in thousandths of a dB. -/
def Sight.excess (v : Sight) : Int := (10 * v.meas.cn0 + blankLoss v.meas.blank : Nat) - v.sky.median

/-- Does the learned median of a signal exist: 24 h of alarm-free learning (R247)? -/
def NavSt.hasMedian (n : NavSt) (v : Sight) : Bool := decide (86400000 ≤ look 0 n.learned v.bin)

/-- g of a chain in thousandths of a dB: the gain recorded with the newest block of a stream of the chain, less the learned gain. -/
def State.gainDrop (s : State) (gains : List (Nat × Int)) (l : List Sight) (m : Nat) : Option Int :=
  match gains.find? fun e => decide (e.1 = m), l.find? fun v => decide (v.meas.chain = m) with
  | some e, some v => (s.stream v.meas.stream).newest.map fun b => (500 * b.gain : Nat) - e.2
  | _, _ => none

/-- The signals of a chain that have a learned median. -/
def State.chainSights (s : State) (l : List Sight) (m : Nat) : List Sight := l.filter fun v => decide (v.meas.chain = m) && s.nav.hasMedian v

/-- The sum of e over the signals of a chain. -/
def excessSum (l : List Sight) : Int := (l.map Sight.excess).foldl (· + ·) 0

/-- Check 2's statistics: of each signal in dB, of each chain in 0.5 dB. -/
def State.stats2 (s : State) (gains : List (Nat × Int)) (l : List Sight) : List Stat :=
  (List.range 12).flatMap fun m =>
    match s.gainDrop gains l m with
    | none => []
    | some g =>
      let mine := s.chainSights l m
      let thr : Int := 500 * (s.nav.cfg 1 24 8 : Nat)
      let chain : Stat := { check := 2, key := m, common := true, num := g, den := 500, scope := [.chain m]
                            exceeds := decide (g < -thr ∧ -1000 * (mine.length : Int) < excessSum mine), below := decide (-thr < 2 * g) }
      let each := mine.map fun v =>
        { Stat.plain 2 v.meas.key v.excess 1000 (s.nav.cfg 1 16 8) [.signal v.meas.key] with
          exceeds := decide (1000 * (s.nav.cfg 1 16 8 : Int) < v.excess), below := decide (2 * v.excess < 1000 * (s.nav.cfg 1 16 8 : Int)) }
      if mine = [] then [] else each ++ [chain]

/-- Jamming, by chain: its gain is down by THR_AGC while its mean e is below −3 dB (R254); the gain's fall in 0.5 dB. -/
def State.jammed (s : State) (gains : List (Nat × Int)) (l : List Sight) : List (Nat × Int) :=
  (List.range 12).filterMap fun m =>
    match s.gainDrop gains l m with
    | none => none
    | some g =>
      let mine := s.chainSights l m
      if mine ≠ [] ∧ g < -(500 * (s.nav.cfg 1 24 8 : Int)) ∧ excessSum mine < -3000 * (mine.length : Int) then some (m, Int.tdiv g 500) else none

/-- Alarm-free learning goes on for the IDs and bins of an epoch's signals (R247). -/
def State.learnMedians (s : State) (period : Nat) (l : List Sight) : State :=
  ((l.map Sight.bin).eraseDups).foldl (fun s b =>
    { s with nav := { s.nav with learned := put 0 s.nav.learned b (look 0 s.nav.learned b + period) } }) s

/-! ### Check 3: Doppler -/

/-- The nominal carrier of a signal in Hz (R240); none for LEO ranging, whose carrier you assign. -/
def carrierHz (id : Nat) (fcn : Int) : Option Nat :=
  if id ∈ [0x01, 0x02, 0x03, 0x10, 0x11, 0x21, 0x22, 0x40, 0x41, 0x42, 0x60] then some 1575420000
  else if id ∈ [0x04, 0x05, 0x43, 0x44] then some 1227600000
  else if id ∈ [0x06, 0x07, 0x12, 0x13, 0x23, 0x24, 0x45, 0x46, 0x50, 0x61] then some 1176450000
  else if id ∈ [0x14, 0x15, 0x25] then some 1207140000
  else if id = 0x16 then some 1191795000
  else if id ∈ [0x17, 0x18, 0x47] then some 1278750000
  else if id = 0x20 then some 1561098000
  else if id = 0x26 then some 1268520000
  else if id = 0x30 then some (1602000000 + 562500 * fcn).toNat
  else if id = 0x31 then some (1246000000 + 437500 * fcn).toNat
  else if id ∈ [0x32, 0x33] then some 1202025000
  else none

/-- The product of two vectors. -/
def dot (a b : List Int) : Int := (List.zipWith (· * ·) a b).foldl (· + ·) 0

/-- The part of a vector orthogonal to c, times c's square. -/
def reject (c v : List Int) : List Int := List.zipWith (fun vi ci => dot c c * vi - dot v c * ci) v c

/-- A fit under way: orthogonal columns, and what they leave of y, over a denominator. -/
structure Fit where
  basis : List (List Int) := []
  left : List Int
  den : Int := 1
  deriving DecidableEq, Repr

/-- One more column is fitted. -/
def Fit.add (f : Fit) (c : List Int) : Fit :=
  let c := f.basis.foldl (fun v b => reject b v) c
  if dot c c = 0 then f else { basis := f.basis ++ [c], left := reject c f.left, den := f.den * dot c c }

/-- The carrier of a signal in Hz; of LEO ranging the one you assigned, where firmware configuration has it (R240, R241). -/
def Sight.hz (v : Sight) : Option Nat :=
  match carrierHz v.meas.id v.meas.fcn with
  | some hz => some hz
  | none => if v.meas.id / 16 = 7 ∧ v.sky.carrier ≠ 0 then some v.sky.carrier else none

/-- A signal's range rate beyond what orbit and satellite clock give, in nm/s: −DOPPLER × c / f_RF, less the prediction. -/
def Sight.rateError (v : Sight) (hz : Nat) : Int := -(v.meas.doppler * 299792458 * 1000000) / hz - v.sky.rate * 1000000

/-- The signals that check 3 fits: with ephemeris, above the mask. -/
def State.rateSights (s : State) (l : List Sight) : List (Sight × Int) :=
  (l.filter fun v => v.sky.eph && s.nav.aboveMask v).filterMap fun v => v.hz.map fun hz => (v, v.rateError hz)

/-- Check 3's statistics in mm/s, left by a least-squares fit of clock drift and velocity over all signals; a surveyed position has no velocity to fit
(R246). -/
def State.stats3 (s : State) (l : List Sight) : List Stat :=
  let vs := s.rateSights l
  let clock := vs.map fun _ => (1 : Int)
  let axes := if s.rd F.KYO_STATE_SOL = 2 then []
    else [vs.map fun v => v.1.sky.los.1, vs.map fun v => v.1.sky.los.2.1, vs.map fun v => v.1.sky.los.2.2]
  if vs.length < 5 then []
  else
    let f := (clock :: axes).foldl Fit.add { left := vs.map (·.2) }
    List.zipWith (fun v x => Stat.plain 3 v.1.meas.key x (1000000 * f.den.toNat) (s.nav.cfg 2 0 16) [.signal v.1.meas.key]) vs f.left

/-! ### Check 4: clock jump -/

/-- The limit of check 4 in ps: max(THR_DEV, 4 σ_h). -/
def NavSt.clockLimit (n : NavSt) (c : SkyClock) : Nat := max (1000 * n.cfg 2 16 16) (4 * c.sigma)

/-- d = b − b_pred, in 2^-16 ps, rounded down: b_pred = A + f·(t − t_A) + ½ a·(t − t_A)² (R248). -/
def Anchor.deviation (a : Anchor) (c : SkyClock) (epoch : Nat) : Int :=
  let dt : Int := epoch * 10 ^ 9 - a.epoch
  -- f: 10^-15 × ps; ½ a: 10^-21 / s × ps² = 10^-33 ps
  c.bias * 65536 - a.value - (c.freq * dt * (2 * 10 ^ 18) + c.aging * dt * dt) * 65536 / (2 * 10 ^ 33)

/-- Kyonino's state as check 4 sees it: LOCKED, or HOLDOVER. -/
def State.kyoLocked (s : State) : Bool := s.dtOk && decide (s.rd F.KYO_STATE_STATE = 0)
def State.kyoHolds (s : State) : Bool := s.dtOk && decide (s.rd F.KYO_STATE_STATE = 1 ∨ s.rd F.KYO_STATE_STATE = 2)

/-- Does check 4's alarm stand? -/
def NavSt.clockAlarm (n : NavSt) : Bool := n.checks.any fun c => decide (c.check = 4) && c.inForce

/-- Check 4's statistic, in ns; in release mode it raises no alarm (R247, R252). -/
def State.stats4 (s : State) (epoch : Nat) (clock : Option SkyClock) : List Stat :=
  match clock, s.nav.anchor with
  | some c, some a =>
    let d := a.deviation c epoch
    let release := s.kyoHolds && s.nav.clockAlarm
    let x := { Stat.plain 4 0 d (1000 * 65536) 0 [.all] with common := true }
    let lim := 65536 * s.nav.clockLimit c
    if (s.kyoLocked && decide (s.rd (F.PLL_STAT_STATE 3) = 2) && c.converged) || release then
      [{ x with exceeds := decide (lim < d.natAbs) && !release, below := decide (2 * d.natAbs < lim) }]
    else []
  | _, _ => []

/-- Does check 4 run only its release mode? -/
def State.releaseMode (s : State) : Bool := s.kyoHolds && s.nav.clockAlarm

/-- The anchor before an evaluation: set on the first with Kyonino back in LOCKED, moved with the bias where SOL has changed; what a bias
not known now leaves to do waits for the next (R249). -/
def State.anchorBefore (s : State) (epoch : Nat) (clock : Option SkyClock) : State :=
  let n := s.nav
  let sol := s.rd F.KYO_STATE_SOL
  let anchor := match clock, n.anchor with
    | none, a => a
    | some c, none => if s.kyoLocked then some ⟨c.bias * 65536, epoch * 10 ^ 9⟩ else none
    | some c, some a =>
      if s.kyoLocked && !n.wasLocked then some ⟨c.bias * 65536, epoch * 10 ^ 9⟩
      else if sol ≠ n.lastSol then some { a with value := a.value + (c.bias - n.lastBias.getD c.bias) * 65536 }
      else some a
  match clock with
  | none => s
  | some c => { s with nav := { n with anchor, wasLocked := s.kyoLocked, lastSol := sol, lastBias := some c.bias } }

/-- TAU_ANCHOR in force, in ms. -/
def NavSt.tau (n : NavSt) : Nat := 1000 * max 60 (n.cfg 5 16 16)

/-- The anchor after an evaluation at which no check is in alarm: one step of the first-order filter, whose gain over `dt` lies between
dt / (τ + dt) and dt / τ, and under 1 (R248; log 140). -/
def State.anchorAfter (s : State) (epoch : Nat) (clock : Option SkyClock) : State :=
  match clock, s.nav.anchor with
  | some c, some a =>
    if s.nav.checks.any (·.inForce) || !s.kyoLocked then s
    else
      let (f, s) := s.draw
      let dt := (epoch * 10 ^ 9 - a.epoch).toNat / 10 ^ 9
      let gain := choose (2 ^ 32 * dt / (s.nav.tau + dt) : Nat) (min (2 ^ 32) (2 ^ 32 * dt / s.nav.tau) : Nat) f
      { s with nav := { s.nav with anchor := some ⟨a.value + (c.bias * 65536 - a.value) * gain / 2 ^ 32, epoch * 10 ^ 9⟩ } }
  | _, _ => s

/-! ### Check 5: angle of arrival -/

/-- Do two records form an inter-aerial pair: one signal on two ports of a group, streams of equal RATE and FREQ (R233)? -/
def State.aerialPair (s : State) (a b : MeasRec) : Bool :=
  decide (a.signal = b.signal ∧ a.group = b.group ∧ a.port ≠ b.port ∧
    (s.stream a.stream).cfg.rate = (s.stream b.stream).cfg.rate ∧ (s.stream a.stream).cfg.freq = (s.stream b.stream).cfg.freq)

/-- The inter-aerial pairs of a group: a signal on its lowest port, and on another (log 174). -/
def State.aerialPairs (s : State) (l : List Sight) (g : Nat) : List (Sight × Sight) :=
  let mine := l.filter fun v => decide (v.meas.group = g) && v.meas.phaseValid
  mine.flatMap fun a => (mine.filter fun b =>
    s.aerialPair a.meas b.meas && decide (a.meas.port < b.meas.port) &&
      !(mine.any fun c => s.aerialPair c.meas a.meas && decide (c.meas.port < a.meas.port))).map fun b => (a, b)

/-- The carrier phase of a record less INJ_BIAS PHASE of its chain, in 2^-32 cycle (R233). -/
def State.aerialPhase (s : State) (r : MeasRec) : Int := r.acc - s.rd (F.INJ_BIAS_PHASE r.chain) * 2 ^ 20

/-- The measured difference of a pair, and the predicted one where both are known, in 2^-32 cycle. -/
def State.aerialDiff (s : State) (p : Sight × Sight) : Int := s.aerialPhase p.2.meas - s.aerialPhase p.1.meas
def aerialLead (p : Sight × Sight) : Option Int :=
  match p.1.sky.lead, p.2.sky.lead with
  | some a, some b => some (b - a)
  | _, _ => none

/-- The integer constant of a pair: the one that was fitted, else the nearest integer now (R257). -/
def State.wholeOf (s : State) (p : Sight × Sight) (d : Int) : Int :=
  match s.nav.wholes.find? fun x => decide (x.a = p.1.meas.key ∧ x.b = p.2.meas.key) with
  | some x => x.n
  | none => (d + 2 ^ 31) / 2 ^ 32

/-- The residual r of a pair against its prediction, in 2^-32 cycle. -/
def State.aerialResidual (s : State) (p : Sight × Sight) : Option Int :=
  (aerialLead p).map fun x => let d := s.aerialDiff p - x; d - s.wholeOf p d * 2 ^ 32

/-- n² times the variance of n numbers. -/
def variance (l : List Int) : Nat :=
  let t := l.foldl (· + ·) 0
  ((l.length : Int) * dot l l - t * t).toNat

/-- n² times the square of the circular spread of n differences: about the point of the circle where that is least (log 174). -/
def circularVariance (l : List Int) : Nat :=
  (l.map fun c => variance (l.map fun x => (x - c) % 2 ^ 32)).foldl min (variance (l.map (· % 2 ^ 32)))

/-- The greatest by `f` of the pairs of each port of a group: each aerial's own baseline; with how many pairs it has. -/
def worstPort (f : List (Sight × Sight) → Nat) (l : List (Sight × Sight)) : Nat × Nat :=
  (List.range 4).foldl (fun (m : Nat × Nat) port =>
    let mine := l.filter fun p => decide (p.2.meas.port = port)
    let n := mine.length
    if n = 0 then m else if m.2 = 0 ∨ m.1 * n ^ 2 < f mine * m.2 ^ 2 then (f mine, n) else m) (0, 0)

/-- Is check 5 available for a group: two ports with pairs, five satellites above the mask, half a cycle RMS of predicted spread (R247)? -/
def State.aoaAvail (s : State) (l : List Sight) (g : Nat) : Bool :=
  let pairs := s.aerialPairs l g
  let above := (l.filter fun v => decide (v.meas.group = g)).filter s.nav.aboveMask
  let (v, n) := worstPort (fun ps => variance (ps.filterMap aerialLead)) (pairs.filter fun p => (aerialLead p).isSome)
  decide (pairs ≠ [] ∧ 5 ≤ ((above.map (·.meas.sat)).eraseDups).length ∧ (n * 2 ^ 31) ^ 2 ≤ v)

/-- Check 5's statistics, in 1/256 cycle: of each pair its residual r; of the group the spread S, judged below half by the RMS residual R
(log 139, 174). -/
def State.stats5 (s : State) (l : List Sight) : List Stat :=
  ((List.range 3).filter (s.aoaAvail l)).flatMap fun g =>
    let pairs := s.aerialPairs l g
    let thr (lo : Nat) : Nat := s.nav.cfg 3 lo 8 * 2 ^ 24
    let rs := pairs.filterMap s.aerialResidual
    let sq := (dot rs rs).toNat
    let fits := decide (sq ≤ rs.length * thr 8 ^ 2)
    let each := pairs.filterMap fun p => (s.aerialResidual p).map fun r =>
      let x := Stat.plain 5 (p.1.meas.key + 2 ^ 28 * p.2.meas.key) r (2 ^ 24) (s.nav.cfg 3 16 8) [.signal p.1.meas.key, .signal p.2.meas.key]
      { x with exceeds := x.exceeds && fits }
    let (v, n) := worstPort (fun ps => circularVariance (ps.map s.aerialDiff)) pairs
    each ++ [{ check := 5, key := g, common := true, num := (greatest (fun k => decide (k ^ 2 ≤ v)) 48 0 : Nat), den := n * 2 ^ 24
               scope := [.group g], exceeds := decide (v < (n * thr 0) ^ 2) && !fits, below := decide (4 * sq < rs.length * thr 8 ^ 2) }]

/-- The integer constants after an epoch's records: a slip, an LO re-lock or a new PHASE_VALID ends a pair's; a pair without one is
fitted (R233, R246, R257). -/
def State.refit (s : State) (epoch : Nat) (recs : List MeasRec) (l : List Sight) : State :=
  let kept := s.nav.wholes.filter fun x =>
    !(recs.any fun r => decide (r.key = x.a ∨ r.key = x.b) && (decide (r.slip ≠ 0) || !r.phaseValid || r.lockedSince x.since epoch))
  let pairs := (List.range 3).flatMap (s.aerialPairs l)
  let fresh := pairs.filterMap fun p => (aerialLead p).bind fun x =>
    if kept.any fun w => decide (w.a = p.1.meas.key ∧ w.b = p.2.meas.key) then none
    else some ⟨p.1.meas.key, p.2.meas.key, epoch, (s.aerialDiff p - x + 2 ^ 31) / 2 ^ 32⟩
  { s with nav := { s.nav with wholes := kept ++ fresh } }

/-! ### Check 6: peer common view -/

/-- Signal ID, SV and residual of the satellites of a peer's report (R306). -/
def reportSats (bs : List Nat) : List (Nat × Nat × Int) :=
  (List.range (min 64 (bs.getD 28 0))).map fun k =>
    let e := bs.drop (32 + 8 * k)
    (e.getD 0 0, leNum ((e.drop 2).take 2), signed 32 (leNum ((e.drop 4).take 4)))

/-- A number joins a rising list. -/
def insertSorted (x : Int) : List Int → List Int
  | [] => [x]
  | y :: ys => if x ≤ y then x :: y :: ys else y :: insertSorted x ys

/-- Twice the median of a list. -/
def twiceMedian (l : List Int) : Int :=
  let l := l.foldr insertSorted []
  l.getD ((l.length - 1) / 2) 0 + l.getD (l.length / 2) 0

/-- A peer at an epoch: twice the offset o, and twice c_i − o of each signal shared with it, in 0.1 ns; the offset that PTP measures. -/
structure PeerView where
  off2 : Int
  each2 : List (MeasRec × Int)
  ptp : Option Int
  deriving DecidableEq, Repr

/-- The satellites above 15 degrees at both ends. -/
def sharedHigh (l : List Sight) (shared : List (Nat × Nat)) (p : SkyPeer) : List Nat :=
  ((l.filter fun v => decide (15 < v.sky.elev) && shared.contains (v.meas.id, v.meas.sv) && p.high.contains (v.meas.id, v.meas.sv)).map
    (·.meas.sat)).eraseDups

/-- The view of a peer that has reported for the epoch, from within 1,000 km, sharing four high satellites; the lowest port of a signal
stands for it (R247). -/
def State.peerView (s : State) (epoch : Nat) (l : List Sight) (p : SkyPeer) : Option PeerView :=
  match s.net.peers.find? fun x => decide (x.node = p.node) with
  | none => none
  | some x =>
    let sats := reportSats x.report
    let mine := l.filterMap fun v => match v.sky.res, sats.find? fun e => decide (e.1 = v.meas.id ∧ e.2.1 = v.meas.sv) with
      | some r, some e => some (v.meas, r - e.2.2)
      | _, _ => none
    let mine := mine.filter fun e => !(mine.any fun w => decide (w.1.signal = e.1.signal ∧ w.1.port < e.1.port))
    let o := twiceMedian (mine.map (·.2))
    if reportEpoch x.report = epoch ∧ x.dist ≤ 100000 ^ 2 ∧ mine ≠ [] ∧ 4 ≤ (sharedHigh l (sats.map fun e => (e.1, e.2.1)) p).length then
      some { off2 := o, each2 := mine.map fun e => (e.1, 2 * e.2 - o), ptp := p.ptp }
    else none

/-- One figure as the peers see it, in 1/20 ns: of one peer its own value; of more, the value of a peer that another agrees with beyond the
threshold (R253), else the largest. -/
def peerStat (key : Nat) (common : Bool) (single : Bool) (thr : Nat) (scope : List Scope) (xs : List Int) : List Stat :=
  let lim := 20 * thr
  let hit (x : Int) : Bool := decide (lim < x.natAbs)
  let agreed := if single then xs.filter hit
    else xs.zipIdx.filterMap fun e => if hit e.1 && (xs.zipIdx.any fun w =>
      decide (w.2 ≠ e.2) && hit w.1 && decide ((w.1 - e.1).natAbs ≤ lim)) then some e.1 else none
  let worst := xs.foldl (fun m x => if m.natAbs < x.natAbs then x else m) 0
  if xs = [] then []
  else [{ check := 6, key, common, num := agreed.headD worst, den := 20, exceeds := agreed ≠ []
          below := decide (2 * worst.natAbs < lim), scope, bare := single }]

/-- Check 6's statistics, in ns; with a NODE_ID conflict it is unavailable (R307). -/
def State.stats6 (s : State) (epoch : Nat) (peers : List SkyPeer) (l : List Sight) : List Stat :=
  let views := if s.net.conflict then [] else (firstBy (·.node) peers).filterMap (s.peerView epoch l)
  let single := decide (views.length = 1)
  let signals := ((views.flatMap (·.each2)).map fun e => (e.1.signal, e.1.sat)).eraseDups
  signals.flatMap (fun g => peerStat g.1 false single (s.nav.cfg 4 0 16) [.satellite g.2]
    (views.filterMap fun v => (v.each2.find? fun e => decide (e.1.signal = g.1)).map (·.2))) ++
  peerStat 0 true single (s.nav.cfg 4 16 16) [.all] (views.filterMap fun v => v.ptp.map fun p => v.off2 - 2 * p)

/-- Every statistic that is available at an epoch. -/
def State.stats (s : State) (epoch : Nat) (sky : Sky) : List Stat :=
  let l := s.sights epoch sky
  s.stats1 epoch l ++ s.stats2 sky.gains l ++ s.stats3 l ++ s.stats4 epoch sky.clock ++ s.stats5 l ++
    s.stats6 epoch sky.peers l

end Sys2Proof.Machine
end

