-- ==== Sys2Proof/Machine/Integrity.lean ====
section
/-! DEFINITION. The evaluation of the consistency checks: persistence, alarms, exclusions and their release, the alarm log, the
protection levels and the status words (R243, R250–R252, R254–R259). -/

namespace Sys2Proof.Machine

/-- K: evaluations above the threshold that declare an alarm, for an epoch period in ms (R243). -/
def persistence (period : Nat) : Nat := (500 + period - 1) / max 1 period

/-- What is remembered of a statistic. -/
def NavSt.checkOf (n : NavSt) (i : Stat) : CheckSt :=
  (n.checks.find? fun c => decide (c.check = i.check ∧ c.key = i.key ∧ c.common = i.common)).getD
    { check := i.check, key := i.key, common := i.common }

def State.setCheck (s : State) (x : CheckSt) : State :=
  let rest := s.nav.checks.filter fun c => !decide (c.check = x.check ∧ c.key = x.key ∧ c.common = x.common)
  { s with nav := { s.nav with checks := if x.run = 0 ∧ ¬ x.inForce then rest else rest ++ [x] } }

/-- The enabled tracks whose signal an exclusion covers. -/
def State.coveredTracks (s : State) (scope : List Scope) : List Nat :=
  allTracks.filter fun t => s.trkEn t && (s.measRec t).outside && scope.any (Scope.covers (s.measRec t))

/-- How many signals a list of tracks measures. -/
def State.signals (s : State) (tracks : List Nat) : Nat := ((tracks.map fun t => (s.measRec t).signal).eraseDups).length

/-- Firmware writes its copy of the alarm log, and after it its index (R258, R259). -/
def State.showLog (s : State) : State := (s.stWords (integBase + 0x200) s.nav.alarms).setInteg 0x120 s.nav.logAt

/-- An alarm-log entry: check ID (7 jamming), raised or cleared, signals excluded, epoch in DT ms, statistic at declaration (R259). -/
def State.alarmLog (s : State) (id : Nat) (raised : Bool) (n epoch : Nat) (stat : Int) : State :=
  let i := s.nav.logAt
  let entry := [BitVec.ofNat 32 (id + (if raised then 8 else 0) + 65536 * min 65535 n), BitVec.ofNat 32 (epoch / 1000),
    BitVec.ofNat 32 (epoch % 1000 * 1000000), BitVec.ofInt 32 stat]
  let alarms := s.nav.alarms.take (4 * i) ++ entry ++ s.nav.alarms.drop (4 * i + 4)
  State.showLog { s with nav := { s.nav with alarms, logAt := (i + 1) % 16 } }

/-- The statistic in its threshold's units, toward zero (log 17). -/
def Stat.value (i : Stat) : Int := Int.tdiv i.num (max 1 i.den)

/-- The fault source of the checks rises with the first alarm; an alarm of which FLT writes no crumb, a further one or with the source
masked, has one all the same (R250). -/
def State.alarmCrumb (s : State) : State :=
  let risen := decide (look 0 s.safety.level 51 = 1)
  let s := s.raise 51
  if risen ∨ s.fltClass 51 = 3 then
    s.addCrumb 0x01 51 0 [BitVec.ofNat 32 (s.fltClass 51), BitVec.ofNat 32 (look 0 s.safety.count 51), 0, 0]
  else s

/-- Excluded tracks get an aiding set with VALID = 0, where exclusions remove signals (R250, R255). -/
def State.unaid (s : State) (tracks : List Nat) : State :=
  if s.nav.cfg 0 8 1 = 1 ∧ ¬ s.on F.TRK_SCRUB_CLEARING then tracks.foldl (fun s t => s.writeAiding t []) s else s

/-- The tracks that an alarm excludes. -/
def State.excludedBy (s : State) (bare : Bool) (scope : List Scope) : List Nat := if bare then [] else s.coveredTracks scope

/-- An alarm is declared (R250): the exclusion, the log, the crumb, and no more aiding for the excluded tracks. -/
def State.declare (s : State) (x : CheckSt) (i : Stat) (epoch : Nat) : State :=
  let s := s.setCheck { x with run := 0, inForce := true, below := none, scope := i.scope, bare := i.bare, stat := i.value }
  let tracks := s.excludedBy i.bare i.scope
  ((s.alarmLog i.check true (s.signals tracks) epoch i.value).alarmCrumb).unaid tracks

/-- REL_S in force, in ms. -/
def NavSt.release (n : NavSt) : Nat := 1000 * n.cfg 5 0 8

/-- An alarm ends, and with it what it excludes; its entry shows the statistic at its declaration (R259). -/
def State.clearAlarm (s : State) (x : CheckSt) (epoch : Nat) : State :=
  (s.setCheck { x with inForce := false, run := 0, below := none, scope := [] }).alarmLog x.check false
    (s.signals (s.excludedBy x.bare x.scope)) epoch x.stat

/-- One statistic at an evaluation: an alarm in force ends once it has stayed below half its threshold for REL_S; another is declared when
its statistic has exceeded the threshold at K consecutive evaluations (R243, R251, R252). -/
def State.evalStat (s : State) (period epoch : Nat) (i : Stat) : State :=
  let x := s.nav.checkOf i
  if x.inForce then
    if ¬ i.below then s.setCheck { x with below := none }
    else if s.nav.release ≤ epoch - x.below.getD epoch then s.clearAlarm x epoch
    else s.setCheck { x with below := some (x.below.getD epoch) }
  else if ¬ i.exceeds then s.setCheck { x with run := 0 }
  else if persistence period ≤ x.run + 1 then s.declare x i epoch
  else s.setCheck { x with run := x.run + 1 }

/-- Checks without a statistic at this evaluation: their runs are abandoned, their exclusions stay (R247, R257). -/
def State.dropRuns (s : State) (stats : List Stat) : State :=
  let seen (c : CheckSt) : Bool := stats.any fun i => decide (c.check = i.check ∧ c.key = i.key ∧ c.common = i.common)
  let checks := (s.nav.checks.map fun c => if seen c then c else { c with run := 0, below := none }).filter fun c =>
    c.inForce || decide (c.run ≠ 0)
  { s with nav := { s.nav with checks } }

/-- Jamming of a chain is reported where it begins and ends (R254). -/
def State.jamChain (hits : List (Nat × Int)) (epoch : Nat) (s : State) (m : Nat) : State :=
  match hits.find? fun e => decide (e.1 = m), s.nav.jam.find? fun e => decide (e.1 = m) with
  | some e, none => ({ s with nav := { s.nav with jam := s.nav.jam ++ [e] } } : State).alarmLog 7 true 0 epoch e.2
  | none, some e => ({ s with nav := { s.nav with jam := s.nav.jam.filter (·.1 ≠ m) } } : State).alarmLog 7 false 0 epoch e.2
  | _, _ => s
def State.jamming (s : State) (hits : List (Nat × Int)) (epoch : Nat) : State := (List.range 12).foldl (State.jamChain hits epoch) s

/-! ### What is kept from epoch to epoch -/

/-- The baselines after an epoch's records (R246, R251, R257). -/
def State.baselinesAfter (s : State) (epoch : Nat) (recs : List MeasRec) (l : List Sight) : State :=
  let s : State := { s with nav := { s.nav with baselines := s.nav.baselines.filterMap (s.keepBaseline epoch recs) } }
  (bandPairs l).foldl (fun s p => s.formBaseline epoch p) s

/-- Signals that slip while excluded; one readmitted after a slip starts the learning of its ID and bin again (R251). -/
def State.slipsAfter (s : State) (recs : List MeasRec) (sky : Sky) : State :=
  recs.foldl (fun s r =>
    if s.excluded r.track then
      if r.slip.testBit 0 && !s.nav.slipped.contains r.key then { s with nav := { s.nav with slipped := s.nav.slipped ++ [r.key] } } else s
    else if s.nav.slipped.contains r.key then
      let bin := (sky.signals.find? fun x => decide (x.track = r.track)).map fun x => (⟨r, x⟩ : Sight).bin
      { s with nav := { s.nav with
        slipped := s.nav.slipped.filter (· ≠ r.key)
        learned := match bin with
          | some b => put 0 s.nav.learned b 0
          | none => s.nav.learned } }
    else s) s

/-- Learning goes on while no check is in alarm (R247). -/
def State.learnAfter (s : State) (period : Nat) (l : List Sight) : State :=
  if s.nav.checks.any (·.inForce) then s else s.learnMedians period l

/-! ### The solution, the protection levels and the status words -/

/-- A protection level: 5.33 σ + B, from thousandths of its unit, rounded up and held at 65,535 (R256, log 17). -/
def protectionLevel (l : Nat × Nat) : Nat := min 65535 ((533 * l.1 + 100 * l.2 + 99999) / 100000)

/-- Is a check enabled? -/
def NavSt.checkOn (n : NavSt) (c : Nat) : Bool := (n.cfg 0 0 6).testBit (c - 1)

/-- The thresholds in force, each with its check: in 0.1 m, dB, 0.5 dB, mm/s, ps, three in 1/256 cycle, and two in ns. -/
def NavSt.limits (n : NavSt) (clock : Option SkyClock) : List (Nat × Nat) :=
  [(1, n.cfg 1 0 16), (2, n.cfg 1 16 8), (2, n.cfg 1 24 8), (3, n.cfg 2 0 16), (4, (clock.map n.clockLimit).getD (1000 * n.cfg 2 16 16)),
    (5, n.cfg 3 0 8), (5, n.cfg 3 8 8), (5, n.cfg 3 16 8), (6, n.cfg 4 0 16), (6, n.cfg 4 16 16)]

/-- Is a check available at an evaluation (R247)? Check 4 is not in its release mode. -/
def State.available (s : State) (stats : List Stat) (c : Nat) : Bool :=
  !(decide (c = 4) && s.kyoHolds) && stats.any fun i => decide (i.check = c)

/-- σ and B of a level in thousandths: B is the most that a fault just below a threshold of an enabled, available check does through the
geometry; of time, check 4's limit itself (R256; log 175). A level without a solution is out of range. -/
def State.levelOf (s : State) (stats : List Stat) (sky : Sky) (k : Nat) : Nat × Nat :=
  match sky.levels[k]? with
  | none => (0, 65535000)
  | some l =>
    let reach := (s.nav.limits sky.clock).zipIdx.map fun e =>
      if ¬ (s.nav.checkOn e.1.1 ∧ s.available stats e.1.1) then 0
      else if k = 0 ∧ e.1.1 = 4 then e.1.2
      else e.1.2 * l.2.getD e.2 0
    (l.1, reach.foldl max 0)

/-- A common-mode alarm is in force. -/
def State.commonAlarm (s : State) : Bool := s.nav.checks.any fun c => c.inForce && c.common

/-- Is the time integrity alarm bit set (R250, R256)? -/
def State.timeAlarm (s : State) : Bool := s.commonAlarm || decide (s.nav.cfg 6 0 16 < s.integ 0x108 0 16)

/-- The bits of a list of checks. -/
def checkBits (p : Nat → Bool) : Nat := ((List.range 6).map fun c => if p (c + 1) then 2 ^ c else 0).foldl (· + ·) 0

/-- May a record enter a solution: of a LEO signal only with orbit data from firmware configuration (R241)? -/
def MeasRec.orbits (r : MeasRec) (sky : Sky) : Bool :=
  decide (r.id / 16 ≠ 7) || sky.signals.any fun x => decide (x.track = r.track) && x.eph

/-- Satellites whose records may enter the time solution: not left out, not kept out; with AUTH_ONLY, authenticated (R241, R250, R255). -/
def State.solvable (s : State) (epoch : Nat) (sky : Sky) : Nat :=
  ((((s.epochRecs epoch).filter fun r => !r.leftOut && r.orbits sky && !s.barred r.track &&
    (decide (s.nav.cfg 0 9 1 = 0) || decide (look 0 s.nav.osnma r.track = 1))).map (·.sat)).eraseDups).length

/-- The time solution is NONE: too few satellites, or a common-mode alarm, whatever SOL is (R255). -/
def State.solve (s : State) (epoch : Nat) (sky : Sky) : State :=
  let nsv := min sky.nsv (s.solvable epoch sky)
  let sol := s.rd F.KYO_STATE_SOL
  let none_ := s.commonAlarm || decide ((sol = 1 ∨ sol = 2) ∧ nsv < (if sol = 2 then 1 else 4))
  let s : State := { s with nav := { s.nav with noSolution := none_, nsv := nsv } }
  if none_ ∧ s.dtOk then s.loseSource else s

/-- What is in force and what was available show in the status words, the alarm log and the fault source, whatever stood there (R247, R250,
R255, R256, R258). -/
def State.showInteg (s : State) (avail : List Stat) (sky : Sky) : State :=
  let s := (List.range 3).foldl (fun s k => s.setInteg (0x108 + 4 * k) (protectionLevel (s.levelOf avail sky k))) s
  let alarms := checkBits fun c => s.nav.checks.any fun x => x.inForce && decide (x.check = c)
  let excl := s.signals (allTracks.filter fun t => s.trkEn t && (s.measRec t).outside && s.excluded t)
  let eval := s.nav.evals + 1
  let s : State := { s with nav := { s.nav with evals := eval % 65536 } }
  let s := s.showLog.setInteg 0x100 (alarms + (if s.nav.jam ≠ [] then 64 else 0) + (if s.timeAlarm then 128 else 0) + 256 * min 255 excl +
    65536 * (eval % 65536))
  let s := s.setInteg 0x104 (checkBits (s.available avail))
  if alarms = 0 then s.lower 51 else s

/-- OSNMA results by track: 1 authenticated, 2 failed; a signal that fails is excluded, and aided no more (R250, R255). -/
def State.authenticate (s : State) (osnma : List (Nat × Bool)) : State :=
  osnma.foldl (fun s e =>
    let failed := !e.2 && decide (look 0 s.nav.osnma e.1 ≠ 2)
    let s : State := { s with nav := { s.nav with osnma := put 0 s.nav.osnma e.1 (if e.2 then 1 else 2) } }
    if failed ∧ e.1 < 4096 then s.unaid [e.1] else s) s

/-- The evaluation of an epoch (R243). -/
def State.evaluate (s : State) (epoch period : Nat) (sky : Sky) : State :=
  let s := ((s.adoptConfig.authenticate sky.osnma).anchorBefore epoch sky.clock)
  let recs := s.epochRecs epoch
  let l := s.sights epoch sky
  let avail := s.stats epoch sky
  let stats := avail.filter fun i => s.nav.checkOn i.check
  let s := (s.dropRuns stats).jamming (s.jammed sky.gains l) epoch
  let s := stats.foldl (fun s i => s.evalStat period epoch i) s
  let s := (((s.baselinesAfter epoch recs l).refit epoch recs l).slipsAfter recs sky).learnAfter period l
  let s := s.anchorAfter epoch sky.clock
  (s.showInteg avail sky).solve epoch sky

/-- INTEGRITY_EVALUATION: the evaluation of one epoch (R243), at a DT second and ms that is a multiple of the epoch period, once. -/
def execIntegrityEvaluation (sec ms period : Nat) (view : SkyView) (gains : List (Nat × Int)) (nsv : Nat) (osnma : List (Nat × Bool))
    (levels : List (Nat × List Nat)) (s : State) : Out :=
  let epoch := sec * 1000 + ms
  .next (s.whenB (s.firmware && s.dtOk && decide (period ∈ periods ∧ ms < 1000 ∧ epoch % period = 0 ∧ s.nav.lastEpoch ≤ epoch ∧
      epoch * 1000000 ≤ inNs s.dtNow)) fun s =>
    State.evaluate { s with nav := { s.nav with lastEpoch := epoch + 1, period } } epoch period { toSkyView := view, gains, nsv, osnma, levels })

end Sys2Proof.Machine
end

