-- ==== Sys2Proof/Machine/Meas.lean ====
section
/-! DEFINITION. The records that leave the device: MEAS (R236, R237, R242) and TIMEMSG (R238). -/

namespace Sys2Proof.Machine

/-! ### MEAS records -/

/-- The ADC that feeds a track's stream. -/
def State.trkAdc (s : State) (t : Nat) : Nat := (s.stream (s.trkStream t)).cfg.adc

/-- Re-locks and calibrations so far of the LO that a track's group uses. -/
def State.loMovesOf (s : State) (t : Nat) : Nat := look 0 s.rf.loMoves (s.trkAdc t % 3)

/-- INTEG as firmware fills it: bits [0]–[6], [8] and [9]; the program's bits [10] and [11] stay (R236, R250, R255). -/
def State.integBits (s : State) (t old : Nat) : Nat :=
  let r := s.measRec t
  let checks := checkBits fun c => s.nav.checks.any fun x => decide (x.check = c) && x.accuses r
  let o := look 0 s.nav.osnma t
  (if s.excluded t then 1 else 0) + 2 * checks + (if o = 1 then 256 else if o = 2 then 512 else 0) + (old / 1024 % 4) * 1024

/-- SLIP and LO_RELOCK where the LO has moved since the track's last record (R233, R242; log 137). -/
def State.slipBits (s : State) (t : Nat) : Nat := if s.loMovesOf t = (s.trk t).loSeen then 0 else 3

/-- A record's byte `n` with other contents. -/
def putByte (r : List Nat) (n v : Nat) : List Nat := r.take n ++ [v] ++ r.drop (n + 1)

/-- A record as framed: INTEG filled; a moved LO shown; VALID = 0 in safe state (R352); on data components half a cycle resolved where
firmware has found the preamble. -/
def State.framed (s : State) (t : Nat) (half : List (Nat × Bool)) (r : List Nat) : List Nat :=
  let r := r.take 0x34 ++ leBytes 2 (s.integBits t (leNum ((r.drop 0x34).take 2))) ++ r.drop 0x36
  let r := putByte r 0x30 (r.getD 0x30 0 ||| s.slipBits t)
  let r := if s.on F.OCQ_STAT_SAFE then putByte r 7 (r.getD 7 0 / 2 * 2) else r
  match half.find? fun e => decide (e.1 = t) with
  | none => r
  | some (_, inverted) =>
    let acc := leNum ((r.drop 0x1C).take 12) + (if inverted then 2 ^ 31 else 0)
    let r := putByte r 7 (r.getD 7 0 ||| 8)
    r.take 0x1C ++ leBytes 12 acc ++ r.drop 0x28

/-- A record of a track is framed, and with it what its LO did shows. -/
def State.frameRecord (s : State) (t : Nat) (half : List (Nat × Bool)) (r : List Nat) : State :=
  let bytes := s.framed t half r
  let s : State := { s with nav := { s.nav with slipIn := put 0 s.nav.slipIn t (s.slipBits t) } }
  let x := s.trk t
  (s.setTrk t { x with loSeen := s.loMovesOf t, since := { missing := x.since.missing } }).sendFrame 0x20 bytes

/-- A new record of a track: k111 has changed since the last scan; of a track that has stopped, once more (R237, R242). -/
def State.scanTrack (s : State) (half : List (Nat × Bool)) (t : Nat) : State :=
  let n := s.ld32 (ctxAddr t + 0x1BC)
  if ¬ s.trkEn t ∧ ¬ (s.trk t).unscanned then s
  else
    let fresh := decide (look 0 s.nav.scanned t ≠ n)
    let s := s.whenB (s.trk t).unscanned fun s => s.setTrk t { s.trk t with unscanned := false }
    if ¬ fresh then s
    else
      let s : State := { s with nav := { s.nav with scanned := put 0 s.nav.scanned t n } }
      s.frameRecord t half (s.ldBytes (ctxAddr t + 0x1C0) 64)

/-! ### COAST records (R237) -/

/-- A fraction rounded down or up, as the free value says. -/
def roundFree (num : Int) (den f : Nat) : Int := choose (num / den) (-(-num / den)) f

/-- Units of a sample count: 2^-72 / 10^6 of a sample. -/
def sampleUnit : Nat := 1000000 * 2 ^ 72

/-- Samples from DT `at_` (2^-32 ns) to the first sample of a track's SEQ_NEXT, in units: R235's `back`, from the newest block's tag. -/
def State.coastBack (s : State) (t : Nat) (b : Block) (at_ : Nat) : Int :=
  let n := samplesOf b.cfg.rate
  let rho := signed 32 (s.cx t 0x170 0 32)
  (-s.aheadOf t b.seq) * n * sampleUnit - ((at_ : Int) - b.tag) * n * (2 ^ 40 + rho)

/-- Twice the LO's denominator, which `beat` counts in. -/
def State.loDen (s : State) (t : Nat) : Nat := 2 * max 1 (s.rd (F.PLL_NDEN_DEN (s.trkAdc t % 3)))

/-- LO − f_RF of a track's signal, in 2^-32 Hz over `loDen`: of an INJ calibration −f_off of its group, 20 to 110 MHz (R91, R240); of a LEO
signal the carrier is firmware configuration, and free (log 55). -/
def State.beat (s : State) (t : Nat) : Option Int :=
  let r := s.measRec t
  let g := s.trkAdc t % 3
  let dco := s.refKhz (s.pll g).input * 1000 * (s.rd (F.PLL_NINT_INT g) * (s.loDen t / 2) + s.rd (F.PLL_NNUM_NUM g))
  if r.id = 0xF0 then
    some (-(max (20000000 * 2 ^ 32) (min (110000000 * 2 ^ 32) (s.rd (F.INJ_GRP_OFF_FOFF g) * 245760000)) * s.loDen t : Nat))
  else (carrierHz r.id r.fcn).map fun hz => ((dco : Int) - hz * s.loDen t) * 2 ^ 32

/-- DOPPLER in mHz over its denominator: 1,000 × (CARR_RATE × f_s / 2^32 + f_CHZ + LO − f_RF) (R236). -/
def State.dopplerOf (s : State) (t : Nat) (beat : Int) : Int × Nat :=
  let x := (s.stream (s.trkStream t)).cfg
  let freq : Int := signed 32 (s.cx t 0x44 0 32) * (samplesOf x.rate * 1000) + x.freq.toNat * 245760000
  (1000 * (freq * s.loDen t + beat), 2 ^ 32 * s.loDen t)

/-- The code and carrier words of a COAST record, bytes 0x10–0x2B: the NCOs at the epoch; free where no block gives the time. -/
def State.coastPhases (s : State) (t at_ : Nat) (free : List Nat) : List Nat :=
  match (s.stream (s.trkStream t)).blocks.head? with
  | none => leBytes 28 (free.getD 0 0)
  | some b =>
    let back := s.coastBack t b at_
    let len : Int := max 1 (s.cx t 0x84 0 24) * 2 ^ 32
    let code : Int := (s.cx t 0x54 0 24 * 2 ^ 32 + s.cx t 0x50 0 32 : Nat)
    let rate : Int := (s.cx t 0x5C 0 2 * 2 ^ 32 + s.cx t 0x58 0 32 : Nat)
    let code := roundFree (code * sampleUnit - back * rate) sampleUnit (free.getD 1 0)
    let acc : Int := signed 64 (s.cx t 0x48 0 32 + 2 ^ 32 * s.cx t 0x4C 0 32) * 2 ^ 32 + s.cx t 0x40 0 32
    let acc := roundFree (acc * sampleUnit - back * signed 32 (s.cx t 0x44 0 32)) sampleUnit (free.getD 2 0)
    let doppler := match s.beat t with
      | some f => roundFree (s.dopplerOf t f).1 (s.dopplerOf t f).2 (free.getD 3 0)
      | none => free.getD 3 0
    leBytes 4 (code % len % 2 ^ 32).toNat ++ leBytes 4 (code % len / 2 ^ 32).toNat ++
      leBytes 4 (unsigned 32 (s.cx t 0x60 0 32 + code / len)) ++ leBytes 12 (unsigned 96 acc) ++ leBytes 4 (unsigned 32 doppler)

/-- The record that firmware builds for a COAST track at an epoch in DT ms: STATE is COAST and VALID 0; what is not in the context is free
(log 55). -/
def State.coastRecord (s : State) (t epoch : Nat) (free : List Nat) : List Nat :=
  let r := s.measRec t
  let m := s.trkAdc t
  let w (k : Nat) : Nat := free.getD k 0
  let c := (s.trk t).since
  let cal := if r.id = 0xF0 then 16 else 0
  leBytes 4 (t + 2 ^ 12 * s.trkStream t + 2 ^ 17 * 5 + 2 ^ 20 * (m / 3) + 2 ^ 22 * (m % 3) + 2 ^ 24 * r.id) ++ leBytes 2 r.sv ++
    [unsigned 8 r.fcn, w 4 % 8 * 2 + cal] ++ leBytes 6 (epoch / 1000) ++ leBytes 2 (epoch % 1000) ++
    s.coastPhases t (epoch * 1000000 * 2 ^ 32) free ++ leBytes 4 (w 5) ++ [w 6 % 8 + (if c.gap then 8 else 0), w 6 / 16 % 256] ++
    leBytes 2 (w 7) ++ leBytes 2 (w 8) ++ [255 * c.dumps / max 1 c.blocks, s.trkStack t] ++
    leBytes 2 (if c.dumps = 0 then w 9 else c.blank / c.dumps) ++ leBytes 4 (w 10) ++ [0, 0]

/-- The last epoch of a COAST track that has passed, where firmware has framed no record of it. -/
def State.coastDue (s : State) (t : Nat) : Option Nat :=
  let e := inNs s.dtNow / 1000000 / max 1 s.nav.period * s.nav.period
  if s.dtOk && s.trkEn t && decide (s.trkState t = 5 ∧ look 0 s.nav.coasted t ≤ e ∧ (s.measRec t).epoch ≠ e) then some e
  else none

/-- A COAST track at its epoch. -/
def State.scanCoast (s : State) (coast : List (Nat × List Nat)) (t : Nat) : State :=
  match s.coastDue t with
  | none => s
  | some e =>
    let s : State := { s with nav := { s.nav with coasted := put 0 s.nav.coasted t (e + 1) } }
    s.frameRecord t [] (s.coastRecord t e (look [] coast t))

/-- MEAS_SCAN: new records are framed in track order, and those that firmware builds for COAST tracks. `half`: data tracks whose preamble
firmware has found, and whether it was inverted; `coast`: by track, what a COAST record holds that is not in the context (log 55). -/
def execMeasScan (half : List (Nat × Bool)) (coast : List (Nat × List Nat)) (s : State) : Out :=
  .next (s.whenB s.firmware fun s => allTracks.foldl (fun s t => (s.scanTrack half t).scanCoast coast t) s)

/-! ### TIMEMSG (R238) -/

/-- The edge a TIMEMSG describes: its DT in ns; its quantisation error, where it was placed; whether it is TP0's, and squelched. -/
structure Edge where
  time : Nat
  qerr : Option Int := none
  pulse : Bool := false
  squelched : Bool := false
  deriving DecidableEq, Repr

/-- Does TP0 put out edges of its own: enabled, calibrated, not taken by Ocquel? -/
def State.tp0Runs (s : State) : Bool := s.time.calibrated && s.on (F.TP_CFG_EN 0) && !s.preempted 0x6000

/-- The last grid edge of TP0 in a DT second, in ns after its start (R265). -/
def State.tp0Last (s : State) : Nat :=
  let p := max 1 (s.rd (F.TP_PERIOD_PERIOD 0))
  s.rd (F.TP_OFFSET_OFFSET 0) + (1000000000 / p - 1) * p

/-- An edge of a DT second that no TIMEMSG has described, or that a backward step brings again. -/
def State.untold (s : State) (e : Edge) : Option Edge :=
  if s.nav.told.any (fun x => decide (x / 1000000000 = e.time / 1000000000)) && !s.nav.again then none else some e

/-- The first edge of TP0 in the last DT second that had one. -/
def State.pulseEdge (s : State) : Option Edge :=
  let p := s.pulse 0
  p.secAt.bind fun t =>
    s.untold { time := t, qerr := if p.secSquelched then none else some p.secQerr, pulse := true, squelched := p.secSquelched }

/-- The boundary of the present DT second. -/
def State.boundaryEdge (s : State) : Option Edge := s.untold { time := dtSec s.dtNow * 1000000000 }

/-- The second boundary at which a step was applied, while no message has described it. -/
def State.steppedEdge (s : State) : Option Edge := s.nav.stepEdge.bind fun e => if e.2.2 then none else s.untold { time := e.1 }

/-- Has the present DT second an edge of TP0, or still one to come? -/
def State.edgeInSecond (s : State) : Bool :=
  (match (s.pulse 0).secAt with
    | some t => decide (t / 1000000000 = dtSec s.dtNow)
    | none => false) || decide (dtNs s.dtNow ≤ s.tp0Last)

/-- The edge that the next TIMEMSG describes: of TP0, or the second's boundary where TP0 puts out none (log 136). -/
def State.timeEdge (s : State) : Option Edge :=
  if s.tp0Runs then s.pulseEdge.orElse fun _ => if s.edgeInSecond then none else s.boundaryEdge
  else s.steppedEdge.orElse fun _ => s.boundaryEdge

/-- The step that follows an edge: applied at it, or after it in a second whose message has gone, or due now and the edge the present one
(R238, R279, R285; log 136). -/
def State.stepAfter (s : State) (e : Edge) : Option Int :=
  match s.nav.stepEdge with
  | some (t, v, _) => if t = e.time ∨ s.nav.told = some t then some v else none
  | none => if s.stepDue && decide (e.time = (if e.pulse then (s.pulse 0).gridAt else dtSec s.dtNow * 1000000000)) then s.time.kyo.step else none

/-- What firmware adds to the estimated error in ps while SPLL is not LOCKED and VDD_CORE has drifted: 10 ps for each 20 mV, rounded up (R425). -/
def State.driftError (s : State) : Nat :=
  if s.on F.MON_VCORE_DRIFT ∧ s.rd (F.PLL_STAT_STATE 3) ≠ 2 then
    (((s.rd F.MON_VCORE_VCORE : Int) - s.rd F.MON_VCORE_VCAL).natAbs + 3) / 4
  else 0

/-- The 48 bytes of a TIMEMSG; VALID, UTC_VALID and the error of an edge that was not placed are free values. -/
def State.timeMsg (s : State) (e : Edge) (marks : Nat) (ffo : Int) (auth : Bool) : List Nat × State :=
  let (qFree, s) := s.draw
  let safe := s.on F.OCQ_STAT_SAFE
  let step := s.stepAfter e
  let bit (p : Bool) (n : Nat) : Nat := if p then 2 ^ n else 0
  let flags := bit (!safe && decide (marks % 2 = 1)) 0 + bit safe 1 + bit step.isSome 2 + bit e.squelched 3 +
    bit (decide (s.leapDir ≠ 0)) 4 + bit (decide (marks / 2 % 2 = 1)) 5 + bit (auth || decide (s.nav.cfg 0 9 1 = 1)) 6 + bit (!e.pulse) 7
  let qerr := match e.qerr with
    | some q => unsigned 16 q
    | none => if e.pulse then qFree % 65536 else 0
  let sol := if s.nav.noSolution then 0 else s.rd F.KYO_STATE_SOL
  let excl := s.nav.checks.any fun c => c.inForce && !c.bare && decide (c.scope ≠ [])
  (leBytes 6 (e.time / 1000000000) ++ leBytes 2 flags ++ leBytes 4 (e.time % 1000000000) ++ leBytes 2 0 ++ leBytes 2 qerr ++
    [sol, if s.overBudget ∧ s.on F.KYO_CTRL_SQUELCH then 2 else s.rd F.KYO_STATE_STATE, if e.pulse then 0 else 0xFF, s.nav.nsv % 256] ++
    leBytes 4 (min 0xFFFFFFFF (s.rd F.KYO_EST_ERR_EST_ERR + s.driftError)) ++
    leBytes 4 (s.rd F.KYO_HOLD_S_HOLD_S) ++ leBytes 4 (unsigned 32 (held (-2147483648) 2147483647 (step.getD 0))) ++
    leBytes 2 (unsigned 16 (datAt s.leapTable (e.time / 1000000000 : Nat))) ++ [unsigned 8 s.leapDir, 0] ++
    leBytes 4 (unsigned 32 (held (-2147483648) 2147483647 ffo)) ++ leBytes 2 (bit s.timeAlarm 0 + bit excl 1) ++
    leBytes 2 (s.integ 0x108 0 16) ++ leBytes 4 s.nav.msgSeq, s)

/-- TIMEMSG_SEND: one message per DT second. `marks`: VALID and UTC_VALID (log 54). `ffo` in 10^-15; `auth`: only
authenticated satellites in the solution. -/
def execTimemsgSend (marks : Nat) (ffo : Int) (auth : Bool) (s : State) : Out :=
  .next (s.whenB (s.firmware && s.dtOk) fun s =>
    match s.timeEdge with
    | none => s
    | some e =>
      let (bs, s) := s.timeMsg e marks ffo auth
      let step := (s.stepAfter e).isSome
      let s : State := { s with nav := { s.nav with
        told := some e.time, stepEdge := if step then none else s.nav.stepEdge, again := s.nav.again && step, msgSeq := (s.nav.msgSeq + 1) % 2 ^ 32 } }
      s.sendFrame 0x21 bs)

end Sys2Proof.Machine
end

