-- ==== Sys2Proof/Machine/Dispatch.lean ====
section
/-! DEFINITION. The dispatcher: one arm per command, each a direct call of its meaning. -/

namespace Sys2Proof.Machine

/-- A command's effect on everything but the queue. -/
def exec (i : Instr) (s : State) : Host.Outcome State Fault Refusal :=
  match i with
  | .registerWrite owner addr size v => Sys2Proof.Machine.execRegisterWrite owner addr size v s
  | .offBlockAccess owner addr write => Sys2Proof.Machine.execOffBlockAccess owner addr write s
  | .nomapAccess owner addr write => Sys2Proof.Machine.execNomapAccess owner addr write s
  | .regWrite owner addr len crcOk words => Sys2Proof.Machine.execRegWrite owner addr len crcOk words s
  | .regRead owner addr count len crcOk => Sys2Proof.Machine.execRegRead owner addr count len crcOk s
  | .cmdSubmit owner queue len crcOk entries => Sys2Proof.Machine.execCmdSubmit owner queue len crcOk entries s
  | .spiWrite addr words => Sys2Proof.Machine.execSpiWrite addr words s
  | .spiRead addr count => Sys2Proof.Machine.execSpiRead addr count s
  | .pcieFlr => Sys2Proof.Machine.execPcieFlr s
  | .huartBaudWrite owner v => Sys2Proof.Machine.execHuartBaudWrite owner v s
  | .hspiFrameRead owner => Sys2Proof.Machine.execHspiFrameRead owner s
  | .hspiFrameWrite owner v => Sys2Proof.Machine.execHspiFrameWrite owner v s
  | .begin owner n => Sys2Proof.Machine.execBegin owner n s
  | .commit owner n => Sys2Proof.Machine.execCommit owner n s
  | .commitat owner n tp0 => Sys2Proof.Machine.execCommitat owner n tp0 s
  | .abort owner n => Sys2Proof.Machine.execAbort owner n s
  | .txnAtWrite owner n which v => Sys2Proof.Machine.execTxnAtWrite owner n which v s
  | .rwtWrite owner addr v => Sys2Proof.Machine.execRwtWrite owner addr v s
  | .armedCommit n => Sys2Proof.Machine.execArmedCommit n s
  | .landingComplete n => Sys2Proof.Machine.execLandingComplete n s
  | .txnTimeout n => Sys2Proof.Machine.execTxnTimeout n s
  | .padClaim owner res => Sys2Proof.Machine.execPadClaim owner res s
  | .padRelease owner res => Sys2Proof.Machine.execPadRelease owner res s
  | .padFuncWrite owner n v => Sys2Proof.Machine.execPadFuncWrite owner n v s
  | .relock owner pll => Sys2Proof.Machine.execRelock owner pll s
  | .bandcal owner pll idx => Sys2Proof.Machine.execBandcal owner pll idx s
  | .bandcalDone pll lo hi => Sys2Proof.Machine.execBandcalDone pll lo hi s
  | .adpllLocked pll fine resid ferr => Sys2Proof.Machine.execAdpllLocked pll fine resid ferr s
  | .lossOfLock pll ferr => Sys2Proof.Machine.execLossOfLock pll ferr s
  | .lossOfReference loss => Sys2Proof.Machine.execLossOfReference loss s
  | .referenceReturn pll => Sys2Proof.Machine.execReferenceReturn pll s
  | .holdoverRelock pll fine resid steps => Sys2Proof.Machine.execHoldoverRelock pll fine resid steps s
  | .adpllDeferredApply pll which => Sys2Proof.Machine.execAdpllDeferredApply pll which s
  | .clkmonFault pair => Sys2Proof.Machine.execClkmonFault pair s
  | .clkmonQualified input => Sys2Proof.Machine.execClkmonQualified input s
  | .autotune owner port => Sys2Proof.Machine.execAutotune owner port s
  | .autotuneDone port ser shunt => Sys2Proof.Machine.execAutotuneDone port ser shunt s
  | .biasSense port ma => Sys2Proof.Machine.execBiasSense port ma s
  | .biasTrip port => Sys2Proof.Machine.execBiasTrip port s
  | .biasRetry owner port => Sys2Proof.Machine.execBiasRetry owner port s
  | .rlEstimate port rl => Sys2Proof.Machine.execRlEstimate port rl s
  | .loCalCommand owner mask => Sys2Proof.Machine.execLoCalCommand owner mask s
  | .loCalibration g => Sys2Proof.Machine.execLoCalibration g s
  | .loCalComplete g => Sys2Proof.Machine.execLoCalComplete g s
  | .injStart owner mask => Sys2Proof.Machine.execInjStart owner mask s
  | .injStop owner mask => Sys2Proof.Machine.execInjStop owner mask s
  | .injCmdReady => Sys2Proof.Machine.execInjCmdReady s
  | .injCmdTimeout => Sys2Proof.Machine.execInjCmdTimeout s
  | .injBiasPublish entries => Sys2Proof.Machine.execInjBiasPublish entries s
  | .blankAssert k start width => Sys2Proof.Machine.execBlankAssert k start width s
  | .gridBoundary adcs tones => Sys2Proof.Machine.execGridBoundary adcs tones s
  | .blockComplete stream inPhase quad aheadI aheadQ => Sys2Proof.Machine.execBlockComplete stream inPhase quad aheadI aheadQ s
  | .blockWindowClose stream seq => Sys2Proof.Machine.execBlockWindowClose stream seq s
  | .pinGrant slot => Sys2Proof.Machine.execPinGrant slot s
  | .pinTimeout slot => Sys2Proof.Machine.execPinTimeout slot s
  | .sweepStart pod => Sys2Proof.Machine.execSweepStart pod s
  | .sweepWriteback pod residue huskMismatch => Sys2Proof.Machine.execSweepWriteback pod residue huskMismatch s
  | .selfCheckSweep pod mismatch => Sys2Proof.Machine.execSelfCheckSweep pod mismatch s
  | .retest owner pod lanes pass => Sys2Proof.Machine.execRetest owner pod lanes pass s
  | .trkStart owner track atSeq => Sys2Proof.Machine.execTrkStart owner track atSeq s
  | .trkStop owner track => Sys2Proof.Machine.execTrkStop owner track s
  | .trkMove owner track pod => Sys2Proof.Machine.execTrkMove owner track pod s
  | .trkClear owner track => Sys2Proof.Machine.execTrkClear owner track s
  | .trkStopEffect track => Sys2Proof.Machine.execTrkStopEffect track s
  | .trkMoveEffect track => Sys2Proof.Machine.execTrkMoveEffect track s
  | .trackContextWrite owner addr v => Sys2Proof.Machine.execTrackContextWrite owner addr v s
  | .scrub err => Sys2Proof.Machine.execScrub err s
  | .trkWakeClearDone => Sys2Proof.Machine.execTrkWakeClearDone s
  | .trackProgramEntry pod seq => Sys2Proof.Machine.execTrackProgramEntry pod seq s
  | .add e d a b => Sys2Proof.Machine.execAdd e d a b s
  | .sub e d a b => Sys2Proof.Machine.execSub e d a b s
  | .addS e d a b => Sys2Proof.Machine.execAddS e d a b s
  | .subS e d a b => Sys2Proof.Machine.execSubS e d a b s
  | .and e d a b => Sys2Proof.Machine.execAnd e d a b s
  | .or e d a b => Sys2Proof.Machine.execOr e d a b s
  | .xor e d a b => Sys2Proof.Machine.execXor e d a b s
  | .slt e d a b => Sys2Proof.Machine.execSlt e d a b s
  | .sltu e d a b => Sys2Proof.Machine.execSltu e d a b s
  | .min e d a b => Sys2Proof.Machine.execMin e d a b s
  | .max e d a b => Sys2Proof.Machine.execMax e d a b s
  | .abs e d a => Sys2Proof.Machine.execAbs e d a s
  | .sll e d a b => Sys2Proof.Machine.execSll e d a b s
  | .srl e d a b => Sys2Proof.Machine.execSrl e d a b s
  | .sra e d a b => Sys2Proof.Machine.execSra e d a b s
  | .addi e d a imm => Sys2Proof.Machine.execAddi e d a imm s
  | .andi e d a imm => Sys2Proof.Machine.execAndi e d a imm s
  | .ori e d a imm => Sys2Proof.Machine.execOri e d a imm s
  | .lui e d imm => Sys2Proof.Machine.execLui e d imm s
  | .slli e d a n => Sys2Proof.Machine.execSlli e d a n s
  | .srli e d a n => Sys2Proof.Machine.execSrli e d a n s
  | .srai e d a n => Sys2Proof.Machine.execSrai e d a n s
  | .srar e d a n => Sys2Proof.Machine.execSrar e d a n s
  | .mul e d a b => Sys2Proof.Machine.execMul e d a b s
  | .mulh e d a b => Sys2Proof.Machine.execMulh e d a b s
  | .mulhu e d a b => Sys2Proof.Machine.execMulhu e d a b s
  | .mulQ e d a b => Sys2Proof.Machine.execMulQ e d a b s
  | .mac e d a b => Sys2Proof.Machine.execMac e d a b s
  | .macQ e d a b => Sys2Proof.Machine.execMacQ e d a b s
  | .msubQ e d a b => Sys2Proof.Machine.execMsubQ e d a b s
  | .sat e d a n => Sys2Proof.Machine.execSat e d a n s
  | .norm e d a => Sys2Proof.Machine.execNorm e d a s
  | .clz e d a => Sys2Proof.Machine.execClz e d a s
  | .mag e d a b => Sys2Proof.Machine.execMag e d a b s
  | .atan2 e d a b => Sys2Proof.Machine.execAtan2 e d a b s
  | .dllNelp e d early late => Sys2Proof.Machine.execDllNelp e d early late s
  | .dllDot e d early late prompt => Sys2Proof.Machine.execDllDot e d early late prompt s
  | .pllCostas e d p pe mode => Sys2Proof.Machine.execPllCostas e d p pe mode s
  | .fllCross e d a b p pe => Sys2Proof.Machine.execFllCross e d a b p pe s
  | .fllAtan e d a b p pe data => Sys2Proof.Machine.execFllAtan e d a b p pe data s
  | .lfUpd e d a n third => Sys2Proof.Machine.execLfUpd e d a n third s
  | .lfBlend e d a b n => Sys2Proof.Machine.execLfBlend e d a b n s
  | .dPow e d t pe mode shift => Sys2Proof.Machine.execDPow e d t pe mode shift s
  | .ncoCarr e d a => Sys2Proof.Machine.execNcoCarr e d a s
  | .ncoCarrAdd e d a => Sys2Proof.Machine.execNcoCarrAdd e d a s
  | .ncoCode e d a b => Sys2Proof.Machine.execNcoCode e d a b s
  | .ncoCodeAdd e d a => Sys2Proof.Machine.execNcoCodeAdd e d a s
  | .ncoCphs e a => Sys2Proof.Machine.execNcoCphs e a s
  | .ncoKphs e a n => Sys2Proof.Machine.execNcoKphs e a n s
  | .tapOff e d a t => Sys2Proof.Machine.execTapOff e d a t s
  | .tapAdd e d a t => Sys2Proof.Machine.execTapAdd e d a t s
  | .tapEn e d a => Sys2Proof.Machine.execTapEn e d a s
  | .codeSympos e d a => Sys2Proof.Machine.execCodeSympos e d a s
  | .codeSymlen e d a => Sys2Proof.Machine.execCodeSymlen e d a s
  | .codeSel e d a => Sys2Proof.Machine.execCodeSel e d a s
  | .trkStack e d a => Sys2Proof.Machine.execTrkStack e d a s
  | .trkDuty e d a b => Sys2Proof.Machine.execTrkDuty e d a b s
  | .trkState e d a => Sys2Proof.Machine.execTrkState e d a s
  | .wipeLd e d a b => Sys2Proof.Machine.execWipeLd e d a b s
  | .bCond e cond a off => Sys2Proof.Machine.execBCond e cond a off s
  | .jmp e tgt => Sys2Proof.Machine.execJmp e tgt s
  | .call e tgt => Sys2Proof.Machine.execCall e tgt s
  | .loop e a len => Sys2Proof.Machine.execLoop e a len s
  | .link e addr => Sys2Proof.Machine.execLink e addr s
  | .end_ e => Sys2Proof.Machine.execEnd e s
  | .ret e => Sys2Proof.Machine.execRet e s
  | .nop e => Sys2Proof.Machine.execNop e s
  | .jr e a => Sys2Proof.Machine.execJr e a s
  | .callr e a => Sys2Proof.Machine.execCallr e a s
  | .mov e d a => Sys2Proof.Machine.execMov e d a s
  | .movfl e d => Sys2Proof.Machine.execMovfl e d s
  | .ldK e d k => Sys2Proof.Machine.execLdK e d k s
  | .stK e a k => Sys2Proof.Machine.execStK e a k s
  | .ld e d a off => Sys2Proof.Machine.execLd e d a off s
  | .st e d a b off => Sys2Proof.Machine.execSt e d a b off s
  | .move e d a b size swap srcFix dstFix => Sys2Proof.Machine.execMove e d a b size swap srcFix dstFix s
  | .waitq e d a src => Sys2Proof.Machine.execWaitq e d a src s
  | .waitqRelease e => Sys2Proof.Machine.execWaitqRelease e s
  | .waittAbs e d a b => Sys2Proof.Machine.execWaittAbs e d a b s
  | .waittTp e d n => Sys2Proof.Machine.execWaittTp e d n s
  | .waittRel e d a => Sys2Proof.Machine.execWaittRel e d a s
  | .waittRelease e => Sys2Proof.Machine.execWaittRelease e s
  | .stamp e d => Sys2Proof.Machine.execStamp e d s
  | .stampRead e d fn => Sys2Proof.Machine.execStampRead e d fn s
  | .txnBegin e d n => Sys2Proof.Machine.execTxnBegin e d n s
  | .txnCommit e d n => Sys2Proof.Machine.execTxnCommit e d n s
  | .txnCommitat e d a b n tp0 => Sys2Proof.Machine.execTxnCommitat e d a b n tp0 s
  | .txnAbort e d n => Sys2Proof.Machine.execTxnAbort e d n s
  | .txnWait e d n => Sys2Proof.Machine.execTxnWait e d n s
  | .txnWaitRelease e => Sys2Proof.Machine.execTxnWaitRelease e s
  | .vote e d dom up wait => Sys2Proof.Machine.execVote e d dom up wait s
  | .voteWaitRelease e => Sys2Proof.Machine.execVoteWaitRelease e s
  | .claim e d a => Sys2Proof.Machine.execClaim e d a s
  | .release e d a => Sys2Proof.Machine.execRelease e d a s
  | .event e d a b type ring => Sys2Proof.Machine.execEvent e d a b type ring s
  | .signal e n => Sys2Proof.Machine.execSignal e n s
  | .halt e => Sys2Proof.Machine.execHalt e s
  | .queueDoorbell owner n tail => Sys2Proof.Machine.execQueueDoorbell owner n tail s
  | .run n => Sys2Proof.Machine.execRun n s
  | .load n => Sys2Proof.Machine.execLoad n s
  | .fence n => Sys2Proof.Machine.execFence n s
  | .badOp n => Sys2Proof.Machine.execBadOp n s
  | .ctxResume owner n => Sys2Proof.Machine.execCtxResume owner n s
  | .ctxReset owner n => Sys2Proof.Machine.execCtxReset owner n s
  | .sigSet owner v => Sys2Proof.Machine.execSigSet owner v s
  | .programStoreWrite owner addr v => Sys2Proof.Machine.execProgramStoreWrite owner addr v s
  | .executionWatchdog e => Sys2Proof.Machine.execExecutionWatchdog e s
  | .planDoorbell owner tail => Sys2Proof.Machine.execPlanDoorbell owner tail s
  | .planFetch => Sys2Proof.Machine.execPlanFetch s
  | .captureBlockCopy slot => Sys2Proof.Machine.execCaptureBlockCopy slot s
  | .binDispatch unit => Sys2Proof.Machine.execBinDispatch unit s
  | .binComplete unit mixed => Sys2Proof.Machine.execBinComplete unit mixed s
  | .aidingPublish track words => Sys2Proof.Machine.execAidingPublish track words s
  | .measScan half coast => Sys2Proof.Machine.execMeasScan half coast s
  | .timemsgSend marks ffo auth => Sys2Proof.Machine.execTimemsgSend marks ffo auth s
  | .integrityEvaluation sec ms period view gains nsv osnma levels => Sys2Proof.Machine.execIntegrityEvaluation sec ms period view gains nsv osnma levels s
  | .integSave => Sys2Proof.Machine.execIntegSave s
  | .lock owner sol => Sys2Proof.Machine.execLock owner sol s
  | .holdover owner => Sys2Proof.Machine.execHoldover owner s
  | .freerun owner => Sys2Proof.Machine.execFreerun owner s
  | .step owner => Sys2Proof.Machine.execStep owner s
  | .suspect owner up => Sys2Proof.Machine.execSuspect owner up s
  | .slew owner v => Sys2Proof.Machine.execSlew owner v s
  | .slewComplete => Sys2Proof.Machine.execSlewComplete s
  | .stepApply => Sys2Proof.Machine.execStepApply s
  | .estErrUpdate => Sys2Proof.Machine.execEstErrUpdate s
  | .suspectExpiry offsetNs => Sys2Proof.Machine.execSuspectExpiry offsetNs s
  | .tpEdge n active => Sys2Proof.Machine.execTpEdge n active s
  | .loopbackCheck n kind err => Sys2Proof.Machine.execLoopbackCheck n kind err s
  | .tpCalStart owner => Sys2Proof.Machine.execTpCalStart owner s
  | .tpCalDone tables ladders => Sys2Proof.Machine.execTpCalDone tables ladders s
  | .tpCalSwap => Sys2Proof.Machine.execTpCalSwap s
  | .captureEdge m rising code => Sys2Proof.Machine.execCaptureEdge m rising code s
  | .capturePop owner m => Sys2Proof.Machine.execCapturePop owner m s
  | .trgArmWrite owner k v => Sys2Proof.Machine.execTrgArmWrite owner k v s
  | .triggerFire k => Sys2Proof.Machine.execTriggerFire k s
  | .dtRebuild => Sys2Proof.Machine.execDtRebuild s
  | .dtRead owner => Sys2Proof.Machine.execDtRead owner s
  | .monoRead owner => Sys2Proof.Machine.execMonoRead owner s
  | .lastSeqRead owner stream => Sys2Proof.Machine.execLastSeqRead owner stream s
  | .frameRx port bytes ps room => Sys2Proof.Machine.execFrameRx port bytes ps room s
  | .frameTx port fw ps => Sys2Proof.Machine.execFrameTx port fw ps s
  | .txtsPop owner => Sys2Proof.Machine.execTxtsPop owner s
  | .ntpRequest mode version poll transmit rx steps port ps => Sys2Proof.Machine.execNtpRequest mode version poll transmit rx steps port ps s
  | .requestUnicastTransmission client rate duration => Sys2Proof.Machine.execRequestUnicastTransmission client rate duration s
  | .announceReceiptTimeout => Sys2Proof.Machine.execAnnounceReceiptTimeout s
  | .esmcPduSend event option2 qlA qlB => Sys2Proof.Machine.execEsmcPduSend event option2 qlA qlB s
  | .esmcTimeout port => Sys2Proof.Machine.execEsmcTimeout port s
  | .linkDown port slave => Sys2Proof.Machine.execLinkDown port slave s
  | .np3FrameRx bytes => Sys2Proof.Machine.execNp3FrameRx bytes s
  | .peerReport report x y z => Sys2Proof.Machine.execPeerReport report x y z s
  | .peerReportSend sec ms x y z sats => Sys2Proof.Machine.execPeerReportSend sec ms x y z sats s
  | .pwrVoteRaise owner mask => Sys2Proof.Machine.execPwrVoteRaise owner mask s
  | .pwrVoteWithdraw owner mask => Sys2Proof.Machine.execPwrVoteWithdraw owner mask s
  | .domainRun d => Sys2Proof.Machine.execDomainRun d s
  | .domainOff d => Sys2Proof.Machine.execDomainOff d s
  | .drainTimeout d => Sys2Proof.Machine.execDrainTimeout d s
  | .wakeNAssert => Sys2Proof.Machine.execWakeNAssert s
  | .hostActivity => Sys2Proof.Machine.execHostActivity s
  | .prooferSlice bins => Sys2Proof.Machine.execProoferSlice bins s
  | .podPack => Sys2Proof.Machine.execPodPack s
  | .monConversion temps vcore => Sys2Proof.Machine.execMonConversion temps vcore s
  | .apply owner => Sys2Proof.Machine.execApply owner s
  | .align owner => Sys2Proof.Machine.execAlign owner s
  | .snap owner => Sys2Proof.Machine.execSnap owner s
  | .rtcLoad => Sys2Proof.Machine.execRtcLoad s
  | .rtcSnapLatch => Sys2Proof.Machine.execRtcSnapLatch s
  | .rtcRead owner => Sys2Proof.Machine.execRtcRead owner s
  | .rtcTrimWrite owner v => Sys2Proof.Machine.execRtcTrimWrite owner v s
  | .rtcAlarm => Sys2Proof.Machine.execRtcAlarm s
  | .oscFail => Sys2Proof.Machine.execOscFail s
  | .oscRecover => Sys2Proof.Machine.execOscRecover s
  | .bctToUtc owner => Sys2Proof.Machine.execBctToUtc owner s
  | .utcToBct owner => Sys2Proof.Machine.execUtcToBct owner s
  | .rtcToUtc owner => Sys2Proof.Machine.execRtcToUtc owner s
  | .calConversionDone => Sys2Proof.Machine.execCalConversionDone s
  | .ledgerWrite => Sys2Proof.Machine.execLedgerWrite s
  | .ledgerSubAging owner => Sys2Proof.Machine.execLedgerSubAging owner s
  | .ledgerSubLeap owner => Sys2Proof.Machine.execLedgerSubLeap owner s
  | .ledgerSubUpdate owner => Sys2Proof.Machine.execLedgerSubUpdate owner s
  | .vddAonPowerUp => Sys2Proof.Machine.execVddAonPowerUp s
  | .crumbScanComplete => Sys2Proof.Machine.execCrumbScanComplete s
  | .crumbWrite => Sys2Proof.Machine.execCrumbWrite s
  | .swCrumb owner type => Sys2Proof.Machine.execSwCrumb owner type s
  | .pwrFail => Sys2Proof.Machine.execPwrFail s
  | .lockstepMismatch => Sys2Proof.Machine.execLockstepMismatch s
  | .islandWatchdog => Sys2Proof.Machine.execIslandWatchdog s
  | .heartbeat owner v => Sys2Proof.Machine.execHeartbeat owner v s
  | .heartbeatMiss => Sys2Proof.Machine.execHeartbeatMiss s
  | .kyoShadowMismatch => Sys2Proof.Machine.execKyoShadowMismatch s
  | .stestStart owner => Sys2Proof.Machine.execStestStart owner s
  | .stestPeriodic => Sys2Proof.Machine.execStestPeriodic s
  | .stestComplete fail => Sys2Proof.Machine.execStestComplete fail s
  | .safeEnter owner key => Sys2Proof.Machine.execSafeEnter owner key s
  | .safeExit owner key => Sys2Proof.Machine.execSafeExit owner key s
  | .safeAutoExit => Sys2Proof.Machine.execSafeAutoExit s
  | .fltSwraise owner src up => Sys2Proof.Machine.execFltSwraise owner src up s
  | .fltInject owner src => Sys2Proof.Machine.execFltInject owner src s
  | .supplyFault k => Sys2Proof.Machine.execSupplyFault k s
  | .interconnectTimeout owner => Sys2Proof.Machine.execInterconnectTimeout owner s
  | .bchStart owner ch => Sys2Proof.Machine.execBchStart owner ch s
  | .bchPause owner ch => Sys2Proof.Machine.execBchPause owner ch s
  | .bchResume owner ch => Sys2Proof.Machine.execBchResume owner ch s
  | .bchStop owner ch => Sys2Proof.Machine.execBchStop owner ch s
  | .pchStart owner ch => Sys2Proof.Machine.execPchStart owner ch s
  | .pchPause owner ch => Sys2Proof.Machine.execPchPause owner ch s
  | .pchResume owner ch => Sys2Proof.Machine.execPchResume owner ch s
  | .pchReset owner ch => Sys2Proof.Machine.execPchReset owner ch s
  | .dmaBurst ch => Sys2Proof.Machine.execDmaBurst ch s
  | .dmaBusError addr ch write pcie fetch => Sys2Proof.Machine.execDmaBusError addr ch write pcie fetch s
  | .dmaDoorbell owner mask => Sys2Proof.Machine.execDmaDoorbell owner mask s
  | .paceAdd owner p v => Sys2Proof.Machine.execPaceAdd owner p v s
  | .resetN => Sys2Proof.Machine.execResetN s
  | .softwareReset owner key => Sys2Proof.Machine.execSoftwareReset owner key s
  | .boot record revoke unlock bands filters => Sys2Proof.Machine.execBoot record revoke unlock bands filters s
  | .trialExpiry => Sys2Proof.Machine.execTrialExpiry s
  | .healthConfirm owner key => Sys2Proof.Machine.execHealthConfirm owner key s
  | .gheandInfo port src tag => Sys2Proof.Machine.execGheandInfo port src tag s
  | .gheandOpen port src tag => Sys2Proof.Machine.execGheandOpen port src tag s
  | .gheandClose port src tag => Sys2Proof.Machine.execGheandClose port src tag s
  | .gheandBegin port src tag id count => Sys2Proof.Machine.execGheandBegin port src tag id count s
  | .gheandStage port src tag index data => Sys2Proof.Machine.execGheandStage port src tag index data s
  | .gheandStatus port src tag => Sys2Proof.Machine.execGheandStatus port src tag s
  | .gheandCommit port src tag trialS => Sys2Proof.Machine.execGheandCommit port src tag trialS s
  | .gheandRead port src tag addr len => Sys2Proof.Machine.execGheandRead port src tag addr len s
  | .gheandVote port src tag mask up => Sys2Proof.Machine.execGheandVote port src tag mask up s
  | .gheandRevoke port src tag token => Sys2Proof.Machine.execGheandRevoke port src tag token s
  | .gheandUnlock port src tag token => Sys2Proof.Machine.execGheandUnlock port src tag token s
  | .gheandReset port src tag => Sys2Proof.Machine.execGheandReset port src tag s
  | .gheandLockTimeout => Sys2Proof.Machine.execGheandLockTimeout s
  | .svcRelease owner => Sys2Proof.Machine.execSvcRelease owner s
  | .xtal32Tick => Sys2Proof.Machine.execXtal32Tick s
  | .vddAonPowerDown vbat => Sys2Proof.Machine.execVddAonPowerDown vbat s
  | .supplyRecover k => Sys2Proof.Machine.execSupplyRecover k s
  | .clkmonRecover pair => Sys2Proof.Machine.execClkmonRecover pair s
  | .linkUp port => Sys2Proof.Machine.execLinkUp port s
  | .gheandBadFrame frame => Sys2Proof.Machine.execGheandBadFrame frame s
  | .autoBaud rate first => Sys2Proof.Machine.execAutoBaud rate first s
  | .macAgeing mac => Sys2Proof.Machine.execMacAgeing mac s
  | .extPpsTimeout => Sys2Proof.Machine.execExtPpsTimeout s
  | .ocquelReset => Sys2Proof.Machine.execOcquelReset s
  | .illegalOpcode e word => Sys2Proof.Machine.execIllegalOpcode e word s

end Sys2Proof.Machine
end

