-- ==== Sys2Proof/Machine/Idle.lean ====
section
/-! DEFINITION. What happens on an empty queue (log 2): an engine executes the word it fetches, and one FCLK period passes, or,
in SPLL bypass, one period of its reference, from which Kyonino then counts (R64). -/

namespace Sys2Proof.Machine

/-- 256 epochs after a lock or a re-alignment the averaged residual becomes readable; it is written once for each (R67; log 156). -/
def State.phaseTick (s : State) (p : Nat) : State :=
  match (s.pll p).phaseDue with
  | none => s
  | some (t, r) =>
    if t ≤ s.now then
      ((s.wr (F.PLL_PHASE_RESID p) r).wr (F.PLL_PHASE_VALID p) 1).setPll p { s.pll p with phaseDue := none }
    else s

/-- One period of the clock that DT counts: in SPLL bypass one of SPLL's selected reference, at its nominal length, also with that
reference lost (log 149). -/
def State.clockTick (s : State) : State :=
  if s.dtRuns && s.on F.KYO_STATE_SPLL_BYP then
    let khz := s.refKhz (s.pll 3).input
    let t := s.time.kyo.nowRem + 491520
    let k := { s.time.kyo with nowRem := t % max 1 khz }
    ({ s with now := s.now + t / max 1 khz, time := { s.time with kyo := k } }).timeTickRef khz
  else { s with now := s.now + 1 }.timeTick

/-- Firmware follows the leap table at each new DT second (R290). -/
def State.secondTick (s old : State) : State := if dtSec s.dtNow ≠ dtSec old.dtNow then s.followLeaps else s

/-- Time passes. -/
def idle (s : State) : State := ((s.clockTick.secondTick s).phaseTick 3).phaseTick 5

/-- The command that the word at an engine's position spells, none for a word it may not execute (R156–R158, R177, R180, R184, R188). -/
def State.instrAt (s : State) (e : Nat) : Option Instr :=
  let w := s.ld32 (s.pcByte e)
  if mayExecute (kindOf e) w then lyzDecode e w else none

/-- The engine that fetches next while no command waits: one that issues, each in turn first (log 2). -/
def State.nextEngine (s : State) : Option Nat := ((List.range 48).map fun k => (s.now + k) % 48).find? fun e => s.issues e

end Sys2Proof.Machine
end

