-- ==== Sys2Proof/Machine/Step.lean ====
section
/-! DEFINITION. One step: the command in front, or one FCLK period and one fetched instruction on an empty queue (log 2). -/

namespace Sys2Proof.Machine

/-- The command at the front of the queue takes effect with the queue's rest; with none waiting one FCLK period
passes, and an engine that runs a program executes the word it stands at (logs 2, 10). -/
def step (s : State) : Host.Outcome State Fault Refusal :=
  match s.pending with
  | [] =>
    match (idle s).nextEngine with
    | none => .next (idle s)
    | some e =>
      match (idle s).instrAt e with
      | none => execIllegalOpcode e ((idle s).ld32 ((idle s).pcByte e)) (idle s)
      | some c => exec c (idle s)
  | c :: rest => exec c { s with pending := rest }

/-- The command that a word spells, put at the front of the queue; the table gives no row any bits, so no word spells one. -/
def State.withFetchWord (s : State) (nbits w : Nat) : State :=
  match Sys2Proof.decodeTableWord nbits w with
  | none => s
  | some c => { s with pending := c :: s.pending }

end Sys2Proof.Machine
end

