-- ==== Sys2Proof/Safety.lean ====
section
/-! DEFINITION. What a claim means by a state in good form and by a safe run: every command answers a next state, and the form is kept. -/

namespace Sys2Proof.Machine

/-- Memory in its canonical form: addresses strictly rising, and no entry equal to what an unlisted address reads as (log 3). -/
abbrev Memory.wf (lost : Sparse Nat) (m : List Host.Cell) : Bool := canonical (blankOf lost) m

/-- Memory and registers are in canonical form: equal contents are equal data. -/
def State.canon (s : State) : Bool := canonical resetOf s.regs && Memory.wf s.lost s.mem && Memory.wf [] s.hostMem

/-- Does a 256 KiB region of memory lose its content at all: the system SRAM, the ring, acquisition, code and packet SRAM (R317), and
Ocquel's SRAM, which only the loss of VDD_AON reaches (R327)? -/
def losable (r : Nat) : Bool :=
  decide (0x400 ≤ r ∧ r < 0x420 ∨ 0x800 ≤ r ∧ r < 0x818 ∨ 0xA00 ≤ r ∧ r < 0xA10 ∨ 0xD00 ≤ r ∧ r < 0xD08 ∨ 0xE00 ≤ r ∧ r < 0xE08 ∨
    r = 0x13C0)

/-- No other memory has lost its content. -/
def State.lostOk (s : State) : Bool := s.lost.all fun e => losable e.1

/-- The form is canonical, no memory has lost its content that keeps it, the crumb queue holds at most 32 requests (R357), no journal more
than 256 entries (R36), and the working copy of the Ledger lies within its 64 KiB (R338). -/
def State.Inv (s : State) : Prop :=
  s.canon = true ∧ s.lostOk = true ∧ s.crumb.queue.length ≤ 32 ∧ (∀ n, (s.txn n).journal.length ≤ 256) ∧ ∀ e ∈ s.ledger.work, e.1 < 0x10000

/-- Every one of the next `n` steps answers a next state, in good form. -/
def State.SafeRun : Nat → State → Prop
  | 0, s => s.Inv
  | n + 1, s => s.Inv ∧ ∃ t, step s = .next t ∧ t.SafeRun n

end Sys2Proof.Machine
end

