-- ==== Sys2Proof/Certificates/Slice0/Obligations.lean ====
section
/-! DEFINITION. The statements put to the provers, in the spec's order of chapters. A statement about a command says that it answers a
next state, what that state holds, and what it leaves as it was. -/

namespace Sys2Proof.Machine

/-- The command answers a next state of which `P` holds. -/
def Completes (c : Instr) (s : State) (P : State → Prop) : Prop := ∃ t, exec c s = .next t ∧ P t

/-- Every register but those listed reads as before. -/
def RegsBut (l : List Nat) (s t : State) : Prop := ∀ a, a ∉ l → t.reg a = s.reg a

/-- The state without its registers. -/
def State.noRegs (s : State) : State := { s with regs := [] }

/-- The state without what an access's answer writes: the answer and the SPI status. -/
def State.noAnswer (s : State) : State := { s with answer := {}, host := { s.host with spiStatus := 0 } }

/-- Every byte of memory outside the `n` from `a` on reads as before. -/
def BytesBut (a n : Nat) (s t : State) : Prop := ∀ b, b < a ∨ a + n ≤ b → t.byte b = s.byte b

/-- No domain with owners of its own left Run from `s` to `t`; where one does, its owners are reset, which ends the transfers of the channels
they hold (R49, R431). -/
def NoneLeft (s t : State) : Prop := ∀ d ∈ [1, 17, 18], s.inRun d = true → t.inRun d = true

/-- `n` bytes of system SRAM below the program store (R14, R176). -/
abbrev InSram (a n : Nat) : Prop := 0x10000000 ≤ a ∧ a + n ≤ 0x10780000

/-- The payload of the frame sent last. -/
def State.lastPayload (s : State) : List Nat := ((s.frames.getLast?).map (·.payload)).getD []

end Sys2Proof.Machine

open Sys2Proof Sys2Proof.Machine

/-- A step takes the command in front and is that command's effect with the queue's rest. On an empty queue time passes, and an engine that
issues executes the command its word spells (R156, R177). The queue is the model's (log 1), and so are the order of the engines and the
period that passes (log 2). -/
def Obligations.StepRunsFront : Prop :=
  (∀ (s : State) (c : Instr) (q : List Instr), step { s with pending := c :: q } = exec c { s with pending := q }) ∧
  (∀ s : State, s.pending = [] → (idle s).nextEngine = none → step s = .next (idle s)) ∧
  ∀ (s : State) (e : Nat) (i : Instr), s.pending = [] → (idle s).nextEngine = some e → (idle s).instrAt e = some i → step s = exec i (idle s)

/-- No command touches the queue of those that wait behind it. The queue is the model's (log 1). -/
def Obligations.CommandsLeaveQueue : Prop :=
  ∀ (c : Instr) (s t : State), exec c s = .next t → t.pending = s.pending

/-- The invariant State.Inv holds at reset. Memory's canonical form is the model's choice (log 3). -/
def Obligations.ResetKeepsForm : Prop := State.reset.Inv

/-- From every state that meets State.Inv a step leads to one that meets it: memory and host memory keep their canonical form, no
memory outside the losable pools loses its content, no journal holds more than 256 entries, the crumb queue no more than 32, the Ledger's work no address past its 64 KiB. The form is the
model's choice (log 3), and so is what a step does on an empty queue (log 2). -/
def Obligations.StepKeepsForm : Prop :=
  ∀ s t : State, s.Inv → step s = .next t → t.Inv

/-! ### Access, hosts, transactions, claims (02) -/

/-- A write to system SRAM stores the bytes written and nothing else. -/
def Obligations.MemoryWriteStores : Prop :=
  ∀ (s : State) (owner a n : Nat) (v : Word), s.inRun 0 = true → s.inRun 1 = true → s.heard owner = true →
    (n = 1 ∨ n = 2 ∨ n = 4) → a % n = 0 → InSram a n → (n = 4 ∨ s.badIn a n = false) →
    Completes (.registerWrite owner a n v) s fun t =>
      t.load a n = v.toNat % 256 ^ n ∧ BytesBut a n s t ∧ t.answer = ⟨owner, .ok, 0, 0⟩ ∧
      (∀ i, look 0 t.ecc i = if n = 4 ∧ i = a / 4 then 0 else look 0 s.ecc i) ∧
      { t with mem := [], ecc := [] }.noAnswer = { s with mem := [], ecc := [] }.noAnswer

/-- An access to a register of a block that is not in Run is answered with OFF_BLOCK, counted and captured; a read gets the marker, a write is
dropped, no domain moves (R30). An access to an address of an answering block that no register has is answered with NOMAP and changes
nothing (R415). -/
def Obligations.AccessesAnswered : Prop :=
  ∀ (s : State) (owner a : Nat) (v : Word) (w : Bool), s.inRun 0 = true → inRegs a = true → a % 4 = 0 →
    let off (write : Bool) (t : State) : Prop :=
      t.answer = ⟨owner, .offBlock, 0, if write then 0 else 0x0FF00FF0⟩ ∧
      t.rd F.SYS_OFFACC_CNT_COUNT = Nat.min (2 ^ F.SYS_OFFACC_CNT_COUNT.w - 1) (s.rd F.SYS_OFFACC_CNT_COUNT + 1) ∧
      t.reg Reg.SYS_OFFACC_ADDR = BitVec.ofNat 32 (a + if write then 2 else 0) ∧
      RegsBut [Reg.SYS_OFFACC_CNT, Reg.SYS_OFFACC_ADDR, Reg.CRUMB_LOST, Reg.HSPI_CNT] s t ∧
      { t.noRegs with answer := {}, crumb := {}, host := {} } = { s.noRegs with answer := {}, crumb := {}, host := {} }
    let unnamed (t : State) : Prop := t.answer.status = .noMap ∧ t.answer.owner = owner ∧ t.noAnswer = s.noAnswer
    ((s.heard owner = true ∨ s.hostAsleep owner = true) → s.answers a = false →
      Completes (.offBlockAccess owner a w) s (off w) ∧ Completes (.registerWrite owner a 4 v) s (off true)) ∧
    (s.heard owner = true → s.answers a = true → named a = false →
      Completes (.nomapAccess owner a w) s unnamed ∧ Completes (.registerWrite owner a 4 v) s unnamed)

/-- A host that the strap selected, with HOST and CORE in Run, reads and writes words of system SRAM by SPI access and by REG_READ and
REG_WRITE, as many as one access carries; a frame with a bad CRC or a length above 4,096 is counted and discarded (R26, R27). -/
def Obligations.HostsReachMemory : Prop :=
  ∀ (s : State) (owner a n len : Nat) (crcOk : Bool) (ws : List Word), s.hostUp owner = true → s.inRun 1 = true → a % 4 = 0 →
    let wrote (t : State) : Prop := t.ldWords a ws.length = ws ∧ BytesBut a (4 * ws.length) s t ∧ t.regs = s.regs
    let kept (t : State) : Prop := t.mem = s.mem ∧ t.regs = s.regs
    let dropped (t : State) : Prop := t.mem = s.mem ∧ t.frames = s.frames ∧ RegsBut [Reg.HSPI_CNT, Reg.HUART_CNT] s t ∧
      (owner = 17 → t.rd F.HSPI_CNT_CRC_ERR = Nat.min 65535 (s.rd F.HSPI_CNT_CRC_ERR + 1)) ∧
      (owner = 18 → t.rd F.HUART_CNT_CRC_ERR = Nat.min 65535 (s.rd F.HUART_CNT_CRC_ERR + 1))
    (1 ≤ ws.length → ws.length ≤ 256 → InSram a (4 * ws.length) →
      (owner = 17 → Completes (.spiWrite a ws) s fun t => wrote t ∧ t.frames = s.frames ++ [⟨0x300, [0x80 + s.host.spiStatus]⟩]) ∧
      (len ≤ 4096 → Completes (.regWrite owner a len true ws) s fun t => wrote t ∧ t.frames = s.frames ++ [⟨0x03, [0x80]⟩])) ∧
    (1 ≤ n → InSram a (4 * n) → s.badIn a (4 * n) = false →
      (owner = 17 → n ≤ 256 → Completes (.spiRead a n) s fun t =>
        kept t ∧ t.frames = s.frames ++ [⟨0x300, (0x80 + s.host.spiStatus) :: bytesOfWords (s.ldWords a n)⟩]) ∧
      (n ≤ 1023 → len ≤ 4096 → Completes (.regRead owner a n len true) s fun t =>
        kept t ∧ t.frames = s.frames ++ [⟨0x03, 0x80 :: bytesOfWords (s.ldWords a n)⟩])) ∧
    (crcOk = false ∨ 4096 < len →
      Completes (.regWrite owner a len crcOk ws) s dropped ∧ Completes (.regRead owner a n len crcOk) s dropped)

/-- CMD_SUBMIT appends entries that fit at the queue's tail, and none where they do not all fit; the frame FIFO gives its oldest word and takes words up to 1,024; a write of
HUART_BAUD by another owner than the UART host takes effect at once, held to 9,600–12,000,000; a PCIe function-level reset aborts owner
16's transactions with OWNER_RESET and frees its claims (R27, R43, R49, R191). Which words the frame FIFO gives and takes is the
model's choice (log 31). -/
def Obligations.HostQueuesAndReset : Prop :=
  ∀ (s : State) (owner n len k : Nat) (es : List Word) (v : Word),
    (s.hostUp owner = true → s.inRun 1 = true → n < 8 → es.length = 8 * k → len ≤ 4096 →
      let tail := s.rd (F.LYZ_CTX_QTAIL_INDEX n)
      (s.queueFill n + k < s.queueSz n → tail < s.queueSz n → s.on (F.LYZ_CTX_QCFG_HOSTMEM n) = false →
        InSram (s.queueAddr n 0) (32 * s.queueSz n) → Completes (.cmdSubmit owner n len true es) s fun t =>
          t.rd (F.LYZ_CTX_QTAIL_INDEX n) = (tail + k) % s.queueSz n ∧
          (∀ i < k, t.load (s.queueAddr n ((tail + i) % s.queueSz n)) 32 = leNum (bytesOfWords ((es.drop (8 * i)).take 8))) ∧
          BytesBut (s.queueAddr n 0) (32 * s.queueSz n) s t ∧ RegsBut [Reg.LYZ_CTX_QTAIL n] s t) ∧
      (s.queueSz n ≤ s.queueFill n + k → Completes (.cmdSubmit owner n len true es) s fun t =>
        t.rd (F.LYZ_CTX_QTAIL_INDEX n) = tail ∧ RegsBut [Reg.LYZ_CTX_EHEAD n, Reg.LYZ_CTX_EVDROP n] s t)) ∧
    (s.inRun 0 = true → s.inRun 17 = true → s.heard owner = true →
      Completes (.hspiFrameRead owner) s (fun t => t.answer = ⟨owner, .ok, 0, s.host.hspiOut.headD 0⟩ ∧
        t.host.hspiOut = s.host.hspiOut.tail ∧ t.regs = s.regs ∧ t.mem = s.mem) ∧
      Completes (.hspiFrameWrite owner v) s (fun t =>
        t.host.hspiIn = (if s.host.hspiIn.length < 1024 then s.host.hspiIn ++ [v] else s.host.hspiIn) ∧
        t.host.hspiOut = s.host.hspiOut ∧ t.regs = s.regs ∧ t.mem = s.mem) ∧
      (owner ≠ 18 → Completes (.huartBaudWrite owner v) s fun t =>
        t.host.uartRate = Nat.max 9600 (Nat.min 12000000 (v.toNat % 2 ^ 24)) ∧ (t.reg Reg.HUART_BAUD).toNat = t.host.uartRate ∧
        RegsBut [Reg.HUART_BAUD] s t ∧ t.mem = s.mem)) ∧
    (s.hostUp 16 = true → Completes .pcieFlr s fun t =>
      (∀ m < 4, (s.txn m).held = true → (s.txn m).owner = 16 →
        t.txn m = { afterAbort := true } ∧ look 0 t.txnResult (16 * 4 + m) = 9) ∧
      (∀ r, t.ownerOf r ≠ 16) ∧ (∀ r, t.ownerOf r = s.ownerOf r ∨ t.ownerOf r = 0) ∧ t.mem = s.mem)

/-- BEGIN, ABORT and writes of TXN_AT_*: what the owner of an open transaction may do, and how others are refused (R33, R42). -/
def Obligations.TxnOpensAndAborts : Prop :=
  ∀ (s : State) (owner n which : Nat) (v : Word), s.inRun 1 = true → s.heard owner = true → n < 4 → which < 3 →
    (owner < 24 ∨ 55 < owner) →
    let reg := if which = 0 then Reg.TXN_AT_SEC_LO n else if which = 1 then Reg.TXN_AT_SEC_HI n else Reg.TXN_AT_NS n
    let only (t : State) : Prop := (∀ m, m ≠ n → t.txn m = s.txn m) ∧ t.regs = s.regs ∧ t.mem = s.mem ∧ t.claims = s.claims
    let refused (code : Nat) (t : State) : Prop :=
      t.txns = s.txns ∧ look 0 t.txnResult (owner * 4 + n) = code ∧ t.answer = ⟨owner, .refused, code, 0⟩ ∧ t.regs = s.regs
    ((s.txn n).state = .idle → Completes (.begin owner n) s fun t =>
      t.txn n = { state := .opened, owner := owner } ∧ t.showJcount n = 0 ∧ look 0 t.txnResult (owner * 4 + n) = 0 ∧ only t) ∧
    ((s.txn n).state ≠ .idle → Completes (.begin owner n) s (refused 1)) ∧
    ((s.txn n).state = .idle → Completes (.abort owner n) s (refused 3) ∧ Completes (.commit owner n) s (refused 3)) ∧
    ((s.txn n).state ≠ .idle → (s.txn n).owner ≠ owner →
      Completes (.abort owner n) s (refused 2) ∧ Completes (.commit owner n) s (refused 2) ∧
      Completes (.txnAtWrite owner n which v) s (refused 2)) ∧
    ((s.txn n).held = true → (s.txn n).owner = owner → Completes (.abort owner n) s fun t =>
      t.txn n = { afterAbort := true } ∧ t.showJcount n = 1 ∧ look 0 t.txnResult (owner * 4 + n) = 0 ∧ only t) ∧
    ((s.txn n).state = .opened → (s.txn n).owner = owner → Completes (.txnAtWrite owner n which v) s fun t =>
      (which = 0 → t.rd (F.TXN_AT_SEC_LO_SEC_LO n) = v.toNat) ∧
      (which = 1 → t.rd (F.TXN_AT_SEC_HI_SEC_HI n) = v.toNat % 2 ^ (F.TXN_AT_SEC_HI_SEC_HI n).w) ∧
      (which = 2 → t.rd (F.TXN_AT_NS_NS n) = v.toNat % 2 ^ (F.TXN_AT_NS_NS n).w) ∧
      RegsBut [reg] s t ∧ t.txns = s.txns ∧ t.mem = s.mem)

/-- COMMIT of an open journal that may land puts the transaction in LANDING with result OK, and the registers of the sieve hold what the
journal gives them; one whose check fails changes no register and leaves it OPEN with its journal; COMMITAT arms it for a later DT or for
TP0, and for a DT that has passed answers LATE or lands with the LATE flag, as LATE_POLICY says; at the edge an armed one lands as a COMMIT
would; at LANDING_COMPLETE the wake filter's registers of NP3, in LEAVEN, hold what the journal gives them and the domain is IDLE; the idle
timeout aborts an open or failed one with TIMEOUT (R37–R41, R43). Engines other than control contexts write TXN_CMD in vain (log 153). -/
def Obligations.TxnCommits : Prop :=
  ∀ (s : State) (owner n : Nat) (tp0 : Bool), n < 4 → (owner < 24 ∨ 55 < owner) → ((s.txn n).journal.map (·.addr)).Nodup →
    let code := s.commitCode n
    let took (lo hi : Nat) (t : State) : Prop := ∀ e ∈ (s.txn n).journal, lo ≤ e.addr → e.addr < hi →
      t.reg e.addr = (s.reg e.addr &&& ~~~(rwtMask e.addr)) ||| (e.value &&& rwtMask e.addr)
    let landed (t : State) : Prop := (t.txn n).state = .landing ∧ (t.txn n).journal = (s.txn n).journal ∧
      took 0x40078000 0x40079000 t ∧ look 0 t.txnResult ((s.txn n).owner * 4 + n) = 0 ∧ t.mem = s.mem
    let refused (code : Nat) (t : State) : Prop := t.txn n = { s.txn n with state := .opened } ∧
      look 0 t.txnResult ((s.txn n).owner * 4 + n) = code ∧ t.regs = s.regs ∧ t.mem = s.mem
    let late : Prop := s.dtOk = true ∧ s.txnAt n ≤ s.time.kyo.dt
    (s.inRun 1 = true → s.heard owner = true → (s.txn n).state = .opened → (s.txn n).owner = owner →
      Completes (.commit owner n) s (if code = 0 then landed else refused code)) ∧
    (s.inRun 1 = true → s.heard owner = true → s.inRun 15 = true → (s.txn n).state = .opened → (s.txn n).owner = owner →
      ((if tp0 then s.on (F.TP_CFG_EN 0) = true else ¬ late) → Completes (.commitat owner n tp0) s fun t =>
        t.txn n = { s.txn n with state := .armed, at0 := tp0, target := if tp0 then (s.pulse 0).edges else s.txnAt n } ∧
        look 0 t.txnResult (owner * 4 + n) = 0 ∧ t.regs = s.regs ∧ t.mem = s.mem) ∧
      (late → (s.rd F.TXN_CTRL_LATE_POLICY).testBit n = false → Completes (.commitat owner n false) s (refused 5)) ∧
      (late → (s.rd F.TXN_CTRL_LATE_POLICY).testBit n = true → code = 0 → Completes (.commitat owner n false) s fun t =>
        t.on (F.TXN_STAT_LATE n) = true ∧ landed t)) ∧
    (s.armedDue n = true → Completes (.armedCommit n) s (if code = 0 then landed else refused code)) ∧
    ((s.txn n).state = .landing → Completes (.landingComplete n) s fun t =>
      t.txn n = {} ∧ took 0x400F4080 0x400F5000 t ∧ t.mem = s.mem) ∧
    ((s.txn n).state = .opened ∨ (s.txn n).state = .failed → s.rd F.TXN_TIMEOUT_MS ≠ 0 →
      s.ranMs (.txn n) (s.rd F.TXN_TIMEOUT_MS) = true → Completes (.txnTimeout n) s fun t =>
      t.txn n = { afterAbort := true } ∧ look 0 t.txnResult ((s.txn n).owner * 4 + n) = 7 ∧
      RegsBut [Reg.TXN_AUTOABORT, Reg.CRUMB_LOST] s t ∧
      t.rd F.TXN_AUTOABORT_COUNT = Nat.min (2 ^ F.TXN_AUTOABORT_COUNT.w - 1) (s.rd F.TXN_AUTOABORT_COUNT + 1) ∧ t.mem = s.mem)

/-- A write to RWT fields: journaled while the owner's transaction is OPEN, in place of an earlier entry of its address; a 257th
entry fails the transaction; outside any transaction it is applied at once, here to a Sieve register; while LANDING, or by another
owner, it is refused with TXN_BUSY (R34–R36, R44). -/
def Obligations.RwtWrites : Prop :=
  ∀ (s : State) (owner td a : Nat) (v : Word), s.answers a = true → s.heard owner = true → tdOf a = some td → rwtMask a ≠ 0 →
    let t0 := s.txn td
    let entry : JEntry := ⟨a, v &&& rwtMask a⟩
    (t0.state = .opened → t0.owner = owner → s.rwtCode owner td a v = 0 → Completes (.rwtWrite owner a v) s fun t =>
      t.regs = s.regs ∧ t.mem = s.mem ∧
      if t0.journal.any (fun x => decide (x.addr = a)) then
        t.txn td = { t0 with journal := t0.journal.map fun x => if x.addr = a then entry else x }
      else if t0.journal.length < 256 then t.txn td = { t0 with journal := t0.journal ++ [entry] }
      else t.txn td = { t0 with state := .failed, journal := [] } ∧ t.answer = ⟨owner, .refused, 6, 0⟩) ∧
    (t0.state = .idle → s.rwtCode owner td a v = 0 → 0x40078000 ≤ a → a < 0x40079000 → Completes (.rwtWrite owner a v) s fun t =>
      t.reg a = (s.reg a &&& ~~~(rwtMask a)) ||| (v &&& rwtMask a) ∧ RegsBut [a] s t ∧ t.txns = s.txns ∧ t.mem = s.mem) ∧
    (t0.state = .landing ∨ t0.held = true ∧ t0.owner ≠ owner → Completes (.rwtWrite owner a v) s fun t =>
      t.regs = s.regs ∧ t.txns = s.txns ∧ t.answer = ⟨owner, .refused, 1, 0⟩)

/-- Claims: a free resource, or one's own, is claimed; another's is denied; a release frees one's own; PAD_FUNC is written by the
ball's owner alone, no function is put on a second ball, and NP2's link ends with the last of its twelve balls (R47–R51, R395). -/
def Obligations.ClaimsHold : Prop :=
  ∀ (s : State) (owner r n : Nat) (v : Word), s.inRun 1 = true → s.heard owner = true →
    let only (t : State) : Prop := (∀ q, q ≠ r → t.ownerOf q = s.ownerOf q) ∧ t.mem = s.mem
    (validRes r = true → (s.ownerOf r = 0 ∨ s.ownerOf r = owner) → Completes (.padClaim owner r) s fun t =>
      t.ownerOf r = owner ∧ look 0 t.claims.result owner = 0 ∧ t.regs = s.regs ∧ only t) ∧
    (validRes r = true → s.ownerOf r ≠ 0 → s.ownerOf r ≠ owner → Completes (.padClaim owner r) s fun t =>
      t.ownerOf r = s.ownerOf r ∧ look 0 t.claims.result owner = 1 ∧ t.answer = ⟨owner, .refused, 0x0C, 0⟩ ∧ t.regs = s.regs ∧ only t) ∧
    (validRes r = true → s.ownerOf r = owner → Completes (.padRelease owner r) s fun t =>
      t.ownerOf r = 0 ∧ look 0 t.claims.result owner = 0 ∧ only t) ∧
    (validRes r = true → s.ownerOf r ≠ owner → Completes (.padRelease owner r) s fun t =>
      t.ownerOf r = s.ownerOf r ∧ look 0 t.claims.result owner = 2 ∧ t.answer.status = .refused ∧ t.regs = s.regs ∧ only t) ∧
    (n < 64 → s.mayConfigure owner (0x1000 + n) = true → s.functionTaken n (bits v 0 4) = false →
      Completes (.padFuncWrite owner n v) s fun t =>
        t.reg (Reg.PAD_FUNC n) = v &&& 0x1FF ∧ RegsBut [Reg.PAD_FUNC n, Reg.NP_STAT 2] s t ∧ t.mem = s.mem ∧
        (if t.rgmii then t.reg (Reg.NP_STAT 2) = s.reg (Reg.NP_STAT 2) else t.on (F.NP_STAT_LINK 2) = false)) ∧
    (n < 64 → (s.mayConfigure owner (0x1000 + n) = false ∨ s.functionTaken n (bits v 0 4) = true) →
      Completes (.padFuncWrite owner n v) s fun t => t.regs = s.regs ∧ t.answer = ⟨owner, .refused, 0x0C, 0⟩ ∧ t.mem = s.mem)

/-! ### Clock synthesis (03) -/

/-- How an ADPLL comes to lock: a loop that locks within ±100 ppm leaves bypass with STATE LOCKED, or waits for a RELOCK without
AUTO_RETURN; one outside shows it; RELOCK in LOCKED or HOLDOVER starts the lock sequence again with the output in bypass, in ACQUIRE or
BYPASS it is remembered; a committed LF, LOCKCFG or, on CPLL, SSC, held to its limits, comes into force (R59, R61, R65, R69, R71). What an event measured is its operand, the model's choice (log 6). -/
def Obligations.PllLocks : Prop :=
  ∀ (s : State) (owner p fine resid which : Nat) (ferr steps : Int), p < 6 → s.inRun 1 = true → s.heard owner = true →
    let st := s.rd (F.PLL_STAT_STATE p)
    let locked (t : State) : Prop :=
      t.rd (F.PLL_STAT_STATE p) = 2 ∧ t.rd (F.PLL_STAT_PHLOCK p) = 1 ∧ t.rd (F.PLL_STAT_FREQOK p) = 1 ∧
      t.rd (F.PLL_STAT_OUT_PLL p) = (if p = 4 ∧ s.on (F.PLL_CTRL_OUTSEL 4) = false then 0 else 1) ∧
      t.rd (F.PLL_EVT_LOCKED p) = 1 ∧ (fine / 4096 ≤ (s.pll p).clamp → t.rd (F.PLL_DCOWORD_FINE p) = fine % 2 ^ 24) ∧ t.mem = s.mem
    ((s.pll p).locking = true → st ≠ 3 →
      let returns := s.on (F.PLL_CTRL_AUTO_RETURN p) || (s.pll p).relock
      (ferr.natAbs ≤ 10000 → returns = true → Completes (.adpllLocked p fine resid ferr) s locked) ∧
      (10000 < ferr.natAbs ∨ returns = false → Completes (.adpllLocked p fine resid ferr) s fun t =>
        t.rd (F.PLL_STAT_STATE p) = st ∧ t.rd (F.PLL_STAT_PHLOCK p) = 1 ∧
        t.rd (F.PLL_STAT_FREQOK p) = (if ferr.natAbs ≤ 10000 then 1 else 0) ∧ t.rdS (F.PLL_FERR_FERR p) = signed 32 (unsigned 32 ferr) ∧
        RegsBut [Reg.PLL_STAT p, Reg.PLL_FERR p, Reg.PLL_DCOWORD p, Reg.PLL_EVT p] s t ∧ t.noRegs = s.noRegs)) ∧
    ((s.pll p).locking = true → st = 3 → (p = 3 ∨ p = 5) → (2 * steps.natAbs < alignOf p ∨ -2 * steps = alignOf p) →
      Completes (.holdoverRelock p fine resid steps) s locked) ∧
    (st = 2 ∨ st = 3 → Completes (.relock owner p) s fun t =>
      t.rd (F.PLL_STAT_STATE p) = 4 ∧ t.rd (F.PLL_STAT_OUT_PLL p) = 0 ∧ t.rd (F.PLL_STAT_PHLOCK p) = 0 ∧ t.mem = s.mem) ∧
    (st = 1 ∨ st = 4 → Completes (.relock owner p) s fun t =>
      t.pll p = { s.pll p with relock := true } ∧ (∀ q, q ≠ p → t.pll q = s.pll q) ∧ t.regs = s.regs ∧ t.mem = s.mem) ∧
    (st ≠ 0 → which < 3 → Completes (.adpllDeferredApply p which) s fun t => t.regs = s.regs ∧ t.mem = s.mem ∧
      (which = 0 → t.pll p = { s.pll p with lf := s.reg (Reg.PLL_LF p) }) ∧
      (which = 1 → t.pll p = { s.pll p with lockcfg := s.reg (Reg.PLL_LOCKCFG p) }) ∧
      (which = 2 → p ≠ 4 → t.pll p = s.pll p) ∧
      (which = 2 → p = 4 → let ssc := (t.pll p).ssc
        t.pll p = { s.pll p with ssc := ssc } ∧ bits ssc 0 2 = bits (s.reg (Reg.PLL_SSC p)) 0 2 ∧
        (bits ssc 0 2 = 1 → bits ssc 2 6 = Nat.min 50 (bits (s.reg (Reg.PLL_SSC p)) 2 6)) ∧
        (bits ssc 0 2 = 2 → bits ssc 2 6 = Nat.min 25 (bits (s.reg (Reg.PLL_SSC p)) 2 6)) ∧
        bits ssc 8 6 = Nat.max 30 (Nat.min 33 (bits (s.reg (Reg.PLL_SSC p)) 8 6))))

/-- What a lost lock, found by a counter window outside ±100 ppm, and a lost reference do: bypass and the lock sequence again, with LOL and the fault source; without FAILOVER,
SPLL and NPLL hold over and the others go to bypass, with LOR; the reference's return lets a held loop re-acquire (R60, R63). -/
def Obligations.PllLoses : Prop :=
  ∀ (s : State) (p : Nat) (ferr steps : Int), p < 6 → s.inRun 1 = true →
    let st := s.rd (F.PLL_STAT_STATE p)
    (st = 2 ∨ st = 3 → s.on (F.PLL_STAT_REF_OK p) = true → ferr.natAbs ≤ 10000 → Completes (.lossOfLock p ferr) s fun t =>
      t.rdS (F.PLL_FERR_FERR p) = signed 32 (unsigned 32 ferr) ∧ RegsBut [Reg.PLL_FERR p] s t ∧ t.noRegs = s.noRegs) ∧
    (st = 2 ∨ st = 3 → s.on (F.PLL_STAT_REF_OK p) = true → 10000 < ferr.natAbs → Completes (.lossOfLock p ferr) s fun t =>
      t.rd (F.PLL_STAT_STATE p) = 4 ∧ t.rd (F.PLL_STAT_OUT_PLL p) = 0 ∧ t.rd (F.PLL_EVT_LOL p) = 1 ∧
      t.rdS (F.PLL_FERR_FERR p) = signed 32 (unsigned 32 ferr) ∧ look 0 t.safety.level (20 + p) = 1 ∧ t.mem = s.mem) ∧
    (st ≠ 0 → s.on (F.PLL_STAT_REF_OK p) = true → s.on (F.PLL_CTRL_FAILOVER p) = false → Completes (.lossOfReference ⟨p, steps⟩) s fun t =>
      t.rd (F.PLL_STAT_REF_OK p) = 0 ∧ t.rd (F.PLL_EVT_LOR p) = 1 ∧ look 0 t.safety.level (26 + p) = 1 ∧ (t.pll p).locking = false ∧
      t.rd (F.PLL_STAT_STATE p) = (if (p = 3 ∨ p = 5) ∧ (st = 2 ∨ st = 3) then 3 else if st = 2 then 4 else st) ∧
      ((s.pll p).input < 2 → t.rd ⟨Reg.CLK_REFSTAT, (s.pll p).input, 1⟩ = 0) ∧ t.mem = s.mem) ∧
    (st = 3 → s.on (F.PLL_STAT_REF_OK p) = false → s.on (F.PLL_STAT_CFG_ERR p) = false → (s.pll p).input ≤ 1 →
      Completes (.referenceReturn p) s fun t =>
        t.rd (F.PLL_STAT_REF_OK p) = 1 ∧ t.rd (F.PLL_STAT_STATE p) = 3 ∧ (t.pll p).locking = true ∧
        look 0 t.safety.level (26 + p) = 0 ∧ t.mem = s.mem)

/-- BANDCAL and its end; what the clock monitor reports: a fault raises its source and takes a REFIN from every ADPLL on it, a return lowers the
source and leaves MONSTAT, 10 ms in range qualify a REFIN; EXT_PPS_TIMEOUT clears PPS_OK (R57, R62, R72, R73). What an event measured
is its operand, the model's choice (log 6). -/
def Obligations.ClockMonitor : Prop :=
  ∀ (s : State) (owner p n lo hi pair : Nat), s.inRun 1 = true → s.heard owner = true →
    (p < 6 → n < 16 → s.on (F.PLL_CTRL_EN p) = false → s.on (F.PLL_STAT_CAL_BUSY p) = false → Completes (.bandcal owner p n) s fun t =>
      t.rd (F.PLL_STAT_CAL_BUSY p) = 1 ∧ t.pll p = { s.pll p with calEntry := n } ∧ RegsBut [Reg.PLL_STAT p] s t ∧ t.mem = s.mem) ∧
    (p < 6 → s.on (F.PLL_STAT_CAL_BUSY p) = true → lo < 2 ^ 22 → hi < 2 ^ 22 → Completes (.bandcalDone p lo hi) s fun t =>
      t.rd (F.PLL_STAT_CAL_BUSY p) = 0 ∧ t.rd (F.PLL_EVT_CAL_DONE p) = 1 ∧ t.rd (F.PLL_CAL_LO_KHZ p) = lo ∧
      t.rd (F.PLL_CAL_HI_KHZ p) = hi ∧ t.mem = s.mem) ∧
    (s.monChecks pair = true → Completes (.clkmonFault pair) s fun t =>
      t.rd ⟨Reg.CLK_MONSTAT, pair, 1⟩ = 1 ∧ look 0 t.safety.level (32 + pair) = 1 ∧
      (pair < 2 → t.rd ⟨Reg.CLK_REFSTAT, pair, 1⟩ = 0 ∧ ∀ q < 6, (s.pll q).input = pair → s.on (F.PLL_CTRL_FAILOVER q) = false →
        t.rd (F.PLL_STAT_REF_OK q) = 0) ∧ t.mem = s.mem) ∧
    (pair < 5 → Completes (.clkmonRecover pair) s fun t =>
      look 0 t.safety.level (32 + pair) = 0 ∧ t.reg Reg.CLK_MONSTAT = s.reg Reg.CLK_MONSTAT ∧ t.reg Reg.CLK_REFSTAT = s.reg Reg.CLK_REFSTAT ∧
      t.mem = s.mem) ∧
    (pair < 2 → s.monChecks pair = true → Completes (.clkmonQualified pair) s fun t =>
      t.rd ⟨Reg.CLK_REFSTAT, pair, 1⟩ = 1 ∧ t.reg Reg.CLK_MONSTAT = s.reg Reg.CLK_MONSTAT ∧ t.mem = s.mem) ∧
    (s.ranMs .pps 1100 = true → Completes .extPpsTimeout s fun t =>
      t.rd F.CLK_REFSTAT_PPS_OK = 0 ∧ RegsBut [Reg.CLK_REFSTAT] s t ∧ t.noRegs = s.noRegs)

/-! ### Aerials and RF (04) -/

/-- The registers that follow when the injector stops: a port's RL and, where its alarm ends, the fault level and its crumb's loss. -/
def rlRegs : List Nat := [Reg.FLT_STAT 1, Reg.CRUMB_LOST] ++ (List.range 4).map Reg.RFP_RL

/-- INJ commands: executed when every masked group is ready, made to wait otherwise, refused while another waits; a waiting command
executes once its groups are ready, or fails after 1 ms and changes no group; a port that group 0 does not inject into has no valid return loss
(R81, R93). -/
def Obligations.Injection : Prop :=
  ∀ (s : State) (owner mask : Nat) (go : Bool), s.inRun 7 = true → s.heard owner = true →
    let cmd : Instr := if go then .injStart owner mask else .injStop owner mask
    let ready := (groupsOf mask).all s.injReady
    let executed (m : Nat) (on : Bool) (t : State) : Prop := t.rf.injWait = none ∧ t.rd F.INJ_STAT_RESULT = 0 ∧
      (∀ g < 3, t.rd (injState g) = if m.testBit g then (if on then 1 else 0) else s.rd (injState g)) ∧
      (∀ p < 4, t.injecting 0 p = false → t.rd (F.RFP_RL_VALID p) = 0) ∧ RegsBut (Reg.INJ_STAT :: rlRegs) s t ∧ t.mem = s.mem
    (s.rf.injWait = none → ready = true → Completes cmd s (executed mask go)) ∧
    (s.rf.injWait = none → ready = false → Completes cmd s fun t =>
      t.rf.injWait = some ⟨go, mask⟩ ∧ t.rd F.INJ_STAT_RESULT = 3 ∧ RegsBut [Reg.INJ_STAT] s t ∧ t.mem = s.mem) ∧
    (s.rf.injWait ≠ none → Completes cmd s fun t =>
      t.rf = s.rf ∧ t.rd F.INJ_STAT_RESULT = 2 ∧ (∀ g < 3, t.rd (injState g) = s.rd (injState g)) ∧
      RegsBut [Reg.INJ_STAT] s t ∧ t.mem = s.mem) ∧
    (s.rf.injWait = some ⟨go, mask⟩ → ready = true → Completes .injCmdReady s (executed mask go)) ∧
    (s.rf.injWait = some ⟨go, mask⟩ → s.ranMs .injWait 1 = true → Completes .injCmdTimeout s fun t =>
      t.rf.injWait = none ∧ t.rd F.INJ_STAT_RESULT = 1 ∧
      (∀ g < 3, t.rd (injState g) = if s.rd (injState g) = 3 then 0 else s.rd (injState g)) ∧
      RegsBut [Reg.INJ_STAT] s t ∧ t.mem = s.mem)

/-- An aerial port: the tuner's search and its end, the bias current's conditions, the trip and its retry, the return loss (R81–R85). What
an event measured is its operand, the model's choice (log 6). -/
def Obligations.AerialPorts : Prop :=
  ∀ (s : State) (owner p ser shunt ma rl : Nat), p < 4 → s.inRun (3 + p) = true → s.heard owner = true →
    (s.on (F.RFP_STAT_TUNE_BUSY p) = false → Completes (.autotune owner p) s fun t =>
      t.rd (F.RFP_STAT_TUNE_BUSY p) = (if s.injecting 0 p then 1 else 0) ∧
      t.rd (F.RFP_STAT_TUNE_REFUSED p) = (if s.injecting 0 p then s.rd (F.RFP_STAT_TUNE_REFUSED p) else 1) ∧
      RegsBut [Reg.RFP_STAT p] s t ∧ t.mem = s.mem) ∧
    (s.on (F.RFP_STAT_TUNE_BUSY p) = true → ser < 64 → shunt < 64 → Completes (.autotuneDone p ser shunt) s fun t =>
      t.rd (F.RFP_TUNE_C_SER p) = ser ∧ t.rd (F.RFP_TUNE_C_SHUNT p) = shunt ∧ t.rd (F.RFP_STAT_TUNE_BUSY p) = 0 ∧
      t.rd (F.RFP_EVT_TUNE_DONE p) = 1 ∧ RegsBut [Reg.RFP_TUNE p, Reg.RFP_STAT p, Reg.RFP_EVT p] s t ∧ t.mem = s.mem) ∧
    (s.on (F.RFP_CTRL_BIAS_EN p) = true → Completes (.biasSense p ma) s fun t =>
      t.rd (F.RFP_BIAS_CURRENT p) = Nat.min 255 ma ∧
      t.rd (F.RFP_BIAS_OPEN p) = (if ma < 2 ∧ 1 ≤ (s.port p).openRun then 1 else 0) ∧
      t.rd (F.RFP_BIAS_SHORT p) = (if 120 < ma ∧ 1 ≤ (s.port p).shortRun then 1 else 0) ∧
      RegsBut [Reg.RFP_BIAS p, Reg.RFP_EVT p] s t ∧ t.mem = s.mem) ∧
    (s.biasOn p = true → s.on (F.RFP_BIAS_SHORT p) = true → Nat.max 1 (s.rd (F.RFP_BIASCFG_SHORT_MS p)) ≤ (s.port p).shortRun →
      Completes (.biasTrip p) s fun t =>
        t.rd (F.RFP_BIAS_TRIPPED p) = 1 ∧ t.rd (F.RFP_EVT_TRIP p) = 1 ∧ look 0 t.safety.level (47 + p) = 1 ∧ t.mem = s.mem) ∧
    (s.on (F.RFP_BIAS_TRIPPED p) = true → Completes (.biasRetry owner p) s fun t =>
      t.rd (F.RFP_BIAS_TRIPPED p) = 0 ∧ t.rd (F.RFP_BIAS_OPEN p) = 0 ∧ t.rd (F.RFP_BIAS_SHORT p) = 0 ∧
      (t.port p).shortRun = 0 ∧ look 0 t.safety.level (47 + p) = 0 ∧ t.mem = s.mem) ∧
    (s.injecting 0 p = true → Completes (.rlEstimate p rl) s fun t =>
      t.rd (F.RFP_RL_RL p) = Nat.min 1023 rl ∧ t.rd (F.RFP_RL_VALID p) = 1 ∧
      (rl < s.rd (F.RFP_RLCFG_THR p) → 1 ≤ (s.port p).lowRl → look 0 t.safety.level (43 + p) = 1) ∧
      (s.rd (F.RFP_RLCFG_THR p) ≤ rl → look 0 t.safety.level (43 + p) = 0) ∧ t.mem = s.mem)

/-- LO calibration from its command to its end, and external blanking (R88–R98). What an event measured is its
operand, the model's choice (log 6). -/
def Obligations.CalibrationAndBlanking : Prop :=
  ∀ (s : State) (owner mask g k start width : Nat), g < 3 → s.inRun 1 = true → s.heard owner = true →
    Completes (.loCalCommand owner mask) s (fun t =>
      (∀ h < 3, mask.testBit h = false ∨ s.on (calBusy h) = true → t.rd (calBusy h) = s.rd (calBusy h) ∧ t.rd (calNolock h) = s.rd (calNolock h)) ∧
      (∀ h < 3, mask.testBit h = true → s.on (calBusy h) = false →
        if s.locked h then t.rd (calBusy h) = 1 ∧ t.rd (calNolock h) = s.rd (calNolock h)
        else t.rd (calNolock h) = 1 ∧ t.rd (calBusy h) = 0) ∧
      RegsBut [Reg.ADC_LOCAL_STAT] s t ∧ t.mem = s.mem) ∧
    (s.on (calBusy g) = true → s.calibrating g = false → s.locked g = true → Completes (.loCalibration g) s fun t =>
      t.calibrating g = true ∧ (∀ m < 12, m % 3 = g → (look 0 t.sample.adcReasons m).testBit 2 = true) ∧
      (s.rd (injState g) = 1 → t.rd (injState g) = 2) ∧ RegsBut (Reg.INJ_STAT :: rlRegs) s t ∧ t.mem = s.mem) ∧
    (s.on (calBusy g) = true → s.calibrating g = false → s.locked g = false → Completes (.loCalibration g) s fun t =>
      t.rd (calBusy g) = 0 ∧ t.rd (calNolock g) = 1 ∧ RegsBut [Reg.ADC_LOCAL_STAT] s t ∧ t.noRegs = s.noRegs) ∧
    (s.calibrating g = true → Completes (.loCalComplete g) s fun t =>
      t.calibrating g = false ∧ t.rd (calBusy g) = 0 ∧ t.rd (calPending g) = 0 ∧
      RegsBut [Reg.ADC_LOCAL_STAT, Reg.INJ_STAT] s t ∧ t.mem = s.mem) ∧
    (k < 4 → s.inputOn (28 + k) 0 = true → s.on (F.ADC_BLANK_CFG_EN k) = true → s.rd (F.ADC_BLANK_CFG_GLITCH k) ≤ width → Completes (.blankAssert k start width) s fun t =>
      (∀ m < 12, look [] t.sample.blanked m = look [] s.sample.blanked m ++
        if (s.rd (F.ADC_BLANK_MASK_MASK k)).testBit m then
          [(s.sample.gridCount + start - Nat.min 2457 (s.rd (F.ADC_BLANK_LEAD_LEAD k)),
            s.sample.gridCount + start + width + s.rd (F.ADC_BLANK_LAG_LAG k))]
        else []) ∧
      RegsBut ((List.range 12).map Reg.ADC_BLANKCNT) s t ∧ t.mem = s.mem)

/-! ### The sample path (05) -/

/-- GRID_BOUNDARY moves the grid on by 245,760 SCLK periods, opens the next block of a stream that keeps its configuration, and starts one
that is enabled, valid and meets no other's pages; BLOCK_COMPLETE stores the samples of the oldest block that awaits them, mixed
with the stream's NCO, 0 where the
Sieve blanks one and held to ±7, unless its slot is pinned; BLOCK_WINDOW_CLOSE drops the block and moves every track whose next block
it was, and that no sweep holds, on to the next; a read of LAST_SEQ gives the most recent complete block (R10–R12, R102, R103, R105, R110,
R114). What an event measured is its operand, the model's choice (log 6). -/
def Obligations.BlocksFlow : Prop :=
  ∀ (s : State) (owner n : Nat) (is qs aheadI aheadQ : List Int) (adcs : List AdcMeas) (b : Block)
    (tones : List (List (Nat × Nat × Nat))), n < 24 → s.heard owner = true →
    let mixed := turned (ncoPhase b.cfg.freq b.start) (Config.freeNat s.free) (padded b.len (is.zip qs) ++ aheadI.zip aheadQ)
    let samples := mixed.take b.len
    (s.inRun 1 = true → s.rd (F.PLL_STAT_STATE 3) ≠ 0 → Completes (.gridBoundary adcs tones) s fun t =>
      t.sample.gridCount = s.sample.gridCount + 245760 ∧ t.sample.boundaryNow = s.now ∧
      (s.inRun 7 = true → s.streamKeeps n = true → (t.stream n).nextSeq = (s.stream n).nextSeq + 1 ∧ (t.stream n).cfg = (s.stream n).cfg ∧
        ∃ c, (t.stream n).blocks.head? = some c ∧ c.seq = (s.stream n).nextSeq ∧ c.start = t.sample.gridCount) ∧
      (s.inRun 7 = true → s.streamStarts n = true → s.streamConflicts n = false →
        t.rd (F.CHZ_STR_STAT_STATE n) = 2 ∧ (t.stream n).nextSeq = 1 ∧ (t.stream n).cfg = s.cfgOf n)) ∧
    (s.inRun 7 = true → (s.stream n).ripe = some b → Completes (.blockComplete n is qs aheadI aheadQ) s fun t =>
      (∃ c, (t.stream n).newest = some c ∧ c.seq = b.seq ∧ c.complete = true ∧ (b.passed = false → c ∈ (t.stream n).blocks)) ∧
      (b.reasons &&& pinDropBit ≠ 0 → t.mem = s.mem) ∧
      (b.reasons &&& pinDropBit = 0 → ∀ i < b.len,
        ((b.blanks (padded b.len samples) (mixed.drop b.len)).1.getD i false = true → t.byte (b.addr + i) = 0) ∧
        (pbEn b.pbCfg = false → b.scale = 0 → (t.byte (b.addr + i)).toNat =
          unsigned 4 (held (-7) 7 (samples.getD i (0, 0)).1) + 16 * unsigned 4 (held (-7) 7 (samples.getD i (0, 0)).2))) ∧
      BytesBut b.addr b.len s t ∧ RegsBut [Reg.SIEVE_PB_STAT n, Reg.SIEVE_PB_TOTAL n, Reg.CHZ_STR_STAT n] s t) ∧
    ((s.stream n).blocks.reverse.find? (fun c => decide (c.seq % 2 ^ 32 = b.seq % 2 ^ 32) && !c.window && !c.passed) = some b →
      Completes (.blockWindowClose n b.seq) s fun t =>
        b ∉ (t.stream n).blocks ∧
        ∀ k < 4096, s.trkEn k = true → s.trkStream k = n → s.seqNext k = b.seq % 2 ^ 32 → (∀ p < 6, (s.pod p).sweep = none) →
          t.seqNext k = if b.last then 0 else (b.seq + 1) % 2 ^ 32) ∧
    (s.inRun 7 = true →
      ((s.stream n).newest = some b → Completes (.lastSeqRead owner n) s fun t =>
        t.answer = ⟨owner, .ok, 0, BitVec.ofNat 32 b.seq⟩ ∧ t.rd (F.RING_STR_LAST_NS_NS n) = dtNs b.tag ∧
        RegsBut [Reg.RING_STR_LAST_NS n, Reg.RING_STR_LAST_SEC_LO n, Reg.RING_STR_LAST_SEC_HI n, Reg.RING_STR_LAST_INFO n] s t ∧
        t.mem = s.mem ∧ t.sample = s.sample) ∧
      ((s.stream n).newest = none → Completes (.lastSeqRead owner n) s fun t =>
        t.answer = ⟨owner, .ok, 0, 0⟩ ∧ t.noAnswer = s.noAnswer))

/-! ### The correlator fabric (06) -/

/-- SWEEP_START takes the block whose window closes first, at most one eligible track on each working lane, none whose context has an
uncorrectable error; where no block waits, a lane's self-check is due or a SUSPECT lane would be retried with the track that failed there, it takes none. SWEEP_WRITEBACK ends the sweep, moves its tracks
on and raises or lowers the residue source. In a self-check a lane that passes restarts its compare interval, one that mismatches
becomes SUSPECT or leads to the verdict, which takes the lanes that failed their retry, or with two mismatches the husk, out of service. RETEST returns a lane
that passes to service (R116–R120, R133, R141, R144–R146, R424). What an event measured is its operand, the model's choice (log 6). -/
def Obligations.PodsSweep : Prop :=
  ∀ (s : State) (owner p lanes pass l left n residue mism : Nat) (ls : List Nat) (bad : Bool) (b : Block) (w : Sweep), p < 6 → s.heard owner = true →
    let suspect (t : State) (k : Nat) : Bool := (t.rd (F.POD_HUSK_STAT_SUSPECT p)).testBit k
    (s.podSweeps p = true → (s.pod p).sweep = none → (s.pod p).verdict = [] →
      (earliest (s.candidates p) = some (left, n, b) → s.selfCheckDue p (b.len / 16) = false →
          s.retryBars p ((s.lanesOk p).zip (s.laneTracks p n b)) = false → Completes (.sweepStart p) s fun t =>
        (∃ v, (t.pod p).sweep = some v ∧ v.stream = n ∧ v.seq = b.seq ∧ v.lanes.length ≤ 8 ∧
          ∀ e ∈ v.lanes, s.eligible p e.2 n b = true ∧ (s.rd (F.POD_STAT_LANE_OK p)).testBit e.1 = true ∧
            s.badIn (ctxAddr e.2) 0x200 = false) ∧
        ((∀ e ∈ s.ecc, e.2 ≠ 2) → (∀ q, q ≠ p → t.pod q = s.pod q) ∧ t.regs = s.regs ∧ t.mem = s.mem)) ∧
      (earliest (s.candidates p) = none ∨ earliest (s.candidates p) = some (left, n, b) ∧ (s.selfCheckDue p (b.len / 16) = true ∨
          s.retryBars p ((s.lanesOk p).zip (s.laneTracks p n b)) = true) →
        Completes (.sweepStart p) s fun t => t = s)) ∧
    ((s.pod p).sweep = some w → s.blockOf w.stream w.seq = some b → (w.lanes.map (·.2)).Nodup → (∀ e ∈ w.lanes, e.2 < 4096) →
      Completes (.sweepWriteback p residue bad) s fun t =>
        (t.pod p).sweep = none ∧ (t.pod p).sweeps = (s.pod p).sweeps + 1 ∧
        look 0 t.safety.level p = (if residue % 512 = 0 then 0 else 1) ∧
        ∀ e ∈ w.lanes, t.seqNext e.2 = (s.seqNext e.2 + 1) % 2 ^ 32) ∧
    (s.podSweeps p = true → (s.pod p).sweep = none → s.on (F.POD_STAT_HUSK_OK p) = true →
      ((s.pod p).verdict = [] → Completes (.selfCheckSweep p mism) s fun t =>
        (t.pod p).selfchk = (s.pod p).selfchk + 1 ∧
        (∀ k ∈ s.lanesOk p,
          (mism.testBit k = false → suspect t k = false ∧ look 0 (t.pod p).compared k = s.now) ∧
          (mism.testBit k = true → suspect t k = true ∧ (suspect s k = true → k ∈ (t.pod p).verdict))) ∧
        RegsBut [Reg.POD_HUSK_STAT p, Reg.POD_HUSK_MISM p, Reg.POD_EVT p] s t ∧ t.mem = s.mem) ∧
      ((s.pod p).verdict = l :: ls → (∀ k ∈ l :: ls, k < 8) → Completes (.selfCheckSweep p mism) s fun t =>
        (t.pod p).selfchk = (s.pod p).selfchk + 1 ∧ (t.pod p).verdict = [] ∧ look 0 t.safety.level (6 + p) = 1 ∧
        (if 2 ≤ ((s.lanesOk p).filter mism.testBit).length then t.on (F.POD_STAT_HUSK_OK p) = false
          else (∀ k ∈ l :: ls, (t.rd (F.POD_STAT_LANE_OK p)).testBit k = false) ∧ t.on (F.POD_STAT_HUSK_OK p) = true) ∧ t.mem = s.mem)) ∧
    (s.inRun (8 + p) = true → l < 8 → lanes.testBit l = true → pass.testBit l = true → Completes (.retest owner p lanes pass) s fun t =>
      (t.rd (F.POD_STAT_LANE_OK p)).testBit l = true ∧ (t.rd (F.POD_HUSK_STAT_FAILED p)).testBit l = false ∧ t.mem = s.mem)

/-- TRK_CMD and its effects: START enables a track whose context is in order, refuses an enabled one with result 2 and one out of order
with CFG_ERR and the reason; STOP and MOVE of an enabled track are requests that take effect later, STOP of another makes it IDLE; CLEAR zeroes a context (R142, R221).
Which of several reasons START reports is the model's choice (log 26). -/
def Obligations.TrackCommands : Prop :=
  ∀ (s : State) (owner k p r : Nat) (atSeq : Bool), s.inRun 1 = true → s.heard owner = true → k < 4096 → s.trkBusy = false →
    let n := s.trkStream k
    let seq := if atSeq then s.rd F.TRK_START_SEQ_SEQ else s.nextToComplete n
    let behind := s.behind n seq
    (s.trkEn k = false → s.startReason k = none → s.inRun (8 + s.trkPod k) = true →
      (behind ≤ 64 → Completes (.trkStart owner k atSeq) s fun t =>
        t.rd F.TRK_RESULT_RESULT = 0 ∧ t.trkEn k = true ∧ t.seqNext k = (seq + behind) % 2 ^ 32 ∧ t.trkState k = s.trkState k ∧
        t.rd F.TRK_ACTIVE_COUNT = (s.rd F.TRK_ACTIVE_COUNT + 1) % 2 ^ F.TRK_ACTIVE_COUNT.w ∧ BytesBut (ctxAddr k) 0x200 s t) ∧
      (64 < behind → Completes (.trkStart owner k atSeq) s fun t =>
        t.rd F.TRK_RESULT_RESULT = 5 ∧ RegsBut [Reg.TRK_RESULT] s t ∧ t.mem = s.mem ∧ t.fabric = s.fabric)) ∧
    (s.trkEn k = true → Completes (.trkStart owner k atSeq) s fun t =>
      t.rd F.TRK_RESULT_RESULT = 2 ∧ RegsBut [Reg.TRK_RESULT] s t ∧ t.mem = s.mem ∧ t.fabric = s.fabric) ∧
    (s.trkEn k = false → s.startReason k = some r → r < 16 → Completes (.trkStart owner k atSeq) s fun t =>
      t.rd F.TRK_RESULT_RESULT = 3 ∧ t.rd F.TRK_CFGERR_TRACK = k ∧ t.rd F.TRK_CFGERR_REASON = r ∧
      RegsBut [Reg.TRK_RESULT, Reg.TRK_CFGERR] s t ∧ t.mem = s.mem ∧ t.fabric = s.fabric) ∧
    (s.trkEn k = true → Completes (.trkStop owner k) s fun t =>
      (t.trk k).stopping = true ∧ t.rd F.TRK_RESULT_PENDING = 1 ∧ t.rd F.TRK_RESULT_RESULT = 0 ∧
      (∀ q, q ≠ k → t.trk q = s.trk q) ∧ RegsBut [Reg.TRK_RESULT] s t ∧ t.mem = s.mem) ∧
    (s.trkEn k = false → Completes (.trkStop owner k) s fun t =>
      t.trkState k = 0 ∧ t.rd F.TRK_RESULT_RESULT = 0 ∧ BytesBut (ctxAddr k) 4 s t ∧ RegsBut [Reg.TRK_RESULT] s t ∧
      t.fabric = s.fabric) ∧
    (s.trkEn k = true → (s.trk k).stopping = false → p < 6 → s.inRun (8 + p) = true → Completes (.trkMove owner k p) s fun t =>
      (t.trk k).moveTo = some p ∧ t.rd F.TRK_RESULT_PENDING = 1 ∧ (∀ q, q ≠ k → t.trk q = s.trk q) ∧
      RegsBut [Reg.TRK_RESULT] s t ∧ t.mem = s.mem) ∧
    (s.trkEn k = false → s.lostOk = true → Completes (.trkClear owner k) s fun t =>
      (∀ i < 0x200, t.byte (ctxAddr k + i) = 0) ∧ BytesBut (ctxAddr k) 0x200 s t ∧ t.rd F.TRK_RESULT_RESULT = 0 ∧
      RegsBut [Reg.TRK_RESULT] s t)

/-- The effects of STOP and MOVE, a write to a context (refused below 0x140 of an enabled track), the scrubber, and the end of the
clearing after a wake (R16, R140–R142). -/
def Obligations.ContextStore : Prop :=
  ∀ (s : State) (owner k p off err : Nat) (v : Word), s.inRun 1 = true → s.heard owner = true → k < 4096 → s.lostOk = true →
    let upset := Nat.max err (look 0 s.ecc (0x0C000000 + s.fabric.scrubAt))
    ((s.trk k).stopping = true → s.inSweep k = false → s.programRuns k = false → Completes (.trkStopEffect k) s fun t =>
      t.trkEn k = false ∧ t.trkState k = 0 ∧ (t.trk k).stopping = false ∧
      ((s.trk k).byCommand = true → t.rd F.TRK_RESULT_PENDING = 0) ∧ BytesBut (ctxAddr k) 0x10 s t) ∧
    ((s.trk k).moveTo = some p → p < 6 → (s.trk k).busy = false → s.inSweep k = false →
      s.stackOpens k = true →
      Completes (.trkMoveEffect k) s fun t =>
        t.trkPod k = p ∧ (t.trk k).moveTo = none ∧ t.trkEn k = s.trkEn k ∧ BytesBut (ctxAddr k) 4 s t) ∧
    (off < 0x200 → off % 4 = 0 → s.on F.TRK_SCRUB_CLEARING = false →
      Completes (.trackContextWrite owner (ctxAddr k + off) v) s fun t =>
        if s.trkEn k = true ∧ off < 0x140 then
          t.mem = s.mem ∧ t.answer.status = .tgtErr ∧ t.rd F.TRK_WRBLOCK_OWNER = owner % 64 ∧
          t.rd F.TRK_WRBLOCK_COUNT = Nat.min (2 ^ F.TRK_WRBLOCK_COUNT.w - 1) (s.rd F.TRK_WRBLOCK_COUNT + 1) ∧
          RegsBut [Reg.TRK_WRBLOCK, Reg.TRK_WRBLOCK_ADDR] s t
        else
          t.ld32 (ctxAddr k + off) = (if off = 0 then withBits (v &&& ctxMask 0) 3 1 0 else v &&& ctxMask off) ∧ BytesBut (ctxAddr k + off) 4 s t ∧
          t.answer = ⟨owner, .ok, 0, 0⟩ ∧ t.regs = s.regs) ∧
    (s.on F.TRK_SCRUB_CLEARING = false → s.fabric.scrubAt < 524288 → Completes (.scrub err) s fun t =>
      (upset < 2 → t.fabric.scrubAt = (s.fabric.scrubAt + 1) % 524288 ∧ t.mem = s.mem) ∧
      (upset = 0 → look 0 t.safety.level 12 = 0) ∧
      (upset = 1 → t.rd F.TRK_ECC_CORRECTED = Nat.min (2 ^ F.TRK_ECC_CORRECTED.w - 1) (s.rd F.TRK_ECC_CORRECTED + 1) ∧
        look 0 t.ecc (0x0C000000 + s.fabric.scrubAt) = 0 ∧ RegsBut [Reg.TRK_ECC, Reg.TRK_SCRUB] s t) ∧
      (2 ≤ upset → t.trkState (s.fabric.scrubAt / 128) = 6 ∧ t.trkEn (s.fabric.scrubAt / 128) = false ∧
        look 0 t.safety.level 12 = 1)) ∧
    (s.on F.TRK_SCRUB_CLEARING = true → Completes .trkWakeClearDone s fun t =>
      t.rd F.TRK_SCRUB_CLEARING = 0 ∧ (∀ a, 0x30000000 ≤ a → a < 0x30200000 → t.byte a = 0) ∧
      BytesBut 0x30000000 0x200000 s t ∧ RegsBut [Reg.TRK_SCRUB] s t)

/-! ### Lyzovel: values, filters, NCO control, control flow (07, 08) -/

namespace Sys2Proof.Machine

/-- Engine `e` issues an instruction now, from a word it may fetch and whose ECC holds, of a class that is legal on it (R156–R158). -/
abbrev State.Ready (s : State) (e : Nat) (legal : Kind → Bool) : Prop :=
  s.issues e = true ∧ State.fetchOk e (s.eng e).pc = true ∧ legal (kindOf e) = true ∧ s.badIn (s.pcByte e) 4 = false

/-- Engine `e` as it was, but for registers, FL, position and run time. -/
def Engine.rest (x : Engine) : Engine := { x with g := [], fl := 0, pc := 0, loops := [], ran := 0 }

/-- The state outside Lyzovel, but for the pods and the count of free values. -/
def State.beyond (s : State) : State := { s with lyz := {}, free := 0, fabric := { s.fabric with pods := [] } }

/-- Engine `e` changed no pod but for its own program cache, which a track sequencer's fetch fills (R160). -/
def PodsButCache (e : Nat) (s t : State) : Prop :=
  (∀ p, { t.pod p with cache := [] } = { s.pod p with cache := [] }) ∧ ∀ p, kindOf e ≠ .track ∨ p ≠ e / 4 → t.pod p = s.pod p

/-- From `s` to `t` engine `e` went on to the word that follows in program order, changed at most register `d`, FL and what `rest` leaves
out, and every other engine and everything outside Lyzovel but the count of free values and the program cache is as before. -/
def GoesOn (e d fl : Nat) (s t : State) : Prop :=
  (∀ r, r ≠ d ∨ r = 0 → t.g e r = s.g e r) ∧ (t.eng e).fl = (s.eng e).fl ||| fl ∧
  ((t.eng e).pc, (t.eng e).loops) = nextPc (s.eng e).calls.length (s.eng e).pc (s.eng e).loops ∧
  (∀ f, f ≠ e → t.eng f = s.eng f) ∧ t.beyond = s.beyond ∧ PodsButCache e s t

/-- The command gives register `d` of engine `e` the value `v`, sets the bits `fl` of FL, and does nothing else; g0 stays zero. -/
def Yields (c : Instr) (s : State) (e d : Nat) (v : Word) (fl : Nat) : Prop :=
  Completes c s fun t => GoesOn e d fl s t ∧ (d ≠ 0 → t.g e d = v) ∧ (t.eng e).rest = (s.eng e).rest

/-- Engine `e` has faulted with `code`: a track program is abandoned and its track LOST, a context FAULTED, or OFF where its fault let SEQ go,
a DMA channel FAULTED, unless its owner is reset by what the votes then do (R162, R195, R196, R374). -/
def Faulted (e code : Nat) (s t : State) : Prop :=
  match kindOf e with
  | .track => (s.eng e).track < 4096 → t.eng e = {} ∧ t.trkState (s.eng e).track = 6
  | .ctx => t.rd (F.LYZ_CTX_STAT_STATE (e - 32)) = (if t.inRun 18 then 5 else 0) ∧ t.rd (F.LYZ_CTX_STAT_FAULT (e - 32)) = code
  | .dma => (NoneLeft s t → t.rd (F.DMA_PCH_STAT_STATE (e - 40)) = 8) ∧ t.rd (F.DMA_PCH_STAT_FAULT (e - 40)) = code

/-- A number brought into 32 bits with saturation, and the SAT bit (R155). -/
def satWord (x : Int) : Word × Nat :=
  if x < -(2 ^ 31) then (0x80000000, 1) else if 2 ^ 31 ≤ x then (0x7FFFFFFF, 1) else (BitVec.ofInt 32 x, 0)

/-- Class A as the spec's table gives it (R163, R164): each instruction with its result and the bits of FL it sets. -/
def arithRows (s : State) (e d a b n imm : Nat) (i : Int) : List (Instr × Word × Nat) :=
  let x := s.g e a
  let y := s.g e b
  let z := s.g e d
  let p := x.toInt * y.toInt
  let q := (p + 2 ^ 30) / 2 ^ 31
  [ (.add e d a b, x + y, 0), (.sub e d a b, x - y, 0), (.addS e d a b, satWord (x.toInt + y.toInt)),
    (.subS e d a b, satWord (x.toInt - y.toInt)), (.and e d a b, x &&& y, 0), (.or e d a b, x ||| y, 0), (.xor e d a b, x ^^^ y, 0),
    (.slt e d a b, if x.toInt < y.toInt then 1 else 0, 0), (.sltu e d a b, if x.toNat < y.toNat then 1 else 0, 0),
    (.min e d a b, if x.toInt ≤ y.toInt then x else y, 0), (.max e d a b, if x.toInt ≤ y.toInt then y else x, 0),
    (.abs e d a, satWord (if x.toInt < 0 then -x.toInt else x.toInt)), (.sll e d a b, x <<< (y.toNat % 32), 0),
    (.srl e d a b, x >>> (y.toNat % 32), 0), (.sra e d a b, x.sshiftRight (y.toNat % 32), 0) ] ++
  [ (.addi e d a i, x + BitVec.ofInt 32 i, 0), (.andi e d a imm, x &&& BitVec.ofNat 32 imm, 0), (.ori e d a imm, x ||| BitVec.ofNat 32 imm, 0),
    (.lui e d imm, BitVec.ofNat 32 imm <<< 16, 0), (.slli e d a n, x <<< n, 0), (.srli e d a n, x >>> n, 0),
    (.srai e d a n, x.sshiftRight n, 0), (.srar e d a n, if n = 0 then x else BitVec.ofInt 32 ((x.toInt + 2 ^ (n - 1)) / 2 ^ n), 0),
    (.mul e d a b, x * y, 0), (.mulh e d a b, BitVec.ofInt 32 (p / 2 ^ 32), 0),
    (.mulhu e d a b, BitVec.ofNat 32 (x.toNat * y.toNat / 2 ^ 32), 0), (.mulQ e d a b, satWord q), (.mac e d a b, z + x * y, 0),
    (.macQ e d a b, satWord (z.toInt + q)), (.msubQ e d a b, satWord (z.toInt - q)) ] ++
  [ (.clz e d a, BitVec.ofNat 32 (if x = 0 then 32 else 31 - x.toNat.log2), 0),
    (.norm e d a, let m := if x.toInt < 0 then ~~~x else x; BitVec.ofNat 32 (if m = 0 then 31 else 30 - m.toNat.log2), 0) ]

/-- A number's square with the number's sign, which keeps the order. -/
def signSq (z : Int) : Int := z * z.natAbs

/-- Register `d` holds the angle of x + jy in C32, within 2^-16 cycle (R164); `angle` gives it in units of 2^-64 cycle, within 64 of them. -/
def HoldsAngle (e d : Nat) (x y : Int) (t : State) : Prop :=
  d ≠ 0 → let miss := ((t.g e d).toInt * 2 ^ 32 - angle x y) % 2 ^ 64
    miss ≤ 2 ^ 48 ∨ 2 ^ 64 - 2 ^ 48 ≤ miss

end Sys2Proof.Machine

/-- The words of the instruction set: every well-formed command that has a word is what its word spells, with every operand at every value the
encoding admits; and a word that spells a command is that command's only word (R156, R157, R163, R165, R168, R177, R180, R184, R188). -/
def Obligations.WordsRoundTrip : Prop :=
  (∀ (i : Instr) (e : Nat) (w : Word), i.wf = true → lyzEncode i = some (e, w) → lyzDecode e w = some i) ∧
  ∀ (i : Instr) (e : Nat) (w : Word), engineOk e = true → lyzDecode e w = some i → i.wf = true ∧ lyzEncode i = some (e, w)

/-- Class A: results, flags and frame of the instructions that have one exact result (R151, R155, R163, R164). -/
def Obligations.ArithmeticResults : Prop :=
  ∀ (s : State) (e d a b n imm : Nat) (i : Int), s.Ready e notDma → d < 32 → n < 32 → imm < 65536 →
    ∀ row ∈ arithRows s e d a b n imm i, Yields row.1 s e d row.2.1 row.2.2

/-- sat clamps to n + 1 bits with SAT where it does, and faults ILLEGAL_OP with n = 0; mag is within a relative 2^-15, plus 1 LSB, of the
length, or saturates with SAT; atan2 of (0, 0) is 0 with ZDEN, and elsewhere it is within 2^-16 cycle of the vector's angle, which is computed
in units of 2^-64 cycle and lies within 64 of them of the axes and diagonals (R151, R155, R164). Which of those numbers it is, is open. -/
def Obligations.SatMagAtan : Prop :=
  ∀ (s : State) (e d a b n : Nat), s.Ready e notDma → d < 32 →
    let x := (s.g e a).toInt
    let y := (s.g e b).toInt
    let sq := x * x + y * y
    (0 < n → n < 32 → Yields (.sat e d a n) s e d
      (if x < -(2 ^ n) then BitVec.ofInt 32 (-(2 ^ n)) else if 2 ^ n ≤ x then BitVec.ofInt 32 (2 ^ n - 1) else s.g e a)
      (if -(2 ^ n) ≤ x ∧ x < 2 ^ n then 0 else 1)) ∧
    Completes (.sat e d a 0) s (Faulted e 1 s) ∧
    Completes (.mag e d a b) s (fun t => ∃ fl < 2, GoesOn e d fl s t ∧ (t.eng e).rest = (s.eng e).rest ∧
      (d ≠ 0 → let v := (t.g e d).toInt
        0 ≤ v ∧ (1 ≤ v → (2 ^ 15 * (v - 1)) ^ 2 ≤ (2 ^ 15 + 1) ^ 2 * sq) ∧
        (if fl = 0 then (2 ^ 15 - 1) ^ 2 * sq ≤ (2 ^ 15 * (v + 1)) ^ 2 else v = 2 ^ 31 - 1))) ∧
    (x = 0 → y = 0 → Yields (.atan2 e d a b) s e d 0 2) ∧
    (¬ (x = 0 ∧ y = 0) → Completes (.atan2 e d a b) s fun t =>
      GoesOn e d 0 s t ∧ (t.eng e).rest = (s.eng e).rest ∧ HoldsAngle e d x y t) ∧
    ∀ row ∈ [((1 : Int), (0 : Int), (0 : Int)), (1, 1, 1), (0, 1, 2), (-1, 1, 3), (-1, 0, 4), (-1, -1, -3), (0, -1, -2), (1, -1, -1)],
      (angle row.1 row.2.1 - row.2.2 * 2 ^ 61).natAbs ≤ 64

namespace Sys2Proof.Machine

/-- mulr and the saturating sum, with their SAT bits (R155, R165). -/
def mulS (k err : Int) : Int × Nat := ((satWord ((k * err + 2 ^ 30) / 2 ^ 31)).1.toInt, (satWord ((k * err + 2 ^ 30) / 2 ^ 31)).2)
def sumS (x : Int) : Int × Nat := ((satWord x).1.toInt, (satWord x).2)

/-- A normalisation to Q31, with ZDEN where the denominator is 0 (R165). -/
def ratioS (x y : Int) : Word × Nat := if y = 0 then (0, 2) else satWord ((x * 2 ^ 32 + y) / (2 * y))

/-- lf.upd's new states and output: the second-order form on k[n]..k[n+2], the third-order form on k[n]..k[n+4] (R167). -/
def loopOut (s : State) (e n : Nat) (err : Int) (third : Bool) : (Int × Nat) × (Int × Nat) × (Int × Nat) :=
  let i2 := sumS (s.ki e (n + 4) + (mulS (s.ki e (n + 2)) err).1)
  let i1 := if third then sumS (s.ki e (n + 3) + i2.1 + (mulS (s.ki e (n + 1)) err).1)
    else sumS (s.ki e (n + 2) + (mulS (s.ki e (n + 1)) err).1)
  (i2, i1, sumS (i1.1 + (mulS (s.ki e n) err).1))

end Sys2Proof.Machine

/-- Discriminators on the closed stack's sums: quotients rounded to the nearest, halves up, that of fll.cross by a square root; angles within
2^-16 cycle, Costas and data forms within a quarter cycle of 0; ZDEN on a zero denominator; lf.blend; d.pow (R151, R164–R167). -/
def Obligations.DiscriminatorResults : Prop :=
  ∀ (s : State) (e d a b n early late prompt shift : Nat) (pe four : Bool), s.Ready e onTrack → d < 32 → early < 8 → late < 8 →
    prompt < 8 → shift < 32 → n < 128 → s.badIn (ctxAddr (s.eng e).track) 0x200 = false →
    let x := s.tapIQ e early false
    let y := s.tapIQ e late false
    let v := s.tapIQ e prompt pe
    let u := s.tapIQ e prompt false
    let cr := s.gi e a * v.2 - s.gi e b * v.1
    let dt := s.gi e a * v.1 + s.gi e b * v.2
    let turn (c : Instr) (x y : Int) : Prop := Completes c s fun t =>
      GoesOn e d 0 s t ∧ (t.eng e).rest = (s.eng e).rest ∧ HoldsAngle e d x y t
    let norm := fun (z : Int × Int) => z.1 * z.1 + z.2 * z.2
    Yields (.dllNelp e d early late) s e d (ratioS (norm x - norm y) (norm x + norm y)).1 (ratioS (norm x - norm y) (norm x + norm y)).2 ∧
    Yields (.dllDot e d early late prompt) s e d (ratioS ((x.1 - y.1) * u.1 + (x.2 - y.2) * u.2) (norm u)).1
      (ratioS ((x.1 - y.1) * u.1 + (x.2 - y.2) * u.2) (norm u)).2 ∧
    (v = (0, 0) → Yields (.pllCostas e d prompt pe four) s e d 0 2) ∧
    (v.1 = 0 → v.2 ≠ 0 → Yields (.pllCostas e d prompt pe false) s e d (if 0 < v.2 then 0x40000000 else 0xC0000000) 0) ∧
    (v ≠ (0, 0) → turn (.pllCostas e d prompt pe true) v.1 v.2) ∧
    (v ≠ (0, 0) → turn (.pllCostas e d prompt pe false) v.1.natAbs (if v.1 < 0 then -v.2 else v.2)) ∧
    (norm (s.gi e a, s.gi e b) * norm v = 0 → Yields (.fllCross e d a b prompt pe) s e d 0 2) ∧
    (let den := norm (s.gi e a, s.gi e b) * norm v
      let num := (if dt < 0 then -cr else cr) * 2 ^ 32
      den ≠ 0 → Completes (.fllCross e d a b prompt pe) s fun t => ∃ fl < 2, GoesOn e d fl s t ∧ (t.eng e).rest = (s.eng e).rest ∧
        (d ≠ 0 → let r := (t.g e d).toInt
          if fl = 0 then signSq (2 * r - 1) * den ≤ signSq num ∧ signSq num < signSq (2 * r + 1) * den
          else r = 2 ^ 31 - 1 ∧ signSq (2 ^ 32 - 1) * den ≤ signSq num)) ∧
    (∀ data, cr = 0 ∧ dt = 0 → Yields (.fllAtan e d a b prompt pe data) s e d 0 2) ∧
    (¬ (cr = 0 ∧ dt = 0) → turn (.fllAtan e d a b prompt pe false) dt cr ∧
      turn (.fllAtan e d a b prompt pe true) dt.natAbs (if dt < 0 then -cr else cr)) ∧
    (0 ≤ s.ki e n → Yields (.lfBlend e d a b n) s e d (satWord (s.gi e a + (s.ki e n * (s.gi e b - s.gi e a) + 2 ^ 30) / 2 ^ 31)).1
      (satWord (s.gi e a + (s.ki e n * (s.gi e b - s.gi e a) + 2 ^ 30) / 2 ^ 31)).2) ∧
    (s.ki e n < 0 → Yields (.lfBlend e d a b n) s e d (s.g e a) 4) ∧
    (∀ mode < 3, let p := if mode = 0 then norm v else if mode = 1 then v.1 * v.1 - v.2 * v.2 else v.1 * v.1
      let r := satWord (if shift = 0 then p else (p + 2 ^ (shift - 1)) / 2 ^ shift)
      Yields (.dPow e d prompt pe mode shift) s e d r.1 r.2) ∧
    (∀ mode ≥ 3, Completes (.dPow e d prompt pe mode shift) s (Faulted e 1 s))

/-- lf.upd writes its state words in k80–k127 and its output, with SAT where any of them saturates; a block outside k80–k127 faults
K_PROT, and the track is LOST (R162, R167). -/
def Obligations.LoopFilterUpdates : Prop :=
  ∀ (s : State) (e d a n : Nat) (third : Bool), s.Ready e onTrack → d < 32 → (s.eng e).track < 4096 →
    s.badIn (ctxAddr (s.eng e).track) 0x200 = false →
    let r := loopOut s e n (s.gi e a)
    let base := ctxAddr (s.eng e).track
    (80 ≤ n → n + 3 ≤ 128 → Completes (.lfUpd e d a n false) s fun t =>
      t.ki e (n + 2) = (r false).2.1.1 ∧ BytesBut (base + 4 * (n + 2)) 4 s t ∧ (d ≠ 0 → t.gi e d = (r false).2.2.1) ∧
      (∀ q, q ≠ d → t.g e q = s.g e q) ∧ t.regs = s.regs ∧
      (t.eng e).fl = (s.eng e).fl ||| (r false).2.1.2 ||| (r false).2.2.2 ||| (mulS (s.ki e n) (s.gi e a)).2 |||
        (mulS (s.ki e (n + 1)) (s.gi e a)).2) ∧
    (80 ≤ n → n + 5 ≤ 128 → Completes (.lfUpd e d a n true) s fun t =>
      t.ki e (n + 4) = (r true).1.1 ∧ t.ki e (n + 3) = (r true).2.1.1 ∧ BytesBut (base + 4 * (n + 3)) 8 s t ∧
      (d ≠ 0 → t.gi e d = (r true).2.2.1) ∧ (∀ q, q ≠ d → t.g e q = s.g e q) ∧ t.regs = s.regs) ∧
    ((n < 80 ∨ 128 < n + if third then 5 else 3) → s.on F.LYZ_CTRL_TRKEV_EN = false → Completes (.lfUpd e d a n third) s fun t =>
      t.trkState (s.eng e).track = 6 ∧ t.eng e = {} ∧ BytesBut base 4 s t ∧
      ((s.on F.LYZ_FLT_INFO_VALID = false) → t.reg Reg.LYZ_FLT_INFO = BitVec.ofNat 32 (24 + e + 256 * 2 + 65536 * (s.eng e).track + 2 ^ 31)))

namespace Sys2Proof.Machine

/-- Class N: each instruction with the old value it reads, the effects it holds until retire and the bits of FL it sets (R168–R172);
`u` is the state as the effects held so far would leave it. -/
def ncoRows (s : State) (e d a b tap : Nat) : List (Instr × Nat × List NEffect × Nat) :=
  let u := s.shadow e
  let k := (s.eng e).track
  let x := s.g e a
  let y := s.g e b
  let clamp := fun (lo hi v : Int) => if v < lo then lo else if hi < v then hi else v
  let off (lo hi v : Int) : Nat := if v < lo ∨ hi < v then 4 else 0
  [ (.ncoCarr e d a, u.cx k 0x44 0 32, [.set 0x44 0 32 x.toNat], 0),
    (.ncoCarrAdd e d a, u.cx k 0x44 0 32, [.carrAdd x.toInt], (satWord (u.carrRate k + x.toInt)).2),
    (.ncoCode e d a b, u.cx k 0x58 0 32,
      if 2 < y.toNat then [.set 0x58 0 32 (2 ^ 32 - 1), .set 0x5C 0 2 2] else [.set 0x58 0 32 x.toNat, .set 0x5C 0 2 y.toNat],
      if 2 < y.toNat then 4 else 0),
    (.ncoCodeAdd e d a, u.cx k 0x58 0 32, [.codeAdd x.toInt], off 0 (3 * 2 ^ 32 - 1) (u.codeRate k + x.toInt)),
    (.tapOff e d a tap, unsigned 32 (u.tapOff k tap),
      [.set (0xC0 + 4 * (tap / 2)) (16 * (tap % 2)) 16 (unsigned 16 (clamp (-2048) 2047 x.toInt))], off (-2048) 2047 x.toInt),
    (.tapAdd e d a tap, unsigned 32 (u.tapOff k tap), [.tapAdd tap x.toInt], off (-2048) 2047 (u.tapOff k tap + x.toInt)),
    (.tapEn e d a, u.cx k 0xD0 0 8, [.set 0xD0 0 8 (x.toNat % 256)], 0),
    (.codeSymlen e d a, u.cx k 0x68 0 10, [.set 0x68 0 10 (clamp 1 1023 x.toNat).toNat], off 1 1023 x.toNat) ] ++
  [ (.codeSympos e d a, u.cx k 0x68 10 10, [.set 0x68 10 10 (Nat.min x.toNat (u.cx k 0x68 0 10 - 1))],
      if u.cx k 0x68 0 10 - 1 < x.toNat then 4 else 0),
    (.codeSel e d a, u.cx k 0 30 1 + 2 * u.cx k 0 29 1, [.set 0 30 1 (x.toNat % 2), .set 0 29 1 (x.toNat / 2 % 2)], 0),
    (.trkStack e d a, u.cx k 0 14 5, [.set 0 14 5 (clamp 1 20 x.toNat).toNat], off 1 20 x.toNat),
    (.trkDuty e d a b, u.cx k 0 19 4,
      [.set 0 19 4 (clamp 1 10 x.toNat).toNat, .set 0 23 4 (Nat.min y.toNat ((clamp 1 10 x.toNat).toNat - 1))],
      off 1 10 x.toNat ||| if (clamp 1 10 x.toNat).toNat - 1 < y.toNat then 4 else 0) ]

end Sys2Proof.Machine

/-- Class N: an instruction gives d the old value and holds its effect until the invocation retires; context memory stays as it is.
trk.state does so for a STATE of 1–6 and faults BAD_STATE otherwise; wipe.ld takes the symbols that fit; nco.cphs and nco.kphs gather
phase steps (R168–R172). -/
def Obligations.NcoEffectsHeld : Prop :=
  ∀ (s : State) (e d a b n tap : Nat), s.Ready e onTrack → d < 32 → tap < 8 →
    let held' (c : Instr) (old : Word) (fx : List NEffect) (fl : Nat) : Prop := Completes c s fun t =>
      GoesOn e d fl s t ∧ (d ≠ 0 → t.g e d = old) ∧ (t.eng e).effects = (s.eng e).effects ++ fx ∧
      { (t.eng e).rest with effects := [] } = { (s.eng e).rest with effects := [] }
    let x := s.g e a
    let k := (s.eng e).track
    (∀ row ∈ ncoRows s e d a b tap, held' row.1 (BitVec.ofNat 32 row.2.1) row.2.2.1 row.2.2.2) ∧
    (x.toNat % 8 ≠ 0 → x.toNat % 8 ≠ 7 →
      held' (.trkState e d a) (BitVec.ofNat 32 ((s.shadow e).cx k 0 0 3)) [.set 0 0 3 (x.toNat % 8)] 0) ∧
    (x.toNat % 8 = 0 ∨ x.toNat % 8 = 7 → k < 4096 → s.on F.LYZ_CTRL_TRKEV_EN = false →
      Completes (.trkState e d a) s fun t => t.trkState k = 6 ∧ t.eng e = {}) ∧
    (let want := (s.g e b).toNat % 64
      let fits := Nat.min (Nat.max 1 (Nat.min 32 want)) (63 - (s.shadow e).cx k 0x68 26 6)
      1 ≤ want → want ≤ 32 → held' (.wipeLd e d a b) (BitVec.ofNat 32 fits)
        [.wipe ((List.range fits).map fun i => x.toNat / 2 ^ i % 2)] (if fits < want then 4 else 0)) ∧
    (8 < n → Completes (.ncoKphs e a n) s (Faulted e 1 s)) ∧
    Completes (.ncoCphs e a) s (fun t => GoesOn e 0 0 s t ∧ (t.eng e).carrStep = (s.eng e).carrStep + x ∧
      { (t.eng e).rest with carrStep := 0 } = { (s.eng e).rest with carrStep := 0 }) ∧
    (n ≤ 8 → let v := (s.eng e).codeStep + x.toInt * 2 ^ n
      Completes (.ncoKphs e a n) s fun t => GoesOn e 0 (if v < -(2 ^ 39) ∨ 2 ^ 39 < v then 4 else 0) s t ∧
        (t.eng e).codeStep = (if v < -(2 ^ 39) then -(2 ^ 39) else if 2 ^ 39 < v then 2 ^ 39 else v))

/-- A free sequencer of an enabled pod takes the best track listed, with its number, stack word and next block in g1–g3; `end` lets the held effects
take place, here a new carrier rate, and frees the sequencer and the track (R159, R169). -/
def Obligations.ProgramsEnterAndRetire : Prop :=
  ∀ (s : State) (p q k v : Nat), p < 6 → q < 4 → k < 4096 →
    (s.inRun (8 + p) = true → s.on (F.POD_CTRL_EN p) = true → (s.eng (4 * p + q)).on = false → (s.rd (F.POD_CTRL_SEQ_EN p)).testBit q = true →
      s.bestListed (s.pod p).listed = some k → Completes (.trackProgramEntry p q) s fun t =>
        (t.eng (4 * p + q)).on = true ∧ (t.eng (4 * p + q)).track = k ∧ (t.eng (4 * p + q)).pc = s.cx k 4 0 17 ∧
        t.g (4 * p + q) 1 = BitVec.ofNat 32 k ∧ t.g (4 * p + q) 2 = s.ld32 (ctxAddr k + 0x0C) ∧
        t.g (4 * p + q) 3 = s.ld32 (ctxAddr k + 8) ∧ (t.eng (4 * p + q)).fl = 0 ∧ k ∉ (t.pod p).listed ∧
        (∀ f, f ≠ 4 * p + q → t.eng f = s.eng f) ∧ t.regs = s.regs ∧ t.mem = s.mem) ∧
    (s.Ready (4 * p + q) onTrack → (s.eng (4 * p + q)).track = k → Completes (.end_ (4 * p + q)) s fun t =>
      (t.trk k).busy = false ∧ t.eng (4 * p + q) = {} ∧ (∀ f, f ≠ 4 * p + q → t.eng f = s.eng f) ∧ t.regs = s.regs ∧
      ((s.eng (4 * p + q)).effects = [.set 0x44 0 32 v] → (s.eng (4 * p + q)).carrStep = 0 → (s.eng (4 * p + q)).codeStep = 0 →
        t.cx k 0x44 0 32 = v % 2 ^ 32 ∧ BytesBut (ctxAddr k + 0x44) 4 s t))

namespace Sys2Proof.Machine

/-- The same as `GoesOn` on any engine: of the registers only a DMA channel's CUR_PC moves. -/
def Proceeds (e d fl : Nat) (s t : State) : Prop :=
  (∀ r, r ≠ d ∨ r = 0 → t.g e r = s.g e r) ∧ (t.eng e).fl = (s.eng e).fl ||| fl ∧
  ((t.eng e).pc, (t.eng e).loops) = nextPc (s.eng e).calls.length (s.eng e).pc (s.eng e).loops ∧
  (∀ f, f ≠ e → t.eng f = s.eng f) ∧ RegsBut (if kindOf e = .dma then [Reg.DMA_PCH_CUR_PC (e - 40)] else []) s t

/-- Engine `e` goes on at word `pc` with these loops and calls, and nothing else but its run time and its program cache has changed. -/
def JumpsTo (e pc : Nat) (loops : List LoopFrame) (calls : List Nat) (s t : State) : Prop :=
  t.eng e = { s.eng e with pc, loops, calls, ran := (t.eng e).ran } ∧ (∀ f, f ≠ e → t.eng f = s.eng f) ∧
  RegsBut (if kindOf e = .dma then [Reg.DMA_PCH_CUR_PC (e - 40)] else []) s t ∧
  t.noRegs.beyond = s.noRegs.beyond ∧ PodsButCache e s t

end Sys2Proof.Machine

/-- Branches, jumps, calls, returns, loops, links and nop: where each goes on, which loops it ends, and what it faults on: a reserved
condition or a condition on FL with a register, and an empty loop body, ILLEGAL_OP; a ninth call, a fifth loop and a return with no call,
STACK; a link out of the program store, PC_RANGE (R177–R179). -/
def Obligations.ControlFlow : Prop :=
  ∀ (s : State) (e a tgt len addr c : Nat) (off : Int) (rest : List Nat), s.Ready e onAll →
    let x := s.eng e
    let v := s.gi e a
    let to' := wordAt ((x.pc : Int) + 1 + off)
    let on' := nextPc x.calls.length x.pc x.loops
    let left (pc : Nat) := x.loops.dropWhile fun f => decide (f.depth = x.calls.length) && !decide (f.first ≤ pc ∧ pc ≤ f.last)
    let branch (taken : Bool) : State → Prop :=
      if taken then JumpsTo e to' (left to') x.calls s else JumpsTo e on'.1 on'.2 x.calls s
    (notDma (kindOf e) = true →
      (∀ row ∈ [(0, decide (v = 0)), (1, decide (v ≠ 0)), (2, decide (v < 0)), (3, decide (0 ≤ v)), (4, decide (v ≤ 0)), (5, decide (0 < v))],
        Completes (.bCond e row.1 a off) s (branch row.2)) ∧
      (∀ row ∈ [(6, true), (8, x.fl.testBit 0), (9, x.fl.testBit 1), (10, x.fl.testBit 2)],
        Completes (.bCond e row.1 0 off) s (branch row.2) ∧ (a ≠ 0 → Completes (.bCond e row.1 a off) s (Faulted e 1 s))) ∧
      (c = 7 ∨ 10 < c → Completes (.bCond e c a off) s (Faulted e 1 s)) ∧
      Completes (.jmp e tgt) s (JumpsTo e tgt (left tgt) x.calls s) ∧
      Completes (.jr e a) s (JumpsTo e ((s.g e a).toNat % 2 ^ 17) (left ((s.g e a).toNat % 2 ^ 17)) x.calls s) ∧
      Completes (.nop e) s (JumpsTo e on'.1 on'.2 x.calls s) ∧
      (x.calls = c :: rest → let back := nextPc rest.length c (x.loops.dropWhile fun f => decide (rest.length < f.depth))
        Completes (.ret e) s (JumpsTo e back.1 back.2 rest s)) ∧
      (x.calls = [] → Completes (.ret e) s (Faulted e 8 s)) ∧
      (x.calls.length < 8 → Completes (.call e tgt) s (JumpsTo e tgt x.loops (x.pc :: x.calls) s) ∧
        Completes (.callr e a) s (JumpsTo e ((s.g e a).toNat % 2 ^ 17) x.loops (x.pc :: x.calls) s)) ∧
      (8 ≤ x.calls.length → Completes (.call e tgt) s (Faulted e 8 s) ∧ Completes (.callr e a) s (Faulted e 8 s))) ∧
    (0 < len → s.g e a ≠ 0 → x.loops.length < 4 → Completes (.loop e a len) s
      (JumpsTo e (x.pc + 1) (⟨x.pc + 1, x.pc + len, (s.g e a).toNat, x.calls.length⟩ :: x.loops) x.calls s)) ∧
    (0 < len → s.g e a ≠ 0 → 4 ≤ x.loops.length → Completes (.loop e a len) s (Faulted e 8 s)) ∧
    (0 < len → s.g e a = 0 → let past := nextPc x.calls.length (x.pc + len) x.loops
      Completes (.loop e a len) s (JumpsTo e past.1 past.2 x.calls s)) ∧
    Completes (.loop e a 0) s (Faulted e 1 s) ∧
    (let w := if kindOf e = .dma then addr / 4 else (addr - 0x10780000) / 4;
      kindOf e = .dma ∨ (0x10780000 ≤ addr ∧ addr < 0x10800000) → Completes (.link e addr) s (JumpsTo e w (left w) x.calls s)) ∧
    (kindOf e ≠ .dma → addr < 0x10780000 ∨ 0x10800000 ≤ addr → Completes (.link e addr) s (Faulted e 4 s))

/-- A context's command queue: RUN sets the context up and starts it, LOAD copies words to the program store, FENCE and an unknown OP go
by, with a doorbell that moves the tail; `end` returns the context to IDLE, `halt` parks it, RESUME and RESET bring it back, and a context
whose SEQ has left Run is OFF (R191–R195). -/
def Obligations.ContextsRunCommands : Prop :=
  ∀ (s : State) (owner n tail : Nat), n < 8 →
    let st (t : State) : Nat := t.rd (F.LYZ_CTX_STAT_STATE n)
    let is (v : Nat) (t : State) : Prop := st t = if t.inRun 18 then v else 0
    let head (t : State) : Nat := t.rd (F.LYZ_CTX_QHEAD_INDEX n)
    let next := (head s + 1) % s.queueSz n
    let posts (t : State) : Prop := s.ringFull n = false → t.rd (F.LYZ_CTX_EHEAD_INDEX n) = (s.rd (F.LYZ_CTX_EHEAD_INDEX n) + 1) % s.eventSize n
    let dst := (s.entryWord n 1).toNat % 2 ^ 17
    let host := s.on (F.LYZ_CTX_QCFG_HOSTMEM n)
    let src := (s.entryWord n 2).toNat + if host then 2 ^ 32 * (s.entryWord n 3).toNat else 0
    let count := (s.entryWord n 4).toNat
    let to' := 0x10780000 + 4 * dst
    let ok : Prop := dst + count ≤ 131072 ∧ s.rd F.LYZ_PS_FW_FW_WORDS ≤ dst ∧
      if host then s.inRun 17 = true ∧ s.host.sel = 0 else s.readable src (4 * count) = true
    (s.hasEntry n (· = 0x01) = true → Completes (.run n) s fun t =>
      st t = 2 ∧ head t = next ∧ (t.eng (32 + n)).pc = dst ∧ (t.eng (32 + n)).fl = 0 ∧ (t.eng (32 + n)).loops = [] ∧
      t.g (32 + n) 1 = BitVec.ofNat 32 (head s) ∧ t.g (32 + n) 2 = BitVec.ofNat 32 (s.entryTag n) ∧
      (∀ j < 6, t.k (32 + n) j = s.entryWord n (2 + j)) ∧ (∀ j, 6 ≤ j → t.k (32 + n) j = s.k (32 + n) j) ∧ t.mem = s.mem) ∧
    (s.hasEntry n (· = 0x02) = true → Completes (.load n) s fun t =>
      st t = 1 ∧ head t = next ∧ (¬ ok ∨ s.entryIrq n = true → posts t) ∧
      (ok → s.entryIrq n = false → BytesBut to' (4 * count) s t ∧
        (host = true ∨ (src + 4 * count ≤ to' ∨ to' + 4 * count ≤ src) ∧ s.badIn src (4 * count) = false → ∀ j < count,
          t.ld32 (to' + 4 * j) = BitVec.ofNat 32 (s.ringLoad host (src + 4 * j) 4)))) ∧
    (s.hasEntry n (· = 0x03) = true → Completes (.fence n) s fun t =>
      st t = 1 ∧ head t = next ∧ (s.entryIrq n = true → posts t) ∧
      (s.entryIrq n = false → RegsBut [Reg.LYZ_CTX_QHEAD n, Reg.LYZ_CTX_STAT n] s t ∧ t.mem = s.mem)) ∧
    (s.hasEntry n (fun op => !([1, 2, 3].contains op)) = true → Completes (.badOp n) s fun t => st t = 1 ∧ head t = next ∧ posts t) ∧
    (s.inRun 1 = true → s.heard owner = true → Completes (.queueDoorbell owner n tail) s fun t =>
      t.rd (F.LYZ_CTX_QTAIL_INDEX n) = tail % 2 ^ (F.LYZ_CTX_QTAIL_INDEX n).w ∧ RegsBut [Reg.LYZ_CTX_QTAIL n] s t ∧ t.mem = s.mem) ∧
    (s.Ready (32 + n) onCtx → Completes (.halt (32 + n)) s fun t =>
      is 4 t ∧ (t.eng (32 + n)).pc = (nextPc (s.eng (32 + n)).calls.length (s.eng (32 + n)).pc (s.eng (32 + n)).loops).1 ∧ t.mem = s.mem) ∧
    (s.Ready (32 + n) onCtx → Completes (.end_ (32 + n)) s fun t =>
      is 1 t ∧ (s.eng (32 + n)).irq = true ∧ posts t ∨ is 1 t ∧ (s.eng (32 + n)).irq = false ∧ t.mem = s.mem) ∧
    (s.inRun 1 = true → s.inRun 18 = true → s.heard owner = true →
      (st s = 4 → Completes (.ctxResume owner n) s fun t => st t = 2 ∧ (t.eng (32 + n)).pc = (s.eng (32 + n)).pc ∧ t.mem = s.mem) ∧
      (st s = 5 → Completes (.ctxResume owner n) s fun t => is 1 t ∧ t.mem = s.mem) ∧
      (st s ≠ 0 → Completes (.ctxReset owner n) s fun t =>
        is 1 t ∧ (t.eng (32 + n)).pc = 0 ∧ (∀ r, t.g (32 + n) r = 0) ∧ (∀ r, t.ownerOf r ≠ 8 + n) ∧
        (∀ m < 4, (t.txn m).held = true → (t.txn m).owner ≠ 8 + n)))

/-- Signals are set and stay; the program store takes words from its owners only; an illegal word and a run past its budget fault the
engine, and so does a signal that does not exist (R156, R158, R176, R190, R198). -/
def Obligations.StoreSignalsAndFaults : Prop :=
  ∀ (s : State) (owner e off i : Nat) (v : Word), s.inRun 1 = true →
    let w := 0x10780000 + off / 4 * 4
    (s.heard owner = true → Completes (.sigSet owner v) s fun t =>
      t.reg Reg.LYZ_SIG = s.reg Reg.LYZ_SIG ||| v ∧ RegsBut [Reg.LYZ_SIG] s t ∧ t.mem = s.mem) ∧
    (s.heard owner = true → off < 0x80000 → Completes (.programStoreWrite owner (0x10780000 + off) v) s fun t =>
      if off / 4 < s.rd F.LYZ_PS_FW_FW_WORDS ∧ ¬ (1 ≤ owner ∧ owner ≤ 4) then
        t.mem = s.mem ∧ t.answer.status = .tgtErr ∧ t.regs = s.regs
      else t.ld32 w = v ∧ BytesBut w 4 s t ∧ t.answer = ⟨owner, .ok, 0, 0⟩ ∧ t.regs = s.regs) ∧
    (s.Ready e onAll → ((lyzDecode e v).isSome && mayExecute (kindOf e) v) = false → Completes (.illegalOpcode e v) s fun t =>
      Faulted e 1 s t ∧ t.rd F.LYZ_FLT_CNT_COUNT = Nat.min (2 ^ F.LYZ_FLT_CNT_COUNT.w - 1) (s.rd F.LYZ_FLT_CNT_COUNT + 1)) ∧
    (s.issues e = true → s.pausing e = false → s.runLimit e ≤ s.runTime e → Completes (.executionWatchdog e) s (Faulted e 6 s)) ∧
    (s.Ready e notTrack → if i < 32 then Completes (.signal e i) s fun t =>
        t.rd ⟨Reg.LYZ_SIG, i, 1⟩ = 1 ∧ (∀ r, t.g e r = s.g e r) ∧ t.mem = s.mem
      else Completes (.signal e i) s (Faulted e 1 s))

/-- mov, movfl, k words, ld and st of system SRAM, and a context's move between two pieces of it that do not meet, with its swap and its
fixed ends (R153, R180–R182, R365). -/
def Obligations.MovesAndAccesses : Prop :=
  ∀ (s : State) (e d a b k size swap : Nat) (off : Int) (srcFix dstFix : Bool), s.Ready e onAll → d < 32 → k < 128 →
    let x := ((s.gi e a + off) % 2 ^ 32).toNat
    let src := (s.g e a).toNat
    let dst := (s.g e b).toNat
    let count := (s.g e d).toNat
    let elem := 2 ^ size
    let unit := if swap = 1 then 2 else if 2 ≤ swap then 4 else 1
    let bytes := count * elem
    let srcLen := if srcFix then elem else bytes
    let dstLen := if dstFix then elem else bytes
    let data := swapBytes swap (if srcFix then (List.replicate count (s.ldBytes src elem)).flatten else s.ldBytes src bytes)
    (Completes (.mov e d a) s fun t => Proceeds e d 0 s t ∧ (d ≠ 0 → t.g e d = s.g e a) ∧ t.mem = s.mem) ∧
    (Completes (.movfl e d) s fun t => Proceeds e d 0 s t ∧ (d ≠ 0 → t.g e d = BitVec.ofNat 32 (s.eng e).fl) ∧ t.mem = s.mem) ∧
    (s.kOk e = true → kindOf e = .ctx ∨ s.badIn (s.kBase e + 4 * k) 4 = false → Completes (.ldK e d k) s fun t =>
      Proceeds e d 0 s t ∧ (d ≠ 0 → t.g e d = s.k e k) ∧ t.mem = s.mem) ∧
    (s.kOk e = true → (kindOf e = .track → 80 ≤ k) → (kindOf e = .dma → s.isFw (s.kBase e + 4 * k) = false) →
      Completes (.stK e a k) s fun t =>
        Proceeds e 0 0 s t ∧ t.k e k = s.g e a ∧ (kindOf e = .ctx → t.mem = s.mem) ∧ (kindOf e ≠ .ctx → BytesBut (s.kBase e + 4 * k) 4 s t)) ∧
    (kindOf e = .track → k < 80 → Completes (.stK e a k) s (Faulted e 2 s)) ∧
    (s.inRun 0 = true → s.inRun 1 = true → notTrack (kindOf e) = true → x % 4 = 0 → InSram x 4 →
      (s.badIn x 4 = false → Completes (.ld e d a off) s fun t => Proceeds e d 0 s t ∧ (d ≠ 0 → t.g e d = s.ld32 x) ∧ t.mem = s.mem) ∧
      Completes (.st e d a b off) s fun t => Proceeds e d 0 s t ∧ (d ≠ 0 → t.g e d = 0) ∧ t.ld32 x = s.g e b ∧ BytesBut x 4 s t) ∧
    (notTrack (kindOf e) = true → x % 4 ≠ 0 → Completes (.ld e d a off) s (Faulted e 7 s) ∧ Completes (.st e d a b off) s (Faulted e 7 s)) ∧
    (s.inRun 0 = true → s.inRun 1 = true → kindOf e = .ctx → size < 4 → swap < 4 → a ≠ b → 0 < count → count < 2 ^ 24 →
      src % elem = 0 → dst % elem = 0 → src % unit = 0 → dst % unit = 0 → bytes % unit = 0 → InSram src srcLen → InSram dst dstLen →
      s.badIn src srcLen = false → s.badIn dst dstLen = false → (src + srcLen ≤ dst ∨ dst + dstLen ≤ src) →
      Completes (.move e d a b size swap srcFix dstFix) s fun t =>
        t.ldBytes dst dstLen = (if dstFix then data.drop (bytes - elem) else data) ∧ BytesBut dst dstLen s t ∧
        (∀ r, t.g e r = if (r = a ∧ srcFix = false) ∨ (r = b ∧ dstFix = false) then s.g e r + BitVec.ofNat 32 bytes else s.g e r) ∧
        (t.eng e).pc = (nextPc (s.eng e).calls.length (s.eng e).pc (s.eng e).loops).1 ∧ t.regs = s.regs)

namespace Sys2Proof.Machine

/-- STATE of a context or a DMA program channel. -/
def State.runState (s : State) (e : Nat) : Nat :=
  if kindOf e = .dma then s.rd (F.DMA_PCH_STAT_STATE (e - 40)) else s.rd (F.LYZ_CTX_STAT_STATE (e - 32))

/-- Its code for RUN (R195, R374). -/
def runCode (e : Nat) : Nat := if kindOf e = .dma then 1 else 2

/-- Engine `e` waits for `w` and none of its registers has changed. -/
def NowWaits (e : Nat) (w : Wait) (s t : State) : Prop :=
  (NoneLeft s t → t.runState e = runCode e + 1 ∧ (t.eng e).wait = w) ∧ (t.eng e).pc = (s.eng e).pc ∧ (∀ r, t.g e r = s.g e r) ∧ t.mem = s.mem

/-- Engine `e` runs on past its instruction, register `d` holding `v`. -/
def RunsOn (e d : Nat) (v : Word) (s t : State) : Prop :=
  (NoneLeft s t → t.runState e = runCode e) ∧ (t.eng e).wait = .none ∧
  (t.eng e).pc = (nextPc (s.eng e).calls.length (s.eng e).pc (s.eng e).loops).1 ∧
  (d ≠ 0 → t.g e d = v) ∧ (∀ r, r ≠ d ∨ r = 0 → t.g e r = s.g e r) ∧ t.mem = s.mem

end Sys2Proof.Machine

/-- Waits of contexts and DMA channels: what ends at once with its code, what waits, what faults, and the release of each wait
(R183–R189). -/
def Obligations.EnginesWait : Prop :=
  ∀ (s : State) (e d a b src m : Nat) (lim : Option Nat), d < 32 →
    let ready := s.Ready e notTrack ∧ (s.eng e).wait = .none ∧ s.runState e = runCode e
    let waiting (w : Wait) : Prop := s.waits e = true ∧ (s.eng e).wait = w
    let until' := dtOf (dtSec s.dtNow / 2 ^ 32 * 2 ^ 32 + (s.g e a).toNat) (s.g e b).toNat
    (ready → 64 ≤ src → Completes (.waitq e d a src) s (Faulted e 1 s)) ∧
    (ready → src < 64 → s.sourceReady src = true → Completes (.waitq e d a src) s fun t =>
      RunsOn e d 0 s t ∧ (32 ≤ src → t.rd ⟨Reg.LYZ_SIG, src - 32, 1⟩ = 0)) ∧
    (ready → src < 64 → s.sourceReady src = false → Completes (.waitq e d a src) s
      (NowWaits e (.queue src d (if s.g e a = 0 then none else some (s.now + (s.g e a).toNat))) s)) ∧
    (waiting (.queue src d lim) → s.sourceReady src = true → s.waitsBefore e src = false → Completes (.waitqRelease e) s fun t =>
      RunsOn e d 0 s t ∧ (32 ≤ src → src < 64 → t.rd ⟨Reg.LYZ_SIG, src - 32, 1⟩ = 0)) ∧
    (waiting (.queue src d (some m)) → s.sourceReady src = false → m ≤ s.now → Completes (.waitqRelease e) s (RunsOn e d 1 s)) ∧
    (ready → 4 ≤ m → Completes (.waittTp e d m) s (Faulted e 1 s)) ∧
    (ready → s.inRun 15 = false → Completes (.waittAbs e d a b) s (RunsOn e d 4 s) ∧
      Completes (.waittRel e d a) s (RunsOn e d 4 s) ∧ (m < 4 → Completes (.waittTp e d m) s (RunsOn e d 4 s))) ∧
    (ready → s.inRun 15 = true → s.time.kyo.valid = false →
      Completes (.waittAbs e d a b) s (NowWaits e (.rebuild true (s.g e a).toNat (s.g e b).toNat d) s) ∧
      Completes (.waittRel e d a) s (NowWaits e (.rebuild false 0 (s.g e a).toNat d) s)) ∧
    (ready → s.dtOk = true → Completes (.waittAbs e d a b) s
      (if until' ≤ s.time.kyo.dt then RunsOn e d 1 s else NowWaits e (.dtAbs until' d) s)) ∧
    (ready → s.dtOk = true → Completes (.waittRel e d a) s
      (if s.g e a = 0 then RunsOn e d 0 s else NowWaits e (.rel (s.time.kyo.mono + (s.g e a).toNat * 2 ^ 32) d) s)) ∧
    (ready → s.inRun 15 = true → m < 4 → Completes (.waittTp e d m) s
      (if s.on (F.TP_CFG_EN m) = true then NowWaits e (.tp m (s.pulse m).edges d) s else RunsOn e d 3 s)) ∧
    (s.dtOk = true →
      (waiting (.dtAbs m d) → m ≤ s.time.kyo.dt → Completes (.waittRelease e) s (RunsOn e d 0 s)) ∧
      (waiting (.rel m d) → m ≤ s.time.kyo.mono → Completes (.waittRelease e) s (RunsOn e d 0 s)) ∧
      (waiting (.tp src m d) → m < (s.pulse src).edges → Completes (.waittRelease e) s (RunsOn e d 0 s))) ∧
    (ready → kindOf e = .ctx → Completes (.txnWait e d m) s
      (if 4 ≤ m then Faulted e 1 s else if s.txnPending e m = true then NowWaits e (.txn m d) s
        else RunsOn e d (BitVec.ofNat 32 (s.txnResultOf (ownerOfEngine e) m)) s)) ∧
    (waiting (.txn m d) → s.txnPending e m = false →
      Completes (.txnWaitRelease e) s (RunsOn e d (BitVec.ofNat 32 (s.txnResultOf (ownerOfEngine e) m)) s)) ∧
    (waiting (.vote m d) → s.dom m = 2 → Completes (.voteWaitRelease e) s (RunsOn e d 2 s))

/-- Class S and T instructions that do not wait: stamps, transaction commands with their codes in d, claims, votes, events
(R186–R190, R194). -/
def Obligations.ContextsCommandTheChip : Prop :=
  ∀ (s : State) (n d a b m r dom type ring fn : Nat), n < 8 → d < 32 → s.Ready (32 + n) onCtx →
    let e := 32 + n
    let o := 8 + n
    let holds (v : Nat) (t : State) : Prop := d ≠ 0 → t.g e d = BitVec.ofNat 32 v
    let gives (v : Nat) (t : State) : Prop := holds v t ∧ (∀ q, q ≠ d ∨ q = 0 → t.g e q = s.g e q) ∧ t.mem = s.mem
    let at_ := dtOf ((s.g e a).toNat + 2 ^ 32 * (dtSec s.dtNow / 2 ^ 32 % 2 ^ (F.TXN_AT_SEC_HI_SEC_HI m).w)) ((s.g e b).toNat % 2 ^ (F.TXN_AT_NS_NS m).w)
    (if s.inRun 15 then Completes (.stamp e d) s fun t => gives (dtNs s.dtNow) t ∧ (t.eng e).stampDt = s.dtNow ∧ t.regs = s.regs
      else Completes (.stamp e d) s (gives 0x0FF00FF0)) ∧
    (fn = 0 ∨ 5 < fn → Completes (.stampRead e d fn) s (Faulted e 1 s)) ∧
    (s.inRun 15 = false → 1 ≤ fn → fn ≤ 5 → Completes (.stampRead e d fn) s (gives 0x0FF00FF0)) ∧
    (s.inRun 15 = true → ∀ row ∈ [(1, dtSec (s.eng e).stampDt), (2, dtSec (s.eng e).stampDt / 2 ^ 32 + 65536 * dtFrac (s.eng e).stampDt),
        (3, inNs (s.eng e).stampMono), (4, inNs (s.eng e).stampMono / 2 ^ 32), (5, s.ts32.toNat)],
      Completes (.stampRead e d row.1) s fun t => gives row.2 t ∧ t.regs = s.regs) ∧
    (4 ≤ m → ∀ c ∈ [Instr.txnBegin e d m, .txnCommit e d m, .txnAbort e d m, .txnCommitat e d a b m false], Completes c s (Faulted e 1 s)) ∧
    (a ≠ 0 ∨ b ≠ 0 → Completes (.txnCommitat e d a b m true) s (Faulted e 1 s)) ∧
    (m < 4 →
      ((s.txn m).state = .idle → Completes (.txnBegin e d m) s fun t =>
        gives 0 t ∧ t.txn m = { state := .opened, owner := o } ∧ t.regs = s.regs) ∧
      ((s.txn m).state ≠ .idle → Completes (.txnBegin e d m) s fun t => gives 1 t ∧ t.txns = s.txns ∧ t.regs = s.regs) ∧
      (let g := s.txnGate o m;
        g ≠ 0 → Completes (.txnCommit e d m) s (fun t => gives g t ∧ t.txns = s.txns ∧ t.regs = s.regs) ∧
          Completes (.txnCommitat e d a b m false) s fun t => gives g t ∧ t.txns = s.txns ∧ t.regs = s.regs) ∧
      (if (s.txn m).held && decide ((s.txn m).owner = o) then
          Completes (.txnAbort e d m) s fun t => gives 0 t ∧ t.txn m = { afterAbort := true } ∧ t.regs = s.regs
        else Completes (.txnAbort e d m) s fun t => t.txns = s.txns ∧ t.regs = s.regs ∧
          gives (if (s.txn m).state = .idle ∨ (s.txn m).owner = o then 3 else 2) t) ∧
      ((s.txn m).state = .opened → (s.txn m).owner = o →
        (Completes (.txnCommit e d m) s fun t => gives (s.commitCode m) t ∧
          (t.txn m).state = if s.commitCode m = 0 then .landing else .opened) ∧
        (Completes (.txnCommitat e d 0 0 m true) s fun t =>
          if s.inRun 15 = true ∧ s.on (F.TP_CFG_EN 0) = true then
            gives 0 t ∧ t.txn m = { s.txn m with state := .armed, at0 := true, target := (s.pulse 0).edges } ∧ t.regs = s.regs
          else gives (if s.inRun 15 then 8 else 4) t ∧ t.txns = s.txns) ∧
        (s.inRun 15 = true → (s.dtOk = true → s.time.kyo.dt < at_) → Completes (.txnCommitat e d a b m false) s fun t =>
          gives 0 t ∧ t.txn m = { s.txn m with state := .armed, at0 := false, target := at_ }) ∧
        (s.dtOk = true → at_ ≤ s.time.kyo.dt → Completes (.txnCommitat e d a b m false) s fun t =>
          if (s.rd F.TXN_CTRL_LATE_POLICY).testBit m then
            gives (s.commitCode m) t ∧ (t.txn m).state = if s.commitCode m = 0 then .landing else .opened
          else gives 5 t ∧ t.txns = s.txns))) ∧
    (r = (s.g e a).toNat % 65536 →
      (validRes r = false → Completes (.claim e d a) s (gives 3) ∧ Completes (.release e d a) s (gives 3)) ∧
      (validRes r = true →
        ((s.ownerOf r = 0 ∨ s.ownerOf r = o) → Completes (.claim e d a) s fun t => gives 0 t ∧ t.ownerOf r = o ∧ t.regs = s.regs) ∧
        (s.ownerOf r ≠ 0 → s.ownerOf r ≠ o → Completes (.claim e d a) s fun t =>
          gives 1 t ∧ t.claims = s.claims ∧ t.regs = s.regs) ∧
        (if s.ownerOf r = o then Completes (.release e d a) s fun t => gives 0 t ∧ t.ownerOf r = 0
          else Completes (.release e d a) s fun t => gives 2 t ∧ t.claims = s.claims ∧ t.regs = s.regs))) ∧
    (∀ up, 18 < dom → Completes (.vote e d dom up false) s (Faulted e 1 s)) ∧
    Completes (.vote e d dom false true) s (Faulted e 1 s) ∧
    (∀ up, Completes (.vote e d 0 up false) s fun t => gives (s.dom 0) t ∧ t.regs = s.regs) ∧
    (∀ up, 1 ≤ dom → dom ≤ 18 → Completes (.vote e d dom up false) s fun t =>
      (t.eng e).wait = (s.eng e).wait ∧ holds (t.dom dom) t ∧
      ((t.reg (Reg.PWR_DOM_VOTE dom)).getLsbD 6 = true ↔ t.ctxWants dom = true) ∧
      (up = true → (t.reg (Reg.PWR_DOM_VOTE dom)).getLsbD 6 = true)) ∧
    (dom ≤ 18 → Completes (.vote e d dom true true) s fun t =>
      if t.dom dom = 2 then holds 2 t else (t.eng e).wait = .vote dom d ∧ t.runState e = 3) ∧
    (if 0x40 ≤ type ∧ type ≤ 0xFF ∧ ring < 8 then Completes (.event e d a b type ring) s fun t =>
        holds (if s.ringFull ring then 1 else 0) t ∧ (∀ q, q ≠ d ∨ q = 0 → t.g e q = s.g e q) ∧
        t.rd (F.LYZ_CTX_EHEAD_INDEX ring) = (if s.ringFull ring then s.rd (F.LYZ_CTX_EHEAD_INDEX ring)
          else (s.rd (F.LYZ_CTX_EHEAD_INDEX ring) + 1) % s.eventSize ring) ∧
        (s.on (F.LYZ_CTX_ECFG_HOSTMEM ring) = true → t.mem = s.mem)
      else Completes (.event e d a b type ring) s (Faulted e 1 s))

/-! ### Acquisition (09) -/

/-- Plans and captures: the doorbell moves the tail; a fetch advances the head and puts an entry in flight, or completes it at once where its
stream is off, its fields are wrong or it names no capture; a pin is granted with its descriptor on the block that the first asking entry
awaits, or counted late; a pin held for PIN_MAX is released; a pinned valid block is copied (R114, R203–R207). -/
def Obligations.MillCaptures : Prop :=
  ∀ (s : State) (owner tail slot k : Nat) (e : MillEntry) (p : Pin), s.inRun 14 = true →
    let size := 2 ^ Nat.max 2 (Nat.min 10 (s.rd F.MILL_PLAN_CFG_LOG2SIZE))
    let head := s.rd F.MILL_PLAN_HEAD_INDEX % size
    let a := (s.reg Reg.MILL_PLAN_BASE).toNat + 64 * head
    let words := s.ldWords a 16
    let snap := bits (words.getD 0 0) 1 2
    let n := bits (words.getD 0 0) 3 5
    let new : MillEntry := {
      slot := ((List.range 4).find? fun j => (s.millEntry j).isNone).getD 0, words, stream := n
      phase := if snap = 1 then .capturing else if snap = 2 then .trigger else .boundary
      gen := s.ldWords (ctxAddr (bits (words.getD 11 0) 0 12) + 0x80) 22
      rate := if s.streamRuns n then (s.stream n).cfg.rate else s.cfgRate n, starting := !s.streamRuns n
      addr := bits (words.getD 2 0) 0 20, blocks := bits (words.getD 3 0) 0 9, first := if snap = 1 then (words.getD 4 0).toNat else 0 }
    (s.heard owner = true → Completes (.planDoorbell owner tail) s fun t =>
      t.rd F.MILL_PLAN_TAIL_INDEX = tail % 2 ^ F.MILL_PLAN_TAIL_INDEX.w ∧ RegsBut [Reg.MILL_PLAN_TAIL] s t ∧ t.mill = s.mill ∧ t.mem = s.mem) ∧
    (s.on F.MILL_CTRL_EN = true → head ≠ s.rd F.MILL_PLAN_TAIL_INDEX % size → a % 64 = 0 → 0x10000000 ≤ a → a + 64 ≤ 0x10800000 →
      s.badIn a 64 = false → s.badIn (ctxAddr (bits (words.getD 11 0) 0 12) + 0x80) 88 = false →
      k < 4 → s.millEntry k = none → Completes .planFetch s fun t =>
        t.rd F.MILL_PLAN_HEAD_INDEX = (head + 1) % size ∧
        (snap ≠ 3 → if s.streamIdle n || new.bad then t.mill.entries = s.mill.entries ∧ t.rd F.MILL_EVT_DONE = 1
          else t.mill.entries = s.mill.entries ++ [new] ∧ t.mem = s.mem) ∧
        (snap = 3 → s.captureAt new.addr = none → s.mill.captures.find? (fun c => decide (c.addr = new.addr)) = none →
          t.mill.entries = s.mill.entries ∧ t.rd F.MILL_EVT_CFG_ERR = 1)) ∧
    (slot < 2 → s.pinOf slot = none → s.mill.entries.find? s.asksPin = some e → Completes (.pinGrant slot) s fun t =>
      match (s.blockOf e.stream (e.first + e.copied)).filter fun b => b.window && s.guardOk e.stream b with
      | some b => t.pinOf slot = some ⟨e.stream, b, some e.slot, s.now⟩ ∧ t.pinOf (1 - slot) = s.pinOf (1 - slot) ∧ t.mem = s.mem
      | none => t.pinOf slot = none ∧ t.rd F.RING_EVT_PIN_LATE = 1 ∧ t.millEntry e.slot = none) ∧
    (s.pinOf slot = some p → Completes (.pinTimeout slot) s fun t =>
      if (s.now - p.since) * 100 < Nat.max 1 (bits s.sample.ringCtrl 8 8) * 49152 then t = s
      else t.pinOf slot = none ∧ t.rd F.RING_EVT_PIN_TIMEOUT = 1) ∧
    (s.pinOf slot = some p → p.block.addr + p.block.len ≤ 0x28000000 → Completes (.captureBlockCopy slot) s fun t =>
      t.pinOf slot = none ∧ (p.entry = some e.slot → s.millEntry e.slot = some e →
        if p.block.valid then
          t.ldBytes (0x28000000 + e.addr + e.copied * p.block.len) p.block.len = s.ldBytes p.block.addr p.block.len
        else t.millEntry e.slot = none))

/-- Searching: the next bin of the first entry that has one goes to a free unit, its replica made with its first bin, and the cells of it that
the slice can run and pay for are charged; where it cannot pay for one of them the Mill is held, and with none paid the bin waits. A finished
bin whose cells were all admitted frees its unit, counts its cells and leaves the sums of its cells; the last bin ends the entry with MILL_EVT
(R209–R214, R218, R319). How a transform rounds and scales is a free function (log 37). -/
def Obligations.MillSearches : Prop :=
  ∀ (s : State) (u slot bin : Nat) (e : MillEntry) (mixed : List Nat), u < 4 → s.inRun 14 = true →
    (s.unitBin u = none → (s.rd F.MILL_CTRL_UNIT_EN).testBit u = true → s.on F.MILL_STAT_HELD = false →
      s.mill.entries.find? (fun e => decide (e.phase = .searching ∧ e.nextBin < e.bins)) = some e → e.slot < 4 → e.nextBin < 255 →
      Completes (.binDispatch u) s fun t =>
        (∀ v, v ≠ u → t.unitBin v = s.unitBin v) ∧ BytesBut 0x28100000 0x300000 s t ∧
        let begun (owed : Nat) : Prop := t.unitBin u = some (e.slot, e.nextBin) ∧ look 0 t.mill.owed u = owed ∧
          t.millEntry e.slot = some { s.makeReplica e with nextBin := e.nextBin + 1 }
        match s.power.millFunds with
        | none => begun 0 ∧ t.power.millFunds = none
        | some m =>
          let paid := s.cellsPaid e m
          if paid = 0 then t.unitBin u = none ∧ t.on F.MILL_STAT_HELD = true
          else begun (e.ncoh - paid) ∧ t.power.millFunds = some (m - paid * s.cellEnergy e) ∧
            t.on F.MILL_STAT_HELD = decide (paid < s.cellsNow e)) ∧
    (s.unitBin u = some (slot, bin) → look 0 s.mill.owed u = 0 → s.millEntry slot = some e → Completes (.binComplete u mixed) s fun t =>
      t.unitBin u = none ∧ t.rd F.MILL_CELLS_COUNT = (s.rd F.MILL_CELLS_COUNT + e.ncoh) % 2 ^ 32 ∧
      (e.binsDone + 1 ≠ e.bins → ∃ sums, t.millEntry slot = some { e with binsDone := e.binsDone + 1, sums := put [] e.sums bin sums } ∧
        (e.spoiled = false → s.badIn (0x28000000 + e.addr) e.samples = false → sums = s.binSums e bin) ∧ t.mem = s.mem) ∧
      (e.binsDone + 1 = e.bins → t.millEntry slot = none ∧ t.rd F.MILL_EVT_DONE = 1))

/-! ### Firmware services (04, 10, 11) -/

/-- What firmware publishes: an aiding set with a new generation, within the layout and the duty cycles of a track's class; MEAS and TIMEMSG
frames; injection biases and the RF path check; the stored integrity configuration (R92, R95, R96, R227, R228, R230, R236–R238, R250, R258).
What firmware computes is the command's operand, the model's choice (log 6). -/
def Obligations.FirmwarePublishes : Prop :=
  ∀ (s : State) (k : Nat) (ws : List Word) (half : List (Nat × Bool)) (biases : List (Int × Int)) (ffo : Int) (auth : Bool) (edge : Edge)
    (coast : List (Nat × List Nat)) (marks : Nat),
    s.firmware = true → k < 4096 →
    let fresh (j : Nat) : Prop := (s.trkEn j = true ∨ (s.trk j).unscanned = true) ∧ look 0 s.nav.scanned j ≠ s.ld32 (ctxAddr j + 0x1BC)
    let ears : Prop := s.inRun 17 = true ∧ s.host.sel ≠ 3
    let given := bits (ws.getD 12 0) 0 10
    let duty := Nat.min (if s.cx k 0 12 2 = 0 then 4 else 10) (bits (ws.getD 7 0) 3 4)
    (ws.length = 14 → s.on F.TRK_SCRUB_CLEARING = false → Completes (.aidingPublish k ws) s fun t =>
      (∀ i < 14, i ∉ [7, 10, 12] → t.ld32 (ctxAddr k + 0x144 + 4 * i) = ws.getD i 0 &&& aidMasks.getD i 0) ∧
      t.ld32 (ctxAddr k + 0x16C) = BitVec.ofNat 32 (Nat.min 32 (bits (ws.getD 10 0) 0 6)) ∧
      t.ld32 (ctxAddr k + 0x174) = BitVec.ofNat 32 (if given ∈ periods then given else s.nav.period) ∧
      (let w := t.ld32 (ctxAddr k + 0x160);
        bits w 3 4 = duty ∧ (duty ≠ 0 → bits w 7 4 = k % duty) ∧ bits w 1 2 = bits (ws.getD 7 0) 1 2 ∧
        w.getLsbD 0 = ((ws.getD 7 0).getLsbD 0 && !s.barred k)) ∧
      t.ld32 (ctxAddr k + 0x140) = t.ld32 (ctxAddr k + 0x17C) ∧
      t.ld32 (ctxAddr k + 0x17C) ≠ s.ld32 (ctxAddr k + 0x17C) ∧ BytesBut (ctxAddr k + 0x140) 64 s t ∧ t.regs = s.regs) ∧
    (Completes (.measScan half coast) s fun t =>
      (∀ j < 4096, fresh j → look 0 t.nav.scanned j = s.ld32 (ctxAddr j + 0x1BC)) ∧ t.mem = s.mem ∧
      (ears → fresh k → (∀ j < 4096, (j ≠ k → ¬ fresh j) ∧ s.coastDue j = none) →
        t.frames = s.frames ++ [⟨0x20, s.framed k half (s.ldBytes (ctxAddr k + 0x1C0) 64)⟩] ∧ t.regs = s.regs)) ∧
    (s.dtOk = true → s.timeEdge = some edge → Completes (.timemsgSend marks ffo auth) s fun t =>
      t.nav.told = some edge.time ∧ t.nav.stepEdge = (if (s.stepAfter edge).isSome then none else s.nav.stepEdge) ∧ t.nav.msgSeq = (s.nav.msgSeq + 1) % 2 ^ 32 ∧ t.mem = s.mem ∧
      (ears → let bs := t.lastPayload;
        t.frames = s.frames ++ [⟨0x21, bs⟩] ∧ bs.length = 48 ∧ bs.take 6 = leBytes 6 (edge.time / 1000000000) ∧
        (bs.getD 6 0).testBit 1 = s.on F.OCQ_STAT_SAFE ∧ (bs.getD 6 0).testBit 2 = (s.stepAfter edge).isSome ∧
        bs.drop 44 = leBytes 4 s.nav.msgSeq ∧ t.regs = s.regs)) ∧
    (s.inRun 7 = true → Completes (.injBiasPublish biases) s fun t =>
      (∀ m < 12, ∀ x, biases[m]? = some x →
        t.rd (F.INJ_BIAS_DELAY m) = (if m = 0 then 0 else unsigned 16 (held (-32768) 32767 x.1)) ∧
        t.rd (F.INJ_BIAS_PHASE m) = (if m < 3 then 0 else unsigned 12 x.2) ∧
        t.rd (F.INJ_BIAS_VALID m) = if s.inRun (3 + m / 3) = true ∧ s.calLocked m = true then 1 else 0) ∧
      look 0 t.safety.level 42 = (if (List.range 12).any s.pathBad then 1 else 0) ∧ t.mem = s.mem) ∧
    (s.integ 0 10 1 = 1 → Completes .integSave s fun t =>
      t.nav.saved = (s.ld32 integBase &&& ~~~0x400#32) :: s.ldWords (integBase + 4) 6 ∧ t.integ 0 10 1 = 0 ∧
      BytesBut integBase 4 s t ∧ t.regs = s.regs)

/-- An evaluation of an epoch: it is counted, shows the alarms in force, and takes up a configuration whose GEN has changed; a statistic above
its threshold for the persistence of its period declares its alarm and excludes its scope, one that is not raises none; an alarm in force
ends when its statistic has stayed below half its threshold for REL_S, and not before; with no alarm in force the fault source is low (R243,
R246, R250, R252, R257–R259). What the navigation engine knows of the sky is the command's operand, the
model's choice (log 6). -/
def Obligations.IntegrityAlarms : Prop :=
  ∀ (s : State) (sec ms period : Nat) (sky : Sky) (i : Stat), s.firmware = true → s.dtOk = true → period ∈ periods → ms < 1000 →
    let epoch := sec * 1000 + ms
    epoch % period = 0 → s.nav.lastEpoch ≤ epoch → epoch * 1000000 ≤ inNs s.dtNow →
    let u := (({ s with nav := { s.nav with lastEpoch := epoch + 1, period } }.adoptConfig).authenticate sky.osnma).anchorBefore epoch sky.clock
    let stats := (u.stats epoch sky).filter fun i => u.nav.checkOn i.check
    let same (j : Nat × Nat × Bool) : Bool := decide (j = (i.check, i.key, i.common))
    let kept := u.nav.checks.filter fun c => same (c.check, c.key, c.common)
    Completes (.integrityEvaluation sec ms period sky.toSkyView sky.gains sky.nsv sky.osnma sky.levels) s fun t =>
      t.nav.lastEpoch = epoch + 1 ∧ t.nav.evals = (s.nav.evals + 1) % 2 ^ 16 ∧ t.integ 0x100 16 16 = t.nav.evals ∧
      (∀ c < 6, (t.integ 0x100 0 6).testBit c = t.nav.checks.any fun x => x.inForce && decide (x.check = c + 1)) ∧
      ((∀ x ∈ t.nav.checks, x.inForce = true → ¬ (1 ≤ x.check ∧ x.check ≤ 6)) → look 0 t.safety.level 51 = 0) ∧
      (s.integ 0 16 16 ≠ bits (s.nav.config.getD 0 0) 16 16 → t.nav.config = adopt (s.ldWords integBase 7)) ∧
      (stats.filter (fun j => same (j.check, j.key, j.common)) = [i] → kept.length ≤ 1 →
        if (u.nav.checkOf i).inForce = true then
          if i.below = true ∧ u.nav.release ≤ epoch - (u.nav.checkOf i).below.getD epoch then
            ∀ c ∈ t.nav.checks, same (c.check, c.key, c.common) = true → c.inForce = false
          else ∃ c ∈ t.nav.checks, same (c.check, c.key, c.common) = true ∧ c.inForce = true ∧ c.scope = (u.nav.checkOf i).scope
        else if i.exceeds = true ∧ persistence period ≤ (u.nav.checkOf i).run + 1 then
          (∃ c ∈ t.nav.checks, same (c.check, c.key, c.common) = true ∧ c.inForce = true ∧ c.scope = i.scope ∧ c.stat = i.value)
        else ∀ c ∈ t.nav.checks, same (c.check, c.key, c.common) = true → c.inForce = false)

/-! ### Time (12) -/

namespace Sys2Proof.Machine

/-- The registers that follow Kyonino's state: KYO_STATE, KYO_EVT, KYO_EST_ERR, KYO_HOLD_S and the pulse outputs' status. -/
def kyoRegs : List Nat :=
  [Reg.KYO_STATE, Reg.KYO_EVT, Reg.KYO_EST_ERR, Reg.KYO_HOLD_S, Reg.TP_STAT 0, Reg.TP_STAT 1, Reg.TP_STAT 2, Reg.TP_STAT 3]

/-- Device time after a change of state: nothing pending, and the time in the state starts again. -/
def Kyo.restarted (k : Kyo) : Kyo := { k with step := none, slew := 0, slewFrac := 0, holdMs := 0 }

/-- No transaction and no trigger is armed. -/
abbrev State.nothingArmed (s : State) : Prop := (∀ n < 4, (s.txn n).state ≠ .armed) ∧ ∀ k < 16, s.rd (F.TRG_STAT_STATE k) ≠ 1

end Sys2Proof.Machine

/-- Kyonino's states: what LOCK, HOLDOVER, FREERUN and the end of a slew lead to; in SPLL bypass LOCK does nothing (R277, R285). -/
def Obligations.TimeStates : Prop :=
  ∀ (s : State) (owner sol : Nat), s.inRun 15 = true → s.heard owner = true →
    let st := s.rd F.KYO_STATE_STATE
    let only (t : State) : Prop := RegsBut kyoRegs s t ∧ t.mem = s.mem
    let e0 := s.rd F.KYO_HOLD_E0_E0
    (s.on F.KYO_STATE_SPLL_BYP = true → Completes (.lock owner sol) s fun t => t.noAnswer = s.noAnswer) ∧
    (s.on F.KYO_STATE_SPLL_BYP = false → sol < 8 → Completes (.lock owner sol) s fun t =>
      t.rd F.KYO_STATE_SOL = sol ∧ t.rd F.KYO_STATE_STATE = (if st = 0 ∨ st = 3 then st else if s.correcting then 3 else 0) ∧
      t.time.kyo = s.time.kyo ∧ only t) ∧
    (st = 0 ∨ st = 3 → Completes (.holdover owner) s fun t =>
      t.rd F.KYO_STATE_STATE = (if s.rd F.KYO_HOLD_BUDGET_NS * 1000 < e0 then 2 else 1) ∧ t.rd F.KYO_EST_ERR_EST_ERR = e0 ∧
      t.rd F.KYO_EVT_HOLDOVER = 1 ∧ t.time.kyo = s.time.kyo.restarted ∧ only t) ∧
    (st ≠ 0 → st ≠ 3 → Completes (.holdover owner) s fun t => t.noAnswer = s.noAnswer) ∧
    (Completes (.freerun owner) s fun t =>
      t.rd F.KYO_STATE_STATE = 4 ∧ t.rd F.KYO_EST_ERR_EST_ERR = e0 ∧ t.time.kyo = s.time.kyo.restarted ∧ only t) ∧
    (s.dtOk = true → st = 3 → s.correcting = false → Completes .slewComplete s fun t =>
      t.rd F.KYO_STATE_STATE = 0 ∧ t.rd F.KYO_EVT_LOCKED = 1 ∧ t.time.kyo = s.time.kyo ∧ only t) ∧
    (st ≠ 3 ∨ s.correcting = true → Completes .slewComplete s fun t => t = s)

/-- Corrections of device time: a step is armed where the rules allow it and refused otherwise, one that applies moves DT and not MONO_NS,
a slew adds to what is pending, SUSPECT runs for 8 intervals, and a master that stays behind is rejected (R278, R279, R282). How the
pending slew and a cycle step round is the model's choice (logs 15, 17). -/
def Obligations.TimeCorrections : Prop :=
  ∀ (s : State) (owner : Nat) (up : Bool) (v w : Int) (x : Word), s.inRun 15 = true → s.heard owner = true →
    let k := s.time.kyo
    let only (t : State) : Prop := RegsBut kyoRegs s t ∧ t.mem = s.mem
    (s.stepValue = some v → s.stepAllowed v = true → Completes (.step owner) s fun t =>
      t.time.kyo = { k with step := some v, stepArmedAt := s.now } ∧ t.rd F.KYO_STATE_STEP_PEND = 1 ∧ only t) ∧
    (s.stepValue = none ∨ s.stepValue = some v ∧ s.stepAllowed v = false → Completes (.step owner) s fun t =>
      t.time = s.time ∧ t.rd F.KYO_EVT_STEP_REFUSED = 1 ∧ RegsBut [Reg.KYO_EVT] s t ∧ t.mem = s.mem) ∧
    (s.stepDue = true → k.step = some v → Completes .stepApply s fun t =>
      t.time.kyo.dt = ((k.dt : Int) + v * 2 ^ 32).toNat ∧ t.rd F.KYO_EVT_STEPPED = 1) ∧
    (s.stepDue = true → k.step = some v → s.nothingArmed → Completes .stepApply s fun t =>
      t.time.kyo = { k with step := none, stepped := some (s.now, v), dt := ((k.dt : Int) + v * 2 ^ 32).toNat } ∧ t.rd F.KYO_EVT_STEPPED = 1 ∧
      t.rd F.KYO_STATE_STEP_PEND = 0 ∧ t.mem = s.mem) ∧
    (Completes (.slew owner x) s fun t =>
      t.time.kyo = { k with slew := k.slew + signed 32 x.toNat * 8053063680 } ∧ only t ∧ (s.rd F.KYO_STATE_STATE ≠ 3 → RegsBut [Reg.KYO_STATE] s t) ∧
      (s.rd F.KYO_STATE_STATE = 3 → t.rd F.KYO_EST_ERR_EST_ERR = Nat.min 0xFFFFFFFF (s.rd F.KYO_HOLD_E0_E0 + t.slewRem.natAbs))) ∧
    (Completes (.suspect owner up) s fun t =>
      t.time.kyo = { k with suspectLeft := if up then 8 else 0 } ∧ t.rd F.KYO_STATE_SUSPECT = (if up then 1 else 0) ∧
      RegsBut [Reg.KYO_STATE] s t ∧ t.mem = s.mem) ∧
    (s.dtOk = true → s.firmware = true → s.on F.KYO_STATE_SUSPECT = true →
      (-w < s.rd F.KYO_STEP_THRESH_THRESH → Completes (.suspectExpiry w) s fun t =>
        t.time.kyo = { k with suspectLeft := 0 } ∧ t.rd F.KYO_STATE_SUSPECT = 0 ∧ RegsBut [Reg.KYO_STATE] s t ∧ t.mem = s.mem) ∧
      ((s.rd F.KYO_STEP_THRESH_THRESH : Int) ≤ -w → s.on F.KYO_CTRL_STEP_BACK_ALLOW = false → Completes (.suspectExpiry w) s fun t =>
        t.rd F.KYO_STATE_SUSPECT = 0 ∧ t.rd F.KYO_EVT_MASTER_BACK = 1 ∧ t.time.kyo.rejected = true ∧ t.time.kyo.dt = k.dt ∧
        (s.rd F.KYO_STATE_STATE = 0 → t.rd F.KYO_STATE_STATE = 1 ∨ t.rd F.KYO_STATE_STATE = 2) ∧ t.mem = s.mem) ∧
      ((s.rd F.KYO_STEP_THRESH_THRESH : Int) ≤ -w → s.on F.KYO_CTRL_STEP_BACK_ALLOW = true → Completes (.suspectExpiry w) s fun t =>
        t.reg Reg.KYO_STEP_SEC = BitVec.ofInt 32 (Int.tdiv w 1000000000) ∧
        t.reg Reg.KYO_STEP_NS = BitVec.ofInt 32 (Int.tmod w 1000000000) ∧ t.time.kyo.dt = k.dt ∧ t.mem = s.mem))

/-- Device time while it is kept and when it is rebuilt: the estimate grows by the quadratic of its state, past the budget HOLDOVER is out
of budget and the pulses are squelched; at the rebuild DT is the RTC's time in FREERUN, and MONO_NS does not run backwards; reads latch
for their owner (R262, R264, R280, R284). That KYO_MONO_LO latches for its reader alone is the model's choice (log 18). -/
def Obligations.TimeKept : Prop :=
  ∀ (s : State) (owner : Nat), s.inRun 15 = true → s.heard owner = true →
    let k := s.time.kyo
    let st := s.rd F.KYO_STATE_STATE
    let ms := k.holdMs + 1
    (s.dtOk = true → (st = 1 ∨ st = 2 ∨ st = 4) → Completes .estErrUpdate s fun t =>
      t.time.kyo = { k with holdMs := ms } ∧
      t.rd F.KYO_EST_ERR_EST_ERR = Nat.min 0xFFFFFFFF ((s.rd F.KYO_HOLD_E0_E0 * 65536000000 + s.rd F.KYO_HOLD_A1_A1 * ms * 65536000 +
        s.rd F.KYO_HOLD_A2_A2 * ms * ms) / 65536000000) ∧
      (let past := s.rd F.KYO_HOLD_BUDGET_NS * 1000 < t.rd F.KYO_EST_ERR_EST_ERR
       t.rd F.KYO_STATE_STATE = (if st = 1 ∧ past then 2 else st) ∧
       ∀ n < 4, t.rd (F.TP_STAT_SQUELCHED n) = if past ∧ s.on F.KYO_CTRL_SQUELCH = false then 1 else 0) ∧
      RegsBut kyoRegs s t ∧ t.mem = s.mem) ∧
    (k.valid = false → Completes .dtRebuild s fun t => t.time.kyo.valid = true ∧ t.time.kyo.dt = s.rtc.count * 1000000000) ∧
    (k.valid = false → s.nothingArmed → Completes .dtRebuild s fun t =>
      t.time.kyo.valid = true ∧ t.time.kyo.dt = s.rtc.count * 1000000000 ∧
      t.time.kyo.mono = (match s.time.record with
        | none => 0
        | some r => Nat.max (r.mono + 2 ^ 32) (r.mono + (s.rtc.count - r.rtc) * 1000000000)) ∧
      t.rd F.KYO_STATE_STATE = 4 ∧ t.rd F.KYO_STATE_SOL = 5 ∧ t.rd F.KYO_EVT_REBUILT = 1 ∧
      (s.on F.RTC_STAT_SET = false → t.rd F.KYO_SRC_ERR_SRC_ERR = 0xFFFFFFFF) ∧ t.mem = s.mem) ∧
    (Completes (.dtRead owner) s fun t =>
      t.answer = ⟨owner, .ok, 0, BitVec.ofNat 32 (dtNs s.dtNow)⟩ ∧ t.time.kyo = { k with dtLatch := put 0 k.dtLatch owner s.dtNow } ∧
      t.regs = s.regs ∧ t.mem = s.mem) ∧
    (Completes (.monoRead owner) s fun t =>
      t.answer = ⟨owner, .ok, 0, BitVec.ofNat 32 s.monoNow⟩ ∧
      t.time.kyo = { k with monoLatch := put 0 k.monoLatch owner s.monoNow } ∧ t.regs = s.regs ∧ t.mem = s.mem)

/-- Pulse outputs: an edge that the grid launches is placed and counted, counted alone when squelched, skipped when it comes too close to
the last; a phase ends at its launch target, or at once where that has passed; the loopback check compares what came back with TOL; a
calibration starts, ends with its codes and D_out held to their ranges, and swaps its tables (R266–R269, R280, R410). How ties of qerr_ps
round is the model's choice (log 17). -/
def Obligations.PulsesPlaced : Prop :=
  ∀ (s : State) (owner n x kind : Nat) (at_ : Int) (tables : List (List Nat × Nat)) (ladders : List (List Nat)) (ts : List TpTable), n < 4 →
    let only (t : State) : Prop := RegsBut [Reg.TP_STAT n] s t ∧ (∀ m, m ≠ n → t.pulse m = s.pulse m) ∧ t.mem = s.mem
    let mismatch (t : State) : Prop :=
      t.rd (F.TP_LB_MISM n) = Nat.min (2 ^ (F.TP_LB_MISM n).w - 1) (s.rd (F.TP_LB_MISM n) + 1) ∧
      (s.inRun 2 = true → look 0 s.safety.level (38 + n) = 0 → t.rd (bitFld (Reg.FLT_LATCH 0) (38 + n)) = 1)
    let err := s.loopbackError n at_
    let fits := s.spacingOk n (s.now + (s.placement n (s.launch n x)).1) (s.placement n (s.launch n x)).2.1
    (s.tpRuns n = true → s.gridNow n = some x →
      (s.squelched = false → fits = true → Completes (.tpEdge n true) s fun t =>
        t.rd (F.TP_STAT_ACTIVE n) = 1 ∧ (t.pulse n).edges = (s.pulse n).edges + 1 ∧ (t.pulse n).riseAt = x * 2 ^ 32 ∧
        t.rdS (F.TP_STAT_QERR n) = s.qerr n x ∧ only t) ∧
      (s.squelched = false → fits = false → Completes (.tpEdge n true) s fun t =>
        t.rd (F.TP_STAT_SKIP n) = Nat.min (2 ^ (F.TP_STAT_SKIP n).w - 1) (s.rd (F.TP_STAT_SKIP n) + 1) ∧ t.time = s.time ∧ only t) ∧
      (s.squelched = true → Completes (.tpEdge n true) s fun t =>
        (t.pulse n).edges = (s.pulse n).edges + 1 ∧ (t.pulse n).active = (s.pulse n).active ∧ only t)) ∧
    (s.dtOk = true → (s.pulse n).active = true → s.fallLaunch n < s.window.2 → Completes (.tpEdge n false) s fun t =>
      t.rd (F.TP_STAT_ACTIVE n) = 0 ∧ (t.pulse n).edges = (s.pulse n).edges ∧ only t) ∧
    (s.tpRuns n = true → s.on F.TP_LBCFG_LB_EN = true → s.squelched = false → s.on F.KYO_STATE_SPLL_BYP = false →
      kind = 2 ∨ (s.pulse n).expect = true → Completes (.loopbackCheck n kind at_) s fun t =>
        (kind = 0 → t.rdS (F.TP_LB_LB_ERR n) = (if err < -32768 then -32768 else if 32767 < err then 32767 else err)) ∧
        (kind ≠ 2 → (t.pulse n).expect = false) ∧ ((t.pulse n).expect = true → (s.pulse n).expect = true) ∧
        (if kind = 0 ∧ err.natAbs ≤ s.rd F.TP_LBCFG_TOL then t.rd (F.TP_LB_MISM n) = s.rd (F.TP_LB_MISM n) ∧ t.safety = s.safety
          else mismatch t) ∧ t.mem = s.mem) ∧
    (s.inRun 15 = true → s.heard owner = true →
      (Completes (.tpCalStart owner) s fun t =>
        t.rd F.TP_CAL_STAT_BUSY = 1 ∧ RegsBut [Reg.TP_CAL_STAT] s t ∧ t.time = s.time ∧ t.mem = s.mem) ∧
      (s.on F.TP_CAL_STAT_BUSY = true → s.rd (F.PLL_STAT_STATE 3) = 2 → Completes (.tpCalDone tables ladders) s fun t =>
        t.rd F.TP_CAL_STAT_BUSY = 0 ∧ t.rd F.TP_CAL_STAT_DONE = 1 ∧
        t.time = { s.time with newTables := some (tables.map calTable), newLadders := ladders } ∧
        RegsBut [Reg.TP_CAL_STAT, Reg.MON_VCORE] s t ∧ t.mem = s.mem)) ∧
    (s.time.newTables = some ts → (∀ m < 4, (s.pulse m).freeFrom ≤ s.now) → Completes .tpCalSwap s fun t =>
      (∀ m < 4, (t.pulse m).table = ts.getD m {}) ∧ t.time.calibrated = true ∧ t.time.newTables = none ∧
      t.time.ladders = s.time.newLadders ∧ t.mem = s.mem)

/-- Captures and triggers: a selected edge is stamped into its channel's FIFO, a 17th, or one within 8 ns of
the last, is lost and counted; a read pops the oldest; a
trigger is armed for a target ahead, missed for one behind, and fires when DT has reached it (R271–R275). -/
def Obligations.CapturesAndTriggers : Prop :=
  ∀ (s : State) (owner m k code td : Nat) (rising : Bool) (v : Word) (e : Capture) (rest : List Capture), s.inRun 15 = true → s.heard owner = true →
    (s.dtOk = true → m < 8 → s.inputOn (20 + m) 0 = true → s.on (F.CAP_CFG_EN m) = true → s.edgeSelected m rising = true →
      let at_ := s.now * 390625 + (s.time.ladders.getD m []).getD code 0 * 192
      let near := (s.cap m).lastNow.any fun t => decide (at_ < t + 1536000)
      Completes (.captureEdge m rising code) s fun t =>
        if near = false ∧ (s.cap m).fifo.length < 16 then
          (t.cap m).fifo = (s.cap m).fifo ++ [⟨s.stampOf m code, rising, s.on F.KYO_STATE_SPLL_BYP⟩] ∧
          t.rd (F.CAP_STAT_LEVEL m) = (s.cap m).fifo.length + 1 ∧ t.rd ⟨Reg.CAPTRG_EVT, m, 1⟩ = 1 ∧
          RegsBut [Reg.CAP_STAT m, Reg.CAPTRG_EVT] s t ∧ t.mem = s.mem
        else
          (t.cap m).fifo = (s.cap m).fifo ∧ t.rd F.CAPTRG_EVT_CAP_OVF = 1 ∧
          t.rd (F.CAP_STAT_OVF m) = Nat.min 65535 (s.rd (F.CAP_STAT_OVF m) + 1) ∧ t.mem = s.mem) ∧
    (m < 9 → (s.cap m).fifo = e :: rest → Completes (.capturePop owner m) s fun t =>
      (t.cap m).fifo = rest ∧ t.answer = ⟨owner, .ok, 0, BitVec.ofNat 32 (2 ^ 31 + dtNs e.dt)⟩ ∧
      (t.reg (Reg.CAP_SEC_LO m)).toNat = dtSec e.dt % 2 ^ 32 ∧ t.rd (F.CAP_STAT_RISING m) = (if e.rising then 1 else 0) ∧
      RegsBut [Reg.CAP_STAT m, Reg.CAP_SEC_LO m, Reg.CAP_SEC_HI m] s t ∧ t.mem = s.mem) ∧
    (m < 9 → (s.cap m).fifo = [] → Completes (.capturePop owner m) s fun t => t.answer = ⟨owner, .ok, 0, 0⟩ ∧ t.noAnswer = s.noAnswer) ∧
    (k < 16 → tdOf (Reg.TRG_CFG k) = some td → (s.txn td).state = .idle → s.rwtCode owner td (Reg.TRG_CFG k) v = 0 → v.getLsbD 0 = true →
      s.dtOk = true →
      (s.time.kyo.dt < s.trgAt k → Completes (.trgArmWrite owner k v) s fun t =>
        t.rd (F.TRG_STAT_STATE k) = 1 ∧ t.rd (F.TRG_CFG_ARM k) = 1 ∧ (t.trig k).target = s.trgAt k ∧
        RegsBut [Reg.TRG_CFG k, Reg.TRG_STAT k] s t ∧ t.mem = s.mem) ∧
      (s.trgAt k ≤ s.time.kyo.dt → v.getLsbD 1 = false → s.trgPeriod k = 0 → Completes (.trgArmWrite owner k v) s fun t =>
        t.rd (F.TRG_STAT_STATE k) = 0 ∧ t.rd (F.TRG_CFG_ARM k) = 0 ∧ t.rd (F.TRG_STAT_MISSED k) = 1 ∧
        t.rd F.CAPTRG_EVT_TRG_MISSED = 1 ∧ RegsBut [Reg.TRG_CFG k, Reg.TRG_STAT k, Reg.CAPTRG_EVT] s t ∧ t.mem = s.mem)) ∧
    (s.trgDue k = true → Completes (.triggerFire k) s fun t => t.rd ⟨Reg.CAPTRG_EVT, 8 + k, 1⟩ = 1 ∧
      if s.trgPeriod k = 0 then t.rd (F.TRG_CFG_ARM k) = 0 ∧ t.rd (F.TRG_STAT_STATE k) = 2
      else (t.trig k).target = (s.trig k).target + s.trgPeriod k) ∧
    (s.trgDue k = true → s.on (F.TRG_CFG_DMA k) = false → s.on (F.TRG_CFG_CTX k) = false → s.on (F.TRG_CFG_WAKE k) = false →
      Completes (.triggerFire k) s fun t =>
        t.rd ⟨Reg.CAPTRG_EVT, 8 + k, 1⟩ = 1 ∧ t.mem = s.mem ∧ RegsBut [Reg.TRG_CFG k, Reg.TRG_STAT k, Reg.CAPTRG_EVT] s t ∧
        if s.trgPeriod k = 0 then t.rd (F.TRG_CFG_ARM k) = 0 ∧ t.rd (F.TRG_STAT_STATE k) = 2
        else t.rd (F.TRG_STAT_STATE k) = 1 ∧ (t.trig k).target = (s.trig k).target + s.trgPeriod k)

/-! ### Network (13) -/

/-- Frames: one that is received is stamped and, to a group address, queued for every other member port of its VLAN that is up; a port
sends the next of its highest priority, with its correction field grown by its residence where the port corrects; a frame of firmware joins
the port's queue, and the two-step stamp of one that leaves is held in the FIFO; a read pops that FIFO (R287, R288, R291, R292). Frames
stand without their FCS, and a queue's priority and tags are as log 40 chooses. -/
def Obligations.SwitchCarriesFrames : Prop :=
  ∀ (s : State) (owner p v ps h ty : Nat) (bs : List Nat) (f : Frame) (x : TxFrame) (q : List Frame) (st : TxStamp) (rest : List TxStamp) (room : Bool),
    s.inRun 16 = true →
    let dest := beAt bs 0 6
    let src := beAt bs 6 6
    let tag := beAt bs 14 2 % 4096
    let vid := if tagged bs ∧ tag ≠ 0 then tag else s.rd (F.NP_CFG_PVID p)
    let same (t : State) : Prop := t.regs = s.regs ∧ t.mem = s.mem
    (p < 4 → s.on (F.NP_STAT_LINK p) = true →
      (s.on F.NET_CTRL_EN = true → 1996 < bs.length → Completes (.frameRx p bs ps room) s (· = s)) ∧
      (s.on F.NET_CTRL_EN = true → bs.length ≤ 1996 →
        (s.vlanOf vid = some v → Completes (.frameRx p bs ps true) s fun t =>
          (dest ≠ src → ∀ o < 5, t.netQueue o = s.netQueue o ++
            if o ≠ p ∧ (s.rd (F.NET_VLAN_MEMBER v)).testBit o = true ∧ (o = 4 ∨ s.on (F.NP_STAT_LINK o) = true) ∧
                (dest / 2 ^ 40 % 2 = 1 ∨ look 0 s.net.macs dest = 0 ∨ look 0 s.net.macs dest = o + 1) then
              [{ bytes := s.retag v vid o bs, port := p, prio := prioOf bs
                 stamp := if s.on F.PTPA_CTRL_EN then (s.ingress p ps).1 else 0
                 mono := if s.on F.PTPA_CTRL_EN then (s.ingress p ps).2 else 0 }]
            else []) ∧
          (s.on F.NET_CTRL_LEARN = true → src / 2 ^ 40 % 2 = 0 → s.net.macs.length < 2048 → look 0 t.net.macs src = p + 1) ∧ same t) ∧
        (s.vlanOf vid = none → Completes (.frameRx p bs ps true) s fun t =>
          t.rd F.NET_STAT_NOVLAN = Nat.min 65535 (s.rd F.NET_STAT_NOVLAN + 1) ∧ t.net.queues = s.net.queues ∧
          RegsBut [Reg.NET_STAT] s t ∧ t.mem = s.mem) ∧
        (Completes (.frameRx p bs ps false) s fun t =>
          t.rd F.NET_STAT_NOBUF = Nat.min 65535 (s.rd F.NET_STAT_NOBUF + 1) ∧ t.net = s.net ∧ RegsBut [Reg.NET_STAT] s t ∧ t.mem = s.mem)) ∧
      (nextFrame (s.netQueue p) = some (f, q) → (if f.port = 4 then f.flag = 0 else s.on F.PTPA_CTRL_TC_EN = false) →
        Completes (.frameTx p none ps) s fun t =>
        t.frames = s.frames ++ [⟨0x100 + p, f.bytes⟩] ∧ t.netQueue p = q ∧ (∀ o, o ≠ p → t.netQueue o = s.netQueue o) ∧ same t) ∧
      (nextFrame (s.netQueue p) = some (f, q) → ptpEvent f.bytes = some (h, ty, none) → h + 16 ≤ f.bytes.length → f.port < 4 →
        s.on F.PTPA_CTRL_EN = true → s.on F.PTPA_CTRL_TC_EN = true → s.on F.PTPA_CTRL_TC_P2P = false →
        (s.rd F.PTPA_CTRL_TC_PORTS).testBit f.port = true → (s.rd F.PTPA_CTRL_TC_PORTS).testBit p = true →
        s.tcDomain (beAt f.bytes (h + 4) 1) = true → Completes (.frameTx p none ps) s fun t =>
          let out := t.lastPayload; t.frames = s.frames ++ [⟨0x100 + p, out⟩] ∧ out.length = f.bytes.length ∧ out.take (h + 8) = f.bytes.take (h + 8) ∧
            out.drop (h + 16) = f.bytes.drop (h + 16) ∧
            signed 64 (beAt out (h + 8) 8) =
              min (2 ^ 63 - 1) (signed 64 (beAt f.bytes (h + 8) 8) + (((s.egress p ps).2 - f.mono) / 65536 : Nat))) ∧
      (ptpAt x.bytes = some (h, none) → tagged x.bytes = false → x.config = none → s.netQueue p = [] → s.on F.PTPA_CTRL_EN = true →
        x.flag = 2 → s.net.txts.length < 64 → Completes (.frameTx p (some x) ps) s fun t =>
          let out := s.announce x.bytes
          t.frames = s.frames ++ [⟨0x100 + p, out⟩] ∧ t.netQueue p = [] ∧ same t ∧
          t.net.txts = s.net.txts ++ [⟨beAt out (h + 30) 2, p, beAt out h 1 % 16, (s.egress p ps).1⟩]) ∧
      (tagged x.bytes = false → x.config = none → nextFrame (s.netQueue p) = some (f, q) → f.port = 4 → f.flag = 0 →
        prioOf (s.announce x.bytes) ≤ f.prio → Completes (.frameTx p (some x) ps) s fun t =>
          t.frames = s.frames ++ [⟨0x100 + p, f.bytes⟩] ∧ same t ∧ t.netQueue p = q ++
            [{ bytes := s.announce x.bytes, port := 4, prio := prioOf (s.announce x.bytes), flag := x.flag, req := x.req }])) ∧
    (nextFrame (s.netQueue 4) = some (f, q) → Completes (.frameTx 4 none ps) s fun t =>
      t.frames = s.frames ++ [⟨0x104, cpuBytes f⟩] ∧ t.netQueue 4 = q ∧ (∀ o, o ≠ 4 → t.netQueue o = s.netQueue o) ∧ same t) ∧
    (s.net.txts = st :: rest → s.heard owner = true → s.answers Reg.PTPA_TXTS_INFO = true → Completes (.txtsPop owner) s fun t =>
      t.net.txts = rest ∧ t.rd F.PTPA_TXTS_NS_NS = dtNs st.dt % 2 ^ 30 ∧
      t.answer = ⟨owner, .ok, 0, BitVec.ofNat 32 (st.seqId + st.port * 2 ^ 16 + st.msgType * 2 ^ 20 + 2 ^ 31)⟩ ∧
      RegsBut [Reg.PTPA_TXTS_NS, Reg.PTPA_TXTS_SEC_LO, Reg.PTPA_TXTS_SEC_HI] s t ∧ t.mem = s.mem)

/-- Links and NP3: a link comes up where the port's mode and clock allow, one that goes down empties its queue and, under the selected
master, ends in HOLDOVER; an address ages out; NP3 wakes at a frame that matches the wake filter and holds it, or counts it as lost where
the buffer is taken, and counts one that does not match; Gheand's frames are the service engine's (R286, R287, R296, R302–R304, R386). -/
def Obligations.LinksAndWakeFrames : Prop :=
  ∀ (s : State) (p mac : Nat) (bs : List Nat) (slave : Bool),
    (s.linkCan p = true → Completes (.linkUp p) s fun t =>
      t.rd (F.NP_STAT_LINK p) = 1 ∧ t.rd (F.NP_STAT_S p) = s.speedOf p ∧ RegsBut [Reg.NP_STAT p] s t ∧
      t.noRegs = (if p = 3 then s.setGone 0 false else s).noRegs) ∧
    (p < 4 → s.on (F.NP_STAT_LINK p) = true → Completes (.linkDown p slave) s fun t =>
      t.rd (F.NP_STAT_LINK p) = 0 ∧ t.rd (F.NP_STAT_S p) = 0 ∧ t.netQueue p = [] ∧ (∀ o, o ≠ p → t.netQueue o = s.netQueue o) ∧
      (slave = false → RegsBut [Reg.NP_STAT p] s t) ∧ t.mem = s.mem ∧
      (slave = true → s.dtOk = true → s.rd F.KYO_STATE_SOL = 3 → s.rd F.KYO_STATE_STATE = 0 →
        t.rd F.KYO_STATE_STATE = 1 ∨ t.rd F.KYO_STATE_STATE = 2)) ∧
    (s.inRun 16 = true → s.rd F.NET_CTRL_AGE_S ≠ 0 → s.rd F.NET_CTRL_AGE_S * Config.fclkHz ≤ s.now - look 0 s.net.macSeen mac →
      Completes (.macAgeing mac) s fun t =>
      look 0 t.net.macs mac = 0 ∧ (∀ m, m ≠ mac → look 0 t.net.macs m = look 0 s.net.macs m) ∧ t.regs = s.regs ∧ t.mem = s.mem) ∧
    (s.inRun 0 = true → s.inRun 16 = false → s.on F.NP3_STAT_LINK = true →
      ¬ (beAt bs 12 2 = 0x88B5 ∧ (beAt bs 0 6 = Config.np3Mac ∨ beAt bs 0 6 = 2 ^ 48 - 1)) →
      (s.wakeMatch bs = false → Completes (.np3FrameRx bs) s fun t =>
        t.rd F.NP3_WAKE_STAT_DROPPED = Nat.min (2 ^ F.NP3_WAKE_STAT_DROPPED.w - 1) (s.rd F.NP3_WAKE_STAT_DROPPED + 1) ∧
        RegsBut [Reg.NP3_WAKE_STAT] s t ∧ t.noRegs = s.noRegs) ∧
      (s.wakeMatch bs = true → Completes (.np3FrameRx bs) s fun t =>
        (if s.net.wakeFrame = none then
          t.net.wakeFrame = some { bytes := bs, port := 3, prio := prioOf bs, stamp := s.rtc.count, rtcStamp := true } ∧
          t.rd F.NP3_WAKE_STAT_HELD = 1 ∧ t.rd F.NP3_WAKE_STAT_LOST = s.rd F.NP3_WAKE_STAT_LOST
        else t.net.wakeFrame = s.net.wakeFrame ∧
          t.rd F.NP3_WAKE_STAT_LOST = Nat.min (2 ^ F.NP3_WAKE_STAT_LOST.w - 1) (s.rd F.NP3_WAKE_STAT_LOST + 1)) ∧
        t.rd F.PWR_WAKESTAT_CAUSE = 4 ∧ t.rd F.PWR_EVT_WAKE = 1 ∧
        (∀ d, 1 ≤ d → d ≤ 18 → (s.rd F.NP3_WAKE_DOM_DOMAINS).testBit d = true → t.rd ⟨Reg.PWR_DOM_VOTE d, 20, 1⟩ = 1) ∧ t.mem = s.mem))

/-- Network services: firmware answers an NTP request that it was handed, up to 20,000 a second, and drops one in another mode or with more
than its 48 bytes; unicast grants up to 65,536 messages a second and 1,024 clients; the end of announces and of ESMC; the ESMC PDUs, with the
QL of each port, that queue 7 takes (R287, R291, R295, R296, R299–R301). The QL codes are those of ITU-T G.8264 (log 41). -/
def Obligations.NetworkServices : Prop :=
  ∀ (s : State) (mode version poll tx rx steps p ps client rate duration qlA qlB u v ql : Nat) (g : Frame) (event opt2 : Bool),
    s.inRun 16 = true → s.firmware = true →
    let others := s.net.unicast.filter fun e => decide (e.1 ≠ client ∧ s.time.kyo.mono < e.2.2)
    let total := (others.map (·.2.1)).foldl (· + ·) 0
    let same (t : State) : Prop := t.regs = s.regs ∧ t.mem = s.mem
    let asked : Prop := s.net.asks[rx]? = some g ∧ udpAt g.bytes = some (u, v) ∧ ntpFields g.bytes u = (mode, version, poll, tx)
    let due (o : Nat) : Bool := s.on (F.NP_STAT_LINK o) && !(event && decide (look 0 s.net.qlTold o = ql % 16 + 1))
    let pdu : List Frame := [{ bytes := s.esmcPdu event (ql % 16), port := 4, prio := 7 }]
    (s.net.asks[rx]? = none → Completes (.ntpRequest mode version poll tx rx steps p ps) s (· = s)) ∧
    (asked → p < 4 → mode ≠ 3 ∨ beAt g.bytes (u + 4) 2 ≠ 56 → Completes (.ntpRequest mode version poll tx rx steps p ps) s fun t =>
      t.net = { s.net with asks := s.net.asks.eraseIdx rx } ∧ t.frames = s.frames ∧ same t) ∧
    (asked → mode = 3 → beAt g.bytes (u + 4) 2 = 56 → u + 56 ≤ g.bytes.length → tagged g.bytes = false → p < 4 →
      s.on (F.NP_STAT_LINK p) = true → s.netQueue p = [] → (s.net.ntpSec ≠ dtSec s.dtNow ∨ s.net.ntpCount < 20000) →
      Completes (.ntpRequest mode version poll tx rx steps p ps) s fun t =>
      t.rd F.PTPA_NTP_SERVED_COUNT = Nat.min (2 ^ F.PTPA_NTP_SERVED_COUNT.w - 1) (s.rd F.PTPA_NTP_SERVED_COUNT + 1) ∧
      RegsBut [Reg.PTPA_NTP_SERVED] s t ∧ t.mem = s.mem ∧
      t.net.asks = s.net.asks.eraseIdx rx ∧ t.netQueue p = [] ∧
      let out := t.lastPayload; let start := if v = 4 then 34 else 54; let body := out.drop (start + 8)
        t.frames = s.frames ++ [⟨0x100 + p, out⟩] ∧ out.length = start + 56 ∧ out.take 6 = (g.bytes.drop 6).take 6 ∧
        beAt out start 2 = 123 ∧ beAt out (start + 2) 2 = beAt g.bytes u 2 ∧ (v = 4 → beAt out (start + 6) 2 = 0) ∧
        body.getD 0 0 % 64 = version % 8 * 8 + 4 ∧
        (s.on F.OCQ_STAT_SAFE = true ∨ s.rd F.KYO_STATE_STATE = 2 ∨ s.rd F.KYO_STATE_STATE = 4 → body.getD 0 0 / 64 = 3) ∧
        (s.rd F.KYO_STATE_SOL = 1 ∨ s.rd F.KYO_STATE_SOL = 2 → body.getD 1 0 = 1 ∧ (body.drop 12).take 4 = [0x47, 0x4E, 0x53, 0x53]) ∧
        (body.drop 24).take 8 = beBytes 8 tx ∧ (body.drop 32).take 8 = s.ntpTime g.stamp ∧ body.drop 40 = s.ntpTime (s.egress p ps).1) ∧
    (asked → mode = 3 → beAt g.bytes (u + 4) 2 = 56 → p < 4 → s.net.ntpSec = dtSec s.dtNow → 20000 ≤ s.net.ntpCount → Completes (.ntpRequest mode version poll tx rx steps p ps) s fun t =>
      t.rd F.PTPA_NTP_DROP_COUNT = Nat.min (2 ^ F.PTPA_NTP_DROP_COUNT.w - 1) (s.rd F.PTPA_NTP_DROP_COUNT + 1) ∧ t.frames = s.frames ∧
      RegsBut [Reg.PTPA_NTP_DROP] s t ∧ t.mem = s.mem) ∧
    (others.length < 1024 → total + rate ≤ 65536 → Completes (.requestUnicastTransmission client rate duration) s fun t =>
      t.net.unicast = (if duration = 0 then others else others ++ [(client, rate, s.time.kyo.mono + duration * Config.dtSecond)]) ∧
      t.frames = s.frames ++ [⟨0x201, beBytes 4 client ++ beBytes 4 duration⟩] ∧ same t) ∧
    ((1024 ≤ others.length ∨ 65536 < total + rate) → Completes (.requestUnicastTransmission client rate duration) s fun t =>
      t.net = s.net ∧ t.rd F.PTPA_EVT_UC_REFUSED = 1 ∧ t.frames = s.frames ++ [⟨0x201, beBytes 4 client ++ beBytes 4 0⟩] ∧ t.mem = s.mem) ∧
    (s.dtOk = true → s.rd F.KYO_STATE_SOL = 3 → s.rd F.KYO_STATE_STATE = 0 → Completes .announceReceiptTimeout s fun t =>
      (t.rd F.KYO_STATE_STATE = 1 ∨ t.rd F.KYO_STATE_STATE = 2) ∧ t.rd F.KYO_EVT_HOLDOVER = 1 ∧ t.mem = s.mem) ∧
    ((s.rd (F.PLL_STAT_STATE 5) = 2 ∨ s.rd (F.PLL_STAT_STATE 5) = 3) → Completes (.esmcPduSend event opt2 qlA qlB) s fun t =>
      t.frames = s.frames ∧ same t ∧ ∀ o < 3,
        (ql = (if (s.pll 5).input = o + 2 then 0xF else if s.rd (F.PLL_STAT_STATE 5) = 3 then (if opt2 then 0xA else 0xB)
            else if (s.pll 5).input = 0 then qlA else qlB) →
          s.rd (F.PLL_STAT_STATE 5) = 3 ∨ (s.pll 5).input < 2 ∨ (s.pll 5).input = o + 2 →
          t.netQueue o = s.netQueue o ++ (if due o then pdu else []) ∧
          look 0 t.net.qlTold o = if due o then ql % 16 + 1 else look 0 s.net.qlTold o)) ∧
    (p < 3 → s.ranMs (.esmc p) 5000 = true → Completes (.esmcTimeout p) s fun t =>
      look 0 t.net.esmcQl p = 256 ∧ (∀ o, o ≠ p → look 0 t.net.esmcQl o = look 0 s.net.esmcQl o) ∧ same t)

/-- Peers: a report of the own timing domain no older than 300 ms is kept, the farthest of 32 giving way to a nearer one; one with the own
NODE_ID from another address is a conflict, after which none is sent; a report goes with its sequence number to the multicast group of the
configuration (R306, R307). That an
event whose condition does not hold changes nothing is the model's choice (log 7). -/
def Obligations.PeersReported : Prop :=
  ∀ (s : State) (report : List Nat) (sec ms : Nat) (x y z : Int) (sats : List (Nat × Nat × Int)) (own : Bool) (group v : Nat),
    s.inRun 16 = true → s.firmware = true →
    let dist := reportDist report x y z
    let late := (reportEpoch report + 300) * 1000000 < inNs s.dtNow
    let node := leNum ((report.drop 2).take 2) % 16384
    let others := s.net.peers.filter fun y => decide (y.node ≠ node)
    (leNum (report.take 2) = s.net.config.tdom → node ≠ s.net.config.nodeId → ¬ late → Completes (.peerReport ⟨report, own⟩ x y z) s fun t =>
      (others.length < 32 → t.net.peers = others ++ [⟨node, dist, report⟩]) ∧
      (32 ≤ others.length → dist < farthest others → ⟨node, dist, report⟩ ∈ t.net.peers ∧ t.net.peers.length = others.length) ∧
      (32 ≤ others.length → farthest others ≤ dist → t.net.peers = others) ∧
      { t with net := s.net } = s) ∧
    ((leNum (report.take 2) ≠ s.net.config.tdom ∨ node ≠ s.net.config.nodeId ∧ late) → Completes (.peerReport ⟨report, own⟩ x y z) s (· = s)) ∧
    (leNum (report.take 2) = s.net.config.tdom → node = s.net.config.nodeId → s.net.conflict = false → Completes (.peerReport ⟨report, false⟩ x y z) s fun t =>
      t.net = { s.net with conflict := true } ∧ RegsBut [Reg.CRUMB_LOST] s t ∧ t.mem = s.mem) ∧
    (leNum (report.take 2) = s.net.config.tdom → node = s.net.config.nodeId → own = true ∨ s.net.conflict = true →
      Completes (.peerReport ⟨report, own⟩ x y z) s (· = s)) ∧
    (s.net.conflict = false → s.net.config.reportTo = [(false, 0xE0000000 + group % 2 ^ 28)] → s.vlanOf s.net.config.vid = some v →
      Completes (.peerReportSend sec ms x y z sats) s fun t =>
      let payload := s.reportPayload sec ms x y z (sats.take 64)
      let bs := (s.reportFrame (frameBytes 0x30 payload) (false, 0xE0000000 + group % 2 ^ 28)).1
      t.net.reportSeq = (s.net.reportSeq + 1) % 2 ^ 32 ∧ t.net.peers = s.net.peers ∧ t.regs = s.regs ∧ t.mem = s.mem ∧ t.frames = s.frames ∧
      (∀ o < 4, t.netQueue o = s.netQueue o ++
        if (s.rd (F.NET_VLAN_MEMBER v)).testBit o = true ∧ s.on (F.NP_STAT_LINK o) = true then
          [{ bytes := s.retag v s.net.config.vid o bs, port := 4, prio := 7 }] else []) ∧
      bs.drop 42 = frameBytes 0x30 payload ∧ beAt bs 36 2 = 47480 ∧ beAt bs 30 4 = 0xE0000000 + group % 2 ^ 28 ∧
      payload.take 2 = leBytes 2 s.net.config.tdom ∧ (payload.drop 2).take 2 = leBytes 2 s.net.config.nodeId ∧
      (payload.drop 4).take 4 = leBytes 4 s.net.reportSeq ∧
      payload.getD 28 0 = Nat.min 64 sats.length ∧ payload.length = 32 + 8 * Nat.min 64 sats.length) ∧
    (s.net.conflict = true → Completes (.peerReportSend sec ms x y z sats) s (· = s))

/-! ### Power (14) -/

/-- Votes: a client's write changes its own votes of the mask and no other's; a domain voted for whose implied domains run wakes, a domain
that no vote holds drains; an owner without a client is answered with TGT_ERR; wake sources vote for client 20 (R20, R309–R311, R316). -/
def Obligations.PowerVotes : Prop :=
  ∀ (s : State) (owner mask c d : Nat), s.inRun 0 = true → 1 ≤ d → d ≤ 18 →
    let vote (t : State) (c : Nat) : Nat := t.rd ⟨Reg.PWR_DOM_VOTE d, c, 1⟩
    let woken (cause mask : Nat) (t : State) : Prop :=
      t.rd F.PWR_WAKESTAT_CAUSE = cause ∧ t.rd F.PWR_EVT_WAKE = 1 ∧ (mask.testBit d = true → vote t 20 = 1) ∧ t.mem = s.mem
    (clientOf owner = some c → s.heard owner = true →
      (Completes (.pwrVoteRaise owner mask) s fun t =>
        vote t c = (if mask.testBit d then 1 else vote s c) ∧ (∀ o < 8, o ≠ c → vote t o = vote s o) ∧
        (mask.testBit d = true → s.dom d = 0 → s.power.stopUpdate = false → (∀ e ∈ implies d, s.inRun e = true) → t.dom d = 1) ∧
        t.mem = s.mem) ∧
      (Completes (.pwrVoteWithdraw owner mask) s fun t =>
        vote t c = (if mask.testBit d then 0 else vote s c) ∧ (∀ o < 8, o ≠ c → vote t o = vote s o) ∧
        (mask.testBit d = true → d ∈ [3, 4, 5, 6, 16, 17, 18] → s.dom d = 2 → s.rd (F.PWR_DOM_VOTE_VOTES d) = 2 ^ c →
          s.landingOn d = false → t.dom d = 3) ∧ t.mem = s.mem)) ∧
    (clientOf owner = none → Completes (.pwrVoteRaise owner mask) s fun t =>
      t.answer.status = .tgtErr ∧ t.rd F.PWR_EVT_NO_CLIENT = 1 ∧ RegsBut [Reg.PWR_EVT] s t ∧ t.mem = s.mem) ∧
    (s.on F.PWR_WAKE_CFG_PIN = true → Completes .wakeNAssert s (woken 1 (s.rd (F.PWR_WAKE_DOM_DOMAINS 0)))) ∧
    (s.on F.PWR_WAKE_CFG_HOST = true → s.host.sel ≠ 3 → Completes .hostActivity s (woken 3 (s.rd (F.PWR_WAKE_DOM_DOMAINS 2))))

/-- Domains: a waking domain enters RUN and stays there while voted for, CORE to boot with the context store being cleared; a drained one,
or one whose drain times out, is OFF, its registers, but for the settings that R311 lets it go on with, at their reset values and its memory, but for retained banks, lost
(R311–R313, R317, R350). Which settings those are is the model's choice (log 131), and so is that lost memory reads free values (log 3). -/
def Obligations.DomainsRunAndStop : Prop :=
  ∀ (s : State) (d b : Nat), 1 ≤ d → d ≤ 18 →
    let off (t : State) : Prop :=
      (t.dom d = 0 ∨ t.dom d = 1) ∧
      ((∀ e < 19, 1 ≤ e → e ≠ d → (t.dom e = 2 ↔ s.dom e = 2)) →
        ∀ a, domainOf a = some d → t.reg a &&& ~~~(keptBits d a) = resetOf a &&& ~~~(keptBits d a)) ∧
      (d = 15 → t.time = { record := s.time.record }) ∧
      (d ∈ [3, 4, 5, 6, 15, 17] → t.mem = s.mem) ∧
      (d = 1 → b < 8 → ∀ a, 0x10000000 + 0x100000 * b ≤ a → a < 0x10100000 + 0x100000 * b →
        if (s.rd F.PWR_RET_BANKS).testBit b then t.byte a = s.byte a
        else look 0 t.lost (a / 2 ^ 18) ≠ 0 ∧ t.byte a = Config.freeByte (look 0 t.lost (a / 2 ^ 18)) a)
    (s.dom d = 1 → (d ≤ 2 ∨ s.inRun 2 = true) → Completes (.domainRun d) s fun t =>
      (t.dom d = 2 ∨ t.dom d = 3) ∧ (s.rd ⟨Reg.PWR_DOM_VOTE d, 0, 1⟩ = 1 → t.dom d = 2) ∧ t.mem = s.mem ∧
      (d = 1 → t.rd F.TRK_SCRUB_CLEARING = 1 ∧ t.boot.due = true) ∧ (8 ≤ d → d ≤ 13 → t.rd (F.POD_STAT_STATE (d - 8)) = 1) ∧
      (d = 15 → t.rd F.TP_CAL_STAT_BUSY = 1) ∧ (d = 18 → ∀ n < 8, t.rd (F.LYZ_CTX_STAT_STATE n) = if t.inRun 18 then 1 else 0)) ∧
    (s.dom d = 3 → s.drained d = true → Completes (.domainOff d) s off) ∧
    (s.dom d = 3 → 2 ≤ d → s.drainOver d = true → Completes (.drainTimeout d) s fun t =>
      off t ∧ t.rd (F.PWR_DOM_STAT_DRAIN_TO d) = 1 ∧ t.rd F.PWR_EVT_DRAIN_TIMEOUT = 1)

/-- The Proofer: of the track-blocks that the slice completes, those of P0 are always admitted, with it switched off all are, no other
is, a block admitted before stays so until its track has passed it, and those admitted of other priorities stay within what the ration leaves over the base; packing moves every track of the highest voted pod elsewhere or votes for another pod; a
conversion shows eight temperatures, the hottest, and the critical one (R318–R323, R348, R411). What an event measured is its operand,
the model's choice (log 6). -/
def Obligations.ProoferAdmits : Prop :=
  ∀ (s : State) (rest : List Nat) (temps : List Int) (vcore h q : Nat) (m : Moves) (bins : Nat), s.inRun 1 = true →
    let ended (k x : Nat) : Prop := (s.ending (s.trkStream k)).any (fun b => decide (b.seq % 2 ^ 32 = x)) = true
    let takes (t : State) (k : Nat) : Prop := ∃ x ∈ (t.trk k).admitted, ended k x
    let ts := temps.map (held (-160) 600)
    (Completes (.prooferSlice bins) s fun t =>
      (∀ k < 4096, (s.charged k = true → s.trkPrio k = 0 ∨ s.on F.PRF_CTRL_EN = false → takes t k) ∧
        (∀ x ∈ (t.trk k).admitted, x ∈ (s.trk k).admitted ∧ 0 ≤ s.aheadOf k x ∨ s.charged k = true ∧ ended k x) ∧
        ∀ x ∈ (s.trk k).admitted, 0 ≤ s.aheadOf k x → x ∈ (t.trk k).admitted) ∧
      (s.on F.PRF_CTRL_EN = false → t.rd F.PRF_DEFER_LAST = 0) ∧
      (s.on F.PRF_CTRL_EN = true →
        ((t.power.slice.filter fun k => decide (s.trkPrio k ≠ 0)).map s.trkEnergy).foldl (· + ·) 0 ≤ s.ration - mwUnits (s.rd F.PRF_BASE_MW)) ∧
      t.rd F.PRF_RATION_NJ = s.ration / 256000000 % 2 ^ 24 ∧
      t.rd F.PRF_STAT_BASE_OVER = (if s.ration < mwUnits (s.rd F.PRF_BASE_MW) then 1 else 0) ∧ t.mem = s.mem) ∧
    (s.on F.PRF_CTRL_PACK_EN = true → s.power.packTo = none →
      s.ranMs .packing (s.rd F.PRF_PACK_PERIOD_MS) = true →
      ((∃ p < 6, s.podVoted p = true ∧ s.podOver p = true) → q < 6 → s.podVoted q = false → (∀ p < q, s.podVoted p = true) →
        Completes .podPack s fun t =>
          t.rd ⟨Reg.PWR_DOM_VOTE (8 + q), 5, 1⟩ = 1 ∧ t.power.packTo = some q ∧ t.rd F.PRF_EVT_PACK = 1 ∧ t.mem = s.mem) ∧
      ((∀ p < 6, s.podVoted p = true → s.podOver p = false) → ((List.range 6).filter s.podVoted).reverse = h :: rest →
        rest.filter s.podTakes ≠ [] → s.placeAll (rest.filter s.podTakes) (s.rd F.PRF_POD_PACK_LO) (s.podTracks h) [] = some m →
        Completes .podPack s fun t =>
          t.power.packFrom = some h ∧ t.rd F.PRF_EVT_PACK = 1 ∧ RegsBut [Reg.PRF_EVT] s t ∧ t.mem = s.mem ∧
          ∀ e ∈ m, e.2 ≠ h ∧ s.trkPod e.1 = h ∧ ((s.trk e.1).stopping = false → (s.trk e.1).moveTo = none → (t.trk e.1).moveTo = some e.2))) ∧
    (temps.length = 8 → Completes (.monConversion temps vcore) s fun t =>
      (∀ i < 8, t.rd (F.MON_TEMP_TEMP i) = unsigned 12 (ts.getD i 0) ∧ t.rd (F.MON_TEMP_VALID i) = 1) ∧
      t.rd F.MON_VCORE_VCORE = vcore % 2 ^ 12 ∧ t.mem = s.mem ∧
      ∃ hot ∈ ts, (∀ x ∈ ts, x ≤ hot) ∧ t.rd F.MON_TEMP_MAX_TEMP = unsigned 12 hot ∧
        look 0 t.safety.level 64 = if 4 * (s.rd F.PRF_TEMP_T_CRIT : Int) < hot then 1 else 0)

/-! ### RTC, calendar and Ledger (15) -/

/-- The RTC: a tick adds 2^17 to the count, none or twice that where the trim falls; a pending APPLY or ALIGN replaces it; SNAP, the reads'
latch, the trim's window, the alarm and the oscillator's failure (R328–R334). -/
def Obligations.RtcKeepsTime : Prop :=
  ∀ (s : State) (owner v : Nat) (w : Word), s.inRun 0 = true → s.heard owner = true →
    let r := s.rtc
    let plain (t : State) : Prop := t.mem = s.mem ∧ t.time.kyo = s.time.kyo
    let advanced := (r.count + s.tickAdvance) % 2 ^ 80
    let taken (v : Nat) (t : State) : Prop :=
      t.rtc.count = v % 2 ^ 80 ∧ t.rtc.apply = none ∧ t.rtc.align = false ∧ t.rtc.window = 0 ∧ t.rd F.RTC_STAT_SET = 1 ∧
      t.rd F.RTC_STAT_PENDING = 0 ∧ t.rd F.RTC_EVT_APPLIED = 1 ∧ t.ticks = s.ticks + 1 ∧ plain t
    (s.rd F.RTC_TRIM_N = 0 → s.tickAdvance = 2 ^ 17) ∧
    (r.apply = none → r.align = false → Completes .xtal32Tick s fun t =>
      t.rtc.count = advanced ∧ t.ticks = s.ticks + 1 ∧ RegsBut [Reg.BOOT_TRIAL_REM, Reg.SVC_STAT] s t ∧ plain t) ∧
    (r.apply = some v → r.align = false → Completes .rtcLoad s (taken v)) ∧
    (r.align = true → s.dtOk = true → Completes .rtcLoad s (taken (dtSec s.time.kyo.dt * 2 ^ 32 + (dtNs s.time.kyo.dt * 2 ^ 32 + 500000000) / 1000000000))) ∧
    (r.align = true → s.dtOk = false → Completes .rtcLoad s fun t =>
      t.rtc.count = advanced ∧ t.rtc.align = false ∧ t.rd F.RTC_EVT_ALIGN_FAIL = 1 ∧ t.rd F.RTC_STAT_PENDING = 0 ∧ plain t) ∧
    (let only (t : State) : Prop := t.rd F.RTC_STAT_PENDING = 1 ∧ RegsBut [Reg.RTC_STAT] s t ∧ plain t
     (Completes (.apply owner) s fun t => t.rtc = { r with apply := some s.staged, align := false } ∧ only t) ∧
     (Completes (.align owner) s fun t => t.rtc = { r with apply := none, align := true } ∧ only t)) ∧
    (Completes (.snap owner) s fun t =>
      t.rtc = { r with snap := true } ∧ t.rd F.RTC_STAT_SNAP_BUSY = 1 ∧ RegsBut [Reg.RTC_STAT] s t ∧ plain t) ∧
    (r.snap = true → Completes .rtcSnapLatch s fun t =>
      t.rtc = { r with snap := false } ∧ t.reg Reg.RTC_SNAP_SEC_LO = BitVec.ofNat 32 (rtcSec r.count) ∧
      t.reg Reg.RTC_SNAP_FRAC = BitVec.ofNat 32 (rtcFrac r.count) ∧ t.rd F.RTC_SNAP_DT_NS_DT_NS = dtNs s.dtNow ∧
      t.rd F.RTC_STAT_SNAP_BUSY = 0 ∧ t.rd F.RTC_EVT_SNAP_DONE = 1 ∧ plain t) ∧
    (Completes (.rtcRead owner) s fun t =>
      t.answer = ⟨owner, .ok, 0, BitVec.ofNat 32 (rtcSec r.count)⟩ ∧ t.rtc = { r with latch := put 0 r.latch owner r.count } ∧
      t.regs = s.regs ∧ plain t) ∧
    (Completes (.rtcTrimWrite owner w) s fun t =>
      t.rtc = { r with window := 0 } ∧ RegsBut [Reg.RTC_TRIM] s t ∧ plain t ∧
      t.rd F.RTC_TRIM_DIR = bits w F.RTC_TRIM_DIR.lo F.RTC_TRIM_DIR.w ∧ t.rd F.RTC_TRIM_N = bits w F.RTC_TRIM_N.lo F.RTC_TRIM_N.w ∧
      t.rd F.RTC_TRIM_W = if bits w F.RTC_TRIM_N.lo F.RTC_TRIM_N.w = 0 ∧ bits w F.RTC_TRIM_W.lo F.RTC_TRIM_W.w = 20 then 19
        else bits w F.RTC_TRIM_W.lo F.RTC_TRIM_W.w) ∧
    (s.on F.RTC_ALARM_HI_ARM = true → s.alarmAt ≤ rtcSec r.count → Completes .rtcAlarm s fun t =>
      t.rd F.RTC_ALARM_HI_ARM = 0 ∧ t.rd F.RTC_EVT_ALARM = 1 ∧ (r.alarmLate = true → t.rd F.RTC_EVT_ALARM_LATE = 1) ∧
      (s.on F.PWR_WAKE_CFG_RTC = true → t.rd F.PWR_WAKESTAT_CAUSE = 2) ∧
      (s.on F.PWR_WAKE_CFG_RTC = false → RegsBut [Reg.RTC_ALARM_HI, Reg.RTC_EVT] s t) ∧ plain t) ∧
    (s.on F.RTC_STAT_OSC_FAIL = false → Completes .oscFail s fun t =>
      t.rtc = { r with onLirc := true } ∧ t.rd F.RTC_STAT_OSC_FAIL = 1 ∧ t.rd F.RTC_STAT_SET = 0 ∧ t.rd F.RTC_EVT_OSC_FAIL = 1 ∧ plain t) ∧
    (s.on F.RTC_STAT_OSC_FAIL = true → Completes .oscRecover s fun t =>
      t.rtc = { r with onLirc := false } ∧ t.rd F.RTC_STAT_OSC_FAIL = 0 ∧ RegsBut [Reg.RTC_STAT] s t ∧ plain t)

/-- Conversions and the Ledger: a conversion takes its operands at its start and writes the Gregorian date and time, or the BCT, or the reason
of its refusal at its end; a write goes to the copy that is not active, with the next sequence number and a valid CRC; cores submit aging, leap and update
entries, a leap entry only in order (R335–R341). -/
def Obligations.CalendarAndLedger : Prop :=
  ∀ (s : State) (owner day sod b e : Nat) (dat : Int) (leap : Bool), s.inRun 0 = true → s.heard owner = true →
    let r := s.rtc
    let starts (c : Instr) (op bct : Nat) : Prop :=
      (s.on F.CAL_STATUS_BUSY = false → Completes c s fun t =>
        t.rd F.CAL_STATUS_BUSY = 1 ∧ RegsBut [Reg.CAL_STATUS] s t ∧ t.mem = s.mem ∧
        t.rtc = { r with calOp := op, calBct := bct, calDate := s.reg Reg.CAL_DATE, calTime := s.reg Reg.CAL_TIME, calLeaps := s.leapTable }) ∧
      (s.on F.CAL_STATUS_BUSY = true → Completes c s fun t => t.noAnswer = s.noAnswer)
    let operand := s.rd F.CAL_BCT_LO_BCT_LO + 2 ^ 32 * s.rd F.CAL_BCT_HI_BCT_HI
    let second := bits r.calTime 0 6
    let asked := utcToBct r.calLeaps (bits r.calDate 16 12) (bits r.calDate 8 4) (bits r.calDate 0 5)
      (bits r.calTime 16 5) (bits r.calTime 8 6) (bits r.calTime 0 6)
    let refused (t : State) : Prop := t.rd F.CAL_STATUS_BUSY = 0 ∧ t.rd F.CAL_STATUS_INVALID = 1 ∧
      t.rd F.CAL_STATUS_REASON = e % 2 ^ F.CAL_STATUS_REASON.w ∧ RegsBut [Reg.CAL_STATUS] s t ∧ t.noRegs = s.noRegs
    let copy := 1 - s.rd F.LEDGER_STAT_ACTIVE
    let seq := (s.rd F.LEDGER_SEQ_SEQ + 1) % 2 ^ 32
    let entry (code : Nat) (t : State) : Prop :=
      t.rd F.LEDGER_SUB_RES_RESULT = code ∧ RegsBut [Reg.LEDGER_STAT, Reg.LEDGER_SUB_RES] s t ∧ t.mem = s.mem
    let v := s.subValue
    let T := v % 2 ^ 48
    let last := (s.leapTable.getLast?).getD (0, 32)
    let inOrder : Prop := (s.leapTable = [] ∨ last.1 < T) ∧ (signed 8 (v / 2 ^ 48) - last.2 = 1 ∨ signed 8 (v / 2 ^ 48) - last.2 = -1)
    let dayOf (d : Nat) (t : State) : Prop := t.rd F.CAL_TIME_DOW = (d + 5) % 7 + 1 ∧ daysToYear (t.rd F.CAL_DATE_YEAR) + t.rd F.CAL_INFO_YDAY = d + 1
    let date (t : State) : Prop :=
      let y := t.rd F.CAL_DATE_YEAR
      let m := t.rd F.CAL_DATE_MONTH
      let d := t.rd F.CAL_DATE_DAY
      2000 ≤ y ∧ y ≤ 2399 ∧ 1 ≤ m ∧ m ≤ 12 ∧ 1 ≤ d ∧ d ≤ monthDays y m ∧ daysToYear y + daysToMonth y m + d = day + 1
    starts (.bctToUtc owner) 1 operand ∧ starts (.utcToBct owner) 2 operand ∧ starts (.rtcToUtc owner) 3 (rtcSec r.count) ∧
    (s.on F.CAL_STATUS_BUSY = true → r.calOp ≠ 2 →
      (bctToUtc r.calLeaps r.calBct = .error e → Completes .calConversionDone s refused) ∧
      (bctToUtc r.calLeaps r.calBct = .ok (day, sod, dat, leap) → Completes .calConversionDone s fun t =>
        t.rd F.CAL_STATUS_BUSY = 0 ∧ t.rd F.CAL_STATUS_DONE = 1 ∧ date t ∧ dayOf day t ∧
        (if leap then sod = 86400 ∧ r.calBct + 1 ∈ r.calLeaps.map (·.1) ∧
            (t.rd F.CAL_TIME_HOUR, t.rd F.CAL_TIME_MIN, t.rd F.CAL_TIME_SEC) = (23, 59, 60)
          else (day * 86400 + sod : Int) = r.calBct - dat ∧
            t.rd F.CAL_TIME_HOUR * 3600 + t.rd F.CAL_TIME_MIN * 60 + t.rd F.CAL_TIME_SEC = sod ∧ t.rd F.CAL_TIME_MIN < 60 ∧ t.rd F.CAL_TIME_SEC < 60) ∧
        dat = datAt r.calLeaps r.calBct ∧ t.rd F.CAL_INFO_DAT = unsigned 8 dat ∧ t.rd F.CAL_INFO_LEAP = (if leap then 1 else 0) ∧
        RegsBut [Reg.CAL_STATUS, Reg.CAL_DATE, Reg.CAL_TIME, Reg.CAL_INFO] s t ∧ t.noRegs = s.noRegs)) ∧
    (s.on F.CAL_STATUS_BUSY = true → r.calOp = 2 →
      (asked = .error e → Completes .calConversionDone s refused) ∧
      (asked = .ok (day, b, dat) → Completes .calConversionDone s fun t =>
        t.rd F.CAL_BCT_LO_BCT_LO = b % 2 ^ 32 ∧ t.rd F.CAL_BCT_HI_BCT_HI = b / 2 ^ 32 % 2 ^ 16 ∧ t.rd F.CAL_STATUS_DONE = 1 ∧
        day + 1 = daysToYear (bits r.calDate 16 12) + daysToMonth (bits r.calDate 16 12) (bits r.calDate 8 4) + bits r.calDate 0 5 ∧
        t.rd F.CAL_TIME_DOW = (day + 5) % 7 + 1 ∧ t.rd F.CAL_INFO_DAT = unsigned 8 dat ∧
        (if second = 60 then b + 1 ∈ r.calLeaps.map (·.1)
          else b = ((day * 86400 + bits r.calTime 16 5 * 3600 + bits r.calTime 8 6 * 60 + second : Nat) + dat).toNat) ∧
        RegsBut [Reg.CAL_STATUS, Reg.CAL_BCT_LO, Reg.CAL_BCT_HI, Reg.CAL_TIME, Reg.CAL_INFO] s t ∧ t.noRegs = s.noRegs)) ∧
    ((∀ x ∈ s.ledger.work, x.1 < 0x10000) → (s.power.stopUpdate = true ∨ s.ledger.changed = true ∧ 600 ≤ s.ledger.since) →
      Completes .ledgerWrite s fun t =>
        t.rd F.LEDGER_STAT_ACTIVE = copy ∧ t.rd F.LEDGER_SEQ_SEQ = seq ∧ t.ledgerSeq copy = some seq ∧ t.ledger.since = 0 ∧
        t.power.stopUpdate = false ∧ BytesBut (ledgerBase copy) 0x10000 s t) ∧
    (isCore owner = true →
      (Completes (.ledgerSubAging owner) s fun t => entry 0 t ∧ t.ledgerGet (0x800 + 8 * (s.ledgerGet 0x180 4 % 4096)) 8 = v % 2 ^ 64 ∧
        t.ledgerGet 0x180 4 = (s.ledgerGet 0x180 4 % 4096 + 1) % 4096) ∧
      (Completes (.ledgerSubUpdate owner) s fun t => entry 0 t ∧ t.ledgerGet s.updateSlot 16 = v ∧
        t.updateSlot = 0x400 + (s.updateSlot - 0x400 + 16) % 1024) ∧
      (s.leapTable.length < 64 → inOrder → Completes (.ledgerSubLeap owner) s fun t => entry 0 t ∧
        t.ledgerGet (0x200 + 8 * s.leapTable.length) 8 = T + 2 ^ 48 * unsigned 8 (signed 8 (v / 2 ^ 48)) + 2 ^ 56) ∧
      (s.leapTable.length < 64 → ¬ inOrder → Completes (.ledgerSubLeap owner) s fun t => entry 1 t ∧ t.ledger = s.ledger) ∧
      (64 ≤ s.leapTable.length → Completes (.ledgerSubLeap owner) s fun t => entry 2 t ∧ t.ledger = s.ledger)) ∧
    (isCore owner = false → ∀ c ∈ [Instr.ledgerSubAging owner, .ledgerSubLeap owner, .ledgerSubUpdate owner],
      Completes c s fun t => t.answer.status = .tgtErr ∧ t.regs = s.regs ∧ t.ledger = s.ledger)

/-! ### Safety island, faults and crumbs (16) -/

/-- Safe state and the island: on request by key the outputs are cut and taken, an exit waits for its conditions, a fatal event keeps it;
heartbeats and self-tests move their sources, and a self-test ends when no test is to be rerun (R345, R346, R352, R353). -/
def Obligations.SafeStateHolds : Prop :=
  ∀ (s : State) (owner key n : Nat) (v : Word), s.inRun 2 = true → s.heard owner = true →
    let safe (cause : Nat) (t : State) : Prop :=
      t.rd F.OCQ_STAT_SAFE = 1 ∧ t.rd F.OCQ_STAT_CAUSE = cause ∧ t.mem = s.mem ∧
      (s.on F.OCQ_STAT_SAFE = false → t.rd F.OCQ_STAT_HOLD = 1 ∧
        t.rd F.OCQ_STAT_ENTRIES = Nat.min (2 ^ F.OCQ_STAT_ENTRIES.w - 1) (s.rd F.OCQ_STAT_ENTRIES + 1) ∧
        ∀ m < 4, (t.pulse m).active = false ∧ t.rd (F.TP_STAT_ACTIVE m) = 0 ∧ t.preempted (0x6000 + m) = true)
    let left (t : State) : Prop :=
      t.rd F.OCQ_STAT_SAFE = 0 ∧ t.rd F.OCQ_STAT_HOLD = 0 ∧ t.claims.preempted = [] ∧ t.mem = s.mem
    (safeReqOk owner key = true → s.on F.OCQ_STAT_SAFE = false → Completes (.safeEnter owner key) s (safe 0xFC)) ∧
    (safeReqOk owner key = true → s.on F.OCQ_STAT_SAFE = true → Completes (.safeEnter owner key) s fun t => t.noAnswer = s.noAnswer) ∧
    (safeReqOk owner key = false →
      (Completes (.safeEnter owner key) s fun t => t.answer.status = .tgtErr ∧ t.noAnswer = s.noAnswer) ∧
      (Completes (.safeExit owner key) s fun t => t.answer.status = .tgtErr ∧ t.noAnswer = s.noAnswer)) ∧
    (safeReqOk owner key = true → s.on F.OCQ_STAT_SAFE = true →
      (s.exitRes = 0 → Completes (.safeExit owner key) s left) ∧
      (s.exitRes ≠ 0 → Completes (.safeExit owner key) s fun t =>
        t.rd F.OCQ_STAT_EXIT_RES = s.exitRes ∧ t.answer.status = .ok ∧ RegsBut [Reg.OCQ_STAT] s t ∧
        t.rd F.OCQ_STAT_SAFE = 1 ∧ t.mem = s.mem)) ∧
    (s.on F.OCQ_STAT_SAFE = true → s.on F.OCQ_SAFE_CFG_AUTO_EXIT = true → s.exitRes = 0 → Completes .safeAutoExit s left) ∧
    (s.on F.OCQ_STAT_RUN = true →
      let fatal (cause : Nat) (t : State) : Prop :=
        safe cause t ∧ t.rd F.OCQ_STAT_FATAL = 1 ∧ t.rd F.OCQ_STAT_RUN = 0 ∧ t.safety.fatal = true ∧ t.safety.fatalCause = cause
      Completes .lockstepMismatch s (fatal 0xFE) ∧ Completes .islandWatchdog s (fatal 0xFD) ∧
      (s.ranMs .heartbeat s.heartbeatMs = true → Completes .heartbeatMiss s fun t => look 0 t.safety.level 67 = 1 ∧ t.mem = s.mem) ∧
      (let started (t : State) : Prop := t.rd F.OCQ_STEST_STAT_BUSY = 1 ∧ RegsBut [Reg.OCQ_STEST_STAT] s t ∧ t.mem = s.mem
       Completes (.stestStart owner) s started ∧ (s.ranMs .selfTest s.selfTestMs = true → Completes .stestPeriodic s started))) ∧
    (isCore owner = true → s.reg Reg.OCQ_HB ≠ v → Completes (.heartbeat owner v) s fun t =>
      t.reg Reg.OCQ_HB = v ∧ look 0 t.safety.level 67 = 0 ∧ t.mem = s.mem) ∧
    (isCore owner = false → Completes (.heartbeat owner v) s fun t => t.answer.status = .tgtErr ∧ t.noAnswer = s.noAnswer) ∧
    (s.on F.OCQ_STEST_STAT_BUSY = true → s.safety.retest = [] →
      (Completes (.stestComplete none) s fun t =>
        t.rd F.OCQ_STEST_STAT_BUSY = 0 ∧ t.rd F.OCQ_STEST_STAT_PASS = 1 ∧ t.rd F.OCQ_STEST_STAT_FAIL = 0 ∧ t.safety.selfTested = true ∧
        look 0 t.safety.level 69 = 0 ∧ t.mem = s.mem) ∧
      (Completes (.stestComplete (some n)) s fun t =>
        t.rd F.OCQ_STEST_STAT_PASS = 0 ∧ t.rd F.OCQ_STEST_STAT_FAIL = 1 ∧
        t.rd F.OCQ_STEST_STAT_FAIL_SRC = n % 2 ^ F.OCQ_STEST_STAT_FAIL_SRC.w ∧ look 0 t.safety.level 69 = 1 ∧ t.mem = s.mem))

/-- Sources and crumbs: a rise shows in FLT_STAT, stays in FLT_LATCH, is counted and, of class A, enters safe state; a fall clears
FLT_STAT alone; a source that the self-test tests does neither; an I/O bank has no fault before its supply is decided; the writer puts the oldest crumb into
both mirrors under the next SEQ, after the power-up scan; a power failure's crumb goes first, and the crumb whose write it abandons keeps its
SEQ; software adds its own (R346–R348, R350, R356–R358, R400). -/
def Obligations.FaultsAndCrumbs : Prop :=
  ∀ (s : State) (owner src k type q : Nat) (c : Crumb) (rest : List Crumb), s.inRun 0 = true → s.heard owner = true →
    let stat := bitFld (Reg.FLT_STAT 0) src
    let latch := bitFld (Reg.FLT_LATCH 0) src
    let rose (t : State) : Prop := t.rd latch = 1 ∧ t.mem = s.mem ∧
      look 0 t.safety.count src = Nat.min 0xFFFF (look 0 s.safety.count src + 1) ∧ (s.fltClass src = 0 → t.rd F.OCQ_STAT_SAFE = 1)
    let tested := decide (owner = 5 ∧ src ≤ 66) && s.on F.OCQ_STEST_STAT_BUSY
    let seq := s.rd F.CRUMB_SEQ_SEQ
    let power : Crumb := s.crumbNow 0x0E 0xFF 0
      [BitVec.ofNat 32 s.crumb.queue.length, BitVec.ofNat 32 s.supplyBits, BitVec.ofNat 32 (rtcFrac s.rtc.count)]
    let begun := (s.crumb.abandoned).getD seq
    let next := if s.crumb.abandoned.isSome then seq else (seq + 1) % 2 ^ 32
    let slots (q b : Nat) : Prop := (b < crumbAddr 0 q ∨ crumbAddr 0 q + 64 ≤ b) ∧ (b < crumbAddr 1 q ∨ crumbAddr 1 q + 64 ≤ b)
    let stored (bs : List Nat) (q : Nat) (t : State) : Prop :=
      t.ldBytes (crumbAddr 0 q) 64 = bs ∧ t.ldBytes (crumbAddr 1 q) 64 = bs
    let written (bs : List Nat) (t : State) : Prop :=
      stored bs seq t ∧ t.rd F.CRUMB_SEQ_SEQ = (seq + 1) % 2 ^ 32 ∧ ∀ b, slots seq b → t.byte b = s.byte b
    (s.inRun 2 = true → fltWriter owner = true →
      (128 ≤ src → src < 192 → look 0 s.safety.level src = 0 → Completes (.fltSwraise owner src true) s fun t =>
        rose t ∧ t.rd stat = 1 ∧ look 0 t.safety.level src = 1) ∧
      (128 ≤ src → src < 192 → look 0 s.safety.level src ≠ 0 → Completes (.fltSwraise owner src false) s fun t =>
        t.rd stat = 0 ∧ look 0 t.safety.level src = 0 ∧ t.rd latch = s.rd latch ∧ t.mem = s.mem) ∧
      (s.on F.FLT_CTRL_LOCK = false → src < 70 → look 0 s.safety.level src = 0 → tested = false → Completes (.fltInject owner src) s fun t =>
        rose t ∧ t.rd stat = 0 ∧ look 0 t.safety.level src = 0) ∧
      (tested = true → Completes (.fltInject owner src) s fun t =>
        t.safety.testing = some src ∧ t.safety.level = s.safety.level ∧ t.safety.count = s.safety.count ∧ t.regs = s.regs ∧ t.mem = s.mem) ∧
      (s.on F.FLT_CTRL_LOCK = true → owner ≠ 5 → Completes (.fltInject owner src) s fun t =>
        t.answer.status = .tgtErr ∧ t.noAnswer = s.noAnswer)) ∧
    (s.inRun 2 = true → fltWriter owner = false →
      Completes (.fltSwraise owner src true) s (fun t => t.answer.status = .tgtErr ∧ t.noAnswer = s.noAnswer)) ∧
    (s.inRun 2 = true → src = 66 → s.inRun 15 = true → s.on F.OCQ_STAT_RUN = true → look 0 s.safety.level 66 = 0 → Completes .kyoShadowMismatch s fun t =>
      rose t ∧ t.rd stat = 0 ∧ look 0 t.safety.level 66 = 0) ∧
    (s.inRun 2 = true → src = 68 → look 0 s.safety.level 68 = 0 → Completes (.interconnectTimeout owner) s fun t =>
      rose t ∧ t.answer.status = .tgtErr ∧ look 0 t.safety.level 68 = 0) ∧
    (k < 13 → bankOf k = none → Completes (.supplyFault k) s fun t => look 0 t.safety.level (52 + k) = 1 ∧
      (k ≠ 2 → t.mem = s.mem) ∧ (k = 2 → s.on F.CRUMB_STAT_SCAN = false → s.crumb.powerLoss = none → t.rd F.CRUMB_STAT_PF = 1)) ∧
    (k < 13 → bankOf k = none → Completes (.supplyRecover k) s fun t => look 0 t.safety.level (52 + k) = 0 ∧ t.mem = s.mem) ∧
    (k < 13 → bankOf k = some q →
      ((s.safety.banks[q]?).getD 0 = 0 → Completes (.supplyFault k) s (· = s)) ∧
      ((s.safety.banks[q]?).getD 0 ≠ 0 → Completes (.supplyFault k) s fun t =>
        look 0 t.safety.level 61 = 1 ∧ q ∈ t.safety.banksOut ∧ t.mem = s.mem) ∧
      (Completes (.supplyRecover k) s fun t => q ∉ t.safety.banksOut ∧ t.mem = s.mem ∧
        look 0 t.safety.level 61 = if s.safety.banksOut.all (· == q) then 0 else look 0 s.safety.level 61)) ∧
    (s.on F.CRUMB_STAT_SCAN = false → s.crumb.powerLoss = none →
      (s.crumb.queue = c :: rest → s.crumb.lostSince = 0 → Completes .crumbWrite s fun t =>
        (if s.crumb.abandoned = none then written (c.bytes seq) t
          else stored (c.bytes begun) begun t ∧ t.rd F.CRUMB_SEQ_SEQ = seq ∧ ∀ b, slots begun b → t.byte b = s.byte b) ∧
        t.crumb.queue = rest ∧ t.crumb.abandoned = none ∧ RegsBut [Reg.CRUMB_SEQ] s t) ∧
      (Completes .pwrFail s fun t =>
        t.rd F.CRUMB_STAT_PF = 1 ∧ t.crumb.queue = s.crumb.queue ∧ RegsBut [Reg.CRUMB_SEQ, Reg.CRUMB_STAT] s t ∧
        if s.crumb.queue = [] then written (power.bytes seq) t
        else stored (power.bytes next) next t ∧ t.rd F.CRUMB_SEQ_SEQ = (next + 1) % 2 ^ 32 ∧ t.crumb.abandoned = some begun ∧
          ∀ b, slots begun b → slots next b → t.byte b = s.byte b)) ∧
    (s.on F.CRUMB_STAT_SCAN = true →
      (s.crumb.powerLoss = none → Completes .pwrFail s fun t =>
        t.mem = s.mem ∧ t.regs = s.regs ∧ t.crumb = { s.crumb with powerLoss := some power }) ∧
      (s.crumb.powerLoss = none → s.lastSeq = some q → Completes .crumbScanComplete s fun t =>
        t.rd F.CRUMB_SEQ_SEQ = (q + 1) % 2 ^ 32 ∧ t.rd F.CRUMB_STAT_SCAN = 0 ∧ t.noRegs = s.noRegs) ∧
      (s.crumb.powerLoss = none → s.lastSeq = none → Completes .crumbScanComplete s fun t =>
        t.rd F.CRUMB_SEQ_SEQ = 0 ∧ t.rd F.CRUMB_STAT_EMPTY = 1 ∧ t.rd F.CRUMB_STAT_SCAN = 0 ∧ t.noRegs = s.noRegs)) ∧
    (let result (t : State) : Nat := look 0 t.crumb.swRes owner
     (0x80 ≤ type → type < 0x100 → s.crumbRoom = true → Completes (.swCrumb owner type) s fun t =>
       result t = 0 ∧ t.regs = s.regs ∧ t.mem = s.mem ∧ 
         let x := (t.crumb.queue.getLast?).getD { type := 0 }
         t.crumb.queue = s.crumb.queue ++ [x] ∧ x.type = type ∧ x.owner = owner ∧
         x.payload = (List.range 8).map fun i => look 0 s.crumb.swData (owner * 16 + i)) ∧
     (0x80 ≤ type → type < 0x100 → s.crumbRoom = false → Completes (.swCrumb owner type) s fun t =>
       result t = 1 ∧ t.crumb.queue = s.crumb.queue ∧ t.mem = s.mem) ∧
     (type < 0x80 → Completes (.swCrumb owner type) s fun t =>
       result t = 2 ∧ t.crumb.queue = s.crumb.queue ∧ t.regs = s.regs ∧ t.mem = s.mem))

/-! ### DMA (17) -/

namespace Sys2Proof.Machine

/-- Every register of the DMA block but those listed reads as before, and so does every g register of every engine. -/
def DmaBut (l : List Nat) (s t : State) : Prop :=
  (∀ a, 0x40120000 ≤ a → a < 0x40121000 → a ∉ l → t.reg a = s.reg a) ∧ ∀ e r, t.g e r = s.g e r

/-- What the registers of channel `c` will describe once START has copied them. -/
def State.bchAsked (s : State) (c : Nat) : Xfer :=
  { s.bchXfer c with
    src := (s.reg (Reg.DMA_BCH_SRC_LO c)).toNat + 2 ^ 32 * (s.reg (Reg.DMA_BCH_SRC_HI c)).toNat
    dst := (s.reg (Reg.DMA_BCH_DST_LO c)).toNat + 2 ^ 32 * (s.reg (Reg.DMA_BCH_DST_HI c)).toNat
    count := s.rd (F.DMA_BCH_COUNT_COUNT c) }

/-- Where no domain leaves Run, the DMA block's registers but those listed and every g register are as before; memory is in any case. -/
def ChannelOnly (l : List Nat) (s t : State) : Prop := (NoneLeft s t → DmaBut l s t) ∧ t.mem = s.mem

/-- The CUR registers, CUR_COUNT and STAT of register channel `c`. -/
def bchRegs (c : Nat) : List Nat :=
  [Reg.DMA_BCH_STAT c, Reg.DMA_BCH_CUR_SRC_LO c, Reg.DMA_BCH_CUR_SRC_HI c, Reg.DMA_BCH_CUR_DST_LO c, Reg.DMA_BCH_CUR_DST_HI c,
    Reg.DMA_BCH_CUR_COUNT c]

end Sys2Proof.Machine

/-- Commands to channels by their owner: a register channel starts, pauses, goes on and stops, a program channel starts, pauses, goes on
and is reset; START of an active one is ignored, another owner is refused (R48, R360–R362, R369, R372–R374). -/
def Obligations.ChannelsObey : Prop :=
  ∀ (s : State) (owner c p addr mask : Nat), s.inRun 18 = true → s.heard owner = true → c < 16 → p < 8 → mask.testBit p = true →
    let st (t : State) : Nat := t.rd (F.DMA_BCH_STAT_STATE c)
    let pst (t : State) : Nat := t.rd (F.DMA_PCH_STAT_STATE p)
    let x := s.bchAsked c
    let halted := s.on F.DMA_STAT_HALT_BUSERR
    let goes (v : Nat) (t : State) : Prop := (NoneLeft s t → st t = v) ∧ ChannelOnly [Reg.DMA_BCH_STAT c] s t
    let pgoes (v : Nat) (t : State) : Prop := (NoneLeft s t → pst t = v) ∧ ChannelOnly [Reg.DMA_PCH_STAT p] s t
    let rung (t : State) : Prop :=
      ChannelOnly ((List.range 8).flatMap fun q => [Reg.DMA_PCH_STAT q, Reg.DMA_PCH_CUR_PC q]) s t
    let word := lyzDecode (40 + p) (s.ld32 (s.pcByte (40 + p)))
    (s.mayConfigure owner (0x3000 + c) = true →
      ((st s = 0 ∨ st s = 5) → halted = false → Completes (.bchStart owner c) s fun t =>
        ChannelOnly ([Reg.DMA_IRQ_ERR] ++ bchRegs c) s t ∧ t.rd (F.DMA_BCH_STAT_OWNER c) = owner % 64 ∧
        t.rd (F.DMA_BCH_CUR_COUNT_COUNT c) = x.count ∧ (t.bchXfer c).src = x.src ∧ (t.bchXfer c).dst = x.dst ∧
        (NoneLeft s t → st t = if s.xferErr x = 0 then 1 else 5) ∧ t.rd (F.DMA_BCH_STAT_ERR c) = s.xferErr x) ∧
      ((st s ≠ 0 ∧ st s ≠ 5 ∨ halted = true) → Completes (.bchStart owner c) s fun t =>
        t.rd (F.DMA_BCH_STAT_START_IGN c) = 1 ∧ goes (st s) t) ∧
      (Completes (.bchPause owner c) s (goes (if st s = 1 then 2 else st s))) ∧
      (Completes (.bchResume owner c) s (goes (if (st s = 3 ∨ st s = 4) ∧ halted = false then 1 else st s))) ∧
      (Completes (.bchStop owner c) s fun t =>
        goes (if st s = 1 ∨ st s = 2 then 2 else if st s = 3 ∨ st s = 4 then 0 else st s) t ∧
        (st s = 1 ∨ st s = 2 → (look {} t.dma.bch c).stopping = true))) ∧
    (s.mayConfigure owner (0x3000 + c) = false →
      ∀ i ∈ [Instr.bchStart owner c, .bchPause owner c, .bchResume owner c, .bchStop owner c],
        Completes i s fun t => t.answer = ⟨owner, .refused, 0x0C, 0⟩ ∧ t.noAnswer = s.noAnswer) ∧
    (s.mayConfigure owner (0x4000 + p) = true →
      (pst s ∈ [0, 3, 7, 8] → Completes (.pchStart owner p) s fun t =>
        (NoneLeft s t → pst t = 1) ∧ (t.eng (40 + p)).pc = s.rd (F.DMA_PCH_PC_PC p) ∧ (t.eng (40 + p)).loops = [] ∧
        (t.eng (40 + p)).calls = [] ∧ (t.eng (40 + p)).fl = 0 ∧
        t.rd (F.DMA_PCH_STAT_ERR p) = 0 ∧ t.rd (F.DMA_PCH_STAT_FAULT p) = 0 ∧
        ChannelOnly [Reg.DMA_PCH_STAT p, Reg.DMA_PCH_CUR_PC p] s t) ∧
      (pst s ∉ [0, 3, 7, 8] → Completes (.pchStart owner p) s fun t =>
        t.rd (F.DMA_PCH_STAT_START_IGN p) = 1 ∧ pgoes (pst s) t ∧ t.lyz = s.lyz) ∧
      (Completes (.pchPause owner p) s fun t =>
        pgoes (if pst s = 1 ∧ (s.eng (40 + p)).moved ≠ 0 then 4 else if pst s = 1 ∨ pst s = 2 then 5 else pst s) t ∧
        (t.eng (40 + p)).pc = (s.eng (40 + p)).pc) ∧
      (Completes (.pchResume owner p) s fun t =>
        pgoes (if (pst s = 5 ∨ pst s = 6) ∧ halted = false then 1 else pst s) t ∧ (t.eng (40 + p)).pc = (s.eng (40 + p)).pc) ∧
      (Completes (.pchReset owner p) s fun t => pgoes 0 t ∧ (t.eng (40 + p)).wait = .none ∧ (t.eng (40 + p)).moved = 0) ∧
      (pst s ≠ 3 ∨ halted = true → Completes (.dmaDoorbell owner mask) s fun t =>
        t.rd (F.DMA_PCH_STAT_DB_PEND p) = 1 ∧ (NoneLeft s t → pst t = pst s) ∧ rung t) ∧
      (pst s = 3 → halted = false → word = some (.link (40 + p) addr) → Completes (.dmaDoorbell owner mask) s fun t =>
        t.rd (F.DMA_PCH_STAT_DB_PEND p) = 0 ∧ (NoneLeft s t → pst t = 1) ∧ (t.eng (40 + p)).pc = addr / 4 ∧ rung t) ∧
      (pst s = 3 → halted = false → word = some (.end_ (40 + p)) → Completes (.dmaDoorbell owner mask) s fun t =>
        t.rd (F.DMA_PCH_STAT_DB_PEND p) = 0 ∧ (NoneLeft s t → pst t = 3) ∧ (t.eng (40 + p)).pc = (s.eng (40 + p)).pc ∧ rung t)) ∧
    (s.mayConfigure owner (0x4000 + p) = false →
      (∀ i ∈ [Instr.pchStart owner p, .pchPause owner p, .pchResume owner p, .pchReset owner p],
        Completes i s fun t => t.answer = ⟨owner, .refused, 0x0C, 0⟩ ∧ t.noAnswer = s.noAnswer) ∧
      Completes (.dmaDoorbell owner mask) s fun t =>
        (NoneLeft s t → pst t = pst s) ∧ t.rd (F.DMA_PCH_STAT_DB_PEND p) = s.rd (F.DMA_PCH_STAT_DB_PEND p) ∧ rung t)

/-- Bursts, pacing and bus errors: a channel bursts in its turn, PRIO 1 before PRIO 0 and round-robin within each; a burst carries the bytes up to the next 256-byte boundary, swapped, and ends the transfer with its
interrupt when none are left, whether a register channel or a program's `move` makes it; one whose region is gone is an error; a pacing
counter moves within its range; a bus error halts every active channel, and faults the one whose fetch it was (R364–R366, R369, R371, R374). That a `move` carries
one burst each time its command is given, and where the round-robin begins, are the model's choice (logs 63, 189). -/
def Obligations.BurstsCarry : Prop :=
  ∀ (s : State) (owner c p d a b size swap v addr : Nat) (write pcie srcFix dstFix : Bool), s.inRun 18 = true → s.heard owner = true →
    c < 16 → p < 8 →
    let st (t : State) (c : Nat) : Nat := t.rd (F.DMA_BCH_STAT_STATE c)
    let pst (t : State) (p : Nat) : Nat := t.rd (F.DMA_PCH_STAT_STATE p)
    let x := s.bchXfer c
    let n := Nat.min (Nat.min (256 - x.src % 256) (256 - x.dst % 256)) (x.count * x.elem)
    let y := s.moveXfer (40 + p) d a b size swap false false 0
    let m := Nat.min (Nat.min (256 - y.src % 256) (256 - y.dst % 256)) (y.count * y.elem)
    let z := s.moveXfer (40 + p) d a b size swap srcFix dstFix (s.eng (40 + p)).moved
    let sram (x : Xfer) (n : Nat) : Prop := 
      s.inRun 0 = true ∧ s.inRun 1 = true ∧ InSram x.src n ∧ InSram x.dst n ∧ s.badIn x.src n = false ∧ s.badIn x.dst n = false
    let carried (x : Xfer) (n : Nat) (t : State) : Prop :=
      t.ldBytes x.dst n = swapBytes x.swap (s.ldBytes x.src n) ∧ BytesBut x.dst n s t
    (st s c = 1 → s.on F.DMA_STAT_HALT_BUSERR = false → s.on (F.DMA_BCH_CFG_PACE_EN c) = false → x.alignErr = false → x.srcFix = false →
      x.dstFix = false → s.inTurn c = true →
      (s.regionErr x = false → x.srcPcie = false → x.dstPcie = false → sram x n → Completes (.dmaBurst c) s fun t =>
        carried x n t ∧ t.rd (F.DMA_BCH_CUR_COUNT_COUNT c) = x.count - n / x.elem ∧
        (NoneLeft s t → st t c = if x.count * x.elem = n then 0 else 1) ∧ (x.count * x.elem = n → t.rd ⟨Reg.DMA_IRQ, c, 1⟩ = 1) ∧
        (NoneLeft s t → DmaBut ([Reg.DMA_IRQ] ++ bchRegs c) s t ∧ look 0 t.dma.turn (s.prioCh c) = (c + 1) % 24)) ∧
      (s.regionErr x = true → Completes (.dmaBurst c) s fun t =>
        (NoneLeft s t → st t c = 5) ∧ t.rd (F.DMA_BCH_STAT_ERR c) = 2 ∧ t.rd ⟨Reg.DMA_IRQ_ERR, c, 1⟩ = 1 ∧ t.mem = s.mem)) ∧
    (st s c = 1 → v < 24 → s.wantsRead v = true → s.prioCh c < s.prioCh v → Completes (.dmaBurst c) s fun t => t = s) ∧
    (st s c = 1 → v < 24 → v ≠ c → s.wantsRead v = true → s.prioCh c = s.prioCh v →
      (v + 24 - look 0 s.dma.turn (s.prioCh c)) % 24 < (c + 24 - look 0 s.dma.turn (s.prioCh c)) % 24 → Completes (.dmaBurst c) s fun t => t = s) ∧
    (st s c = 1 → s.bchPace c = some v → s.paceReady v = false → Completes (.dmaBurst c) s fun t => t = s) ∧
    (st s c = 2 → Completes (.dmaBurst c) s fun t =>
      (NoneLeft s t → st t c = if (look {} s.dma.bch c).stopping then 0 else 3) ∧
      ChannelOnly [Reg.DMA_BCH_STAT c, Reg.DMA_BCH_CUR_DST_LO c, Reg.DMA_BCH_CUR_DST_HI c] s t) ∧
    (s.Ready (40 + p) notTrack → 16777215 < z.count ∨ s.xferErr z ≠ 0 → Completes (.move (40 + p) d a b size swap srcFix dstFix) s fun t =>
      (NoneLeft s t → pst t p = 7) ∧ t.rd (F.DMA_PCH_STAT_ERR p) = (if 16777215 < z.count then 1 else s.xferErr z) ∧
      t.rd ⟨Reg.DMA_IRQ_ERR, 16 + p, 1⟩ = 1 ∧ (∀ r, t.g (40 + p) r = s.g (40 + p) r) ∧ t.mem = s.mem) ∧
    (s.Ready (40 + p) notTrack → s.on (F.DMA_PCH_CFG_PACE_EN p) = false → (s.eng (40 + p)).moved = 0 → y.count ≤ 16777215 →
      s.xferErr y = 0 → sram y m → s.inTurn (16 + p) = true → a ≠ 0 → b ≠ 0 → a ≠ b → Completes (.move (40 + p) d a b size swap false false) s fun t =>
        carried y m t ∧
        (if y.count * y.elem = m then
          (∀ r, t.g (40 + p) r = if r = a ∨ r = b then s.g (40 + p) r + BitVec.ofNat 32 m else s.g (40 + p) r) ∧
          (t.eng (40 + p)).pc = (nextPc (s.eng (40 + p)).calls.length (s.eng (40 + p)).pc (s.eng (40 + p)).loops).1
        else (t.eng (40 + p)).moved = m ∧ (t.eng (40 + p)).pc = (s.eng (40 + p)).pc ∧ ∀ r, t.g (40 + p) r = s.g (40 + p) r)) ∧
    (v < 2 ^ 24 → Completes (.paceAdd owner c v) s fun t =>
      look 0 t.dma.level c = (held 0 16777215 (((look 0 s.dma.level c : Nat) : Int) + signed 24 v)).toNat ∧
      (∀ q, q ≠ c → look 0 t.dma.level q = look 0 s.dma.level q) ∧ t.regs = s.regs ∧ t.mem = s.mem) ∧
    (let shown (chan : Option Nat) (write fetch : Bool) (t : State) : Prop :=
      t.rd F.DMA_STAT_HALT_BUSERR = 1 ∧ t.reg Reg.DMA_ERR_ADDR_LO = BitVec.ofNat 32 addr ∧
      t.rd F.DMA_ERR_INFO_WRITE = (if write then 1 else 0) ∧ t.rd F.DMA_ERR_INFO_PCIE = (if pcie then 1 else 0) ∧
      t.rd F.DMA_ERR_INFO_FETCH = (if fetch then 1 else 0) ∧ t.rd F.DMA_ERR_INFO_CHAN_VALID = (if chan.isSome then 1 else 0) ∧
      (∀ ch ∈ chan, t.rd F.DMA_ERR_INFO_CHAN = ch) ∧ t.mem = s.mem ∧
      (NoneLeft s t → (∀ q < 16, st t q = if st s q = 1 ∨ st s q = 2 then 4 else st s q) ∧
        ∀ q < 8, q ≠ p ∨ fetch = false → pst t q = if pst s q = 1 ∨ pst s q = 2 ∨ pst s q = 4 then 6 else pst s q)
     Completes (.dmaBusError addr c write pcie false) s (shown (if write then some c else none) write false) ∧
     (s.issues (40 + p) = true → Completes (.dmaBusError addr (16 + p) write pcie true) s fun t =>
       shown (some (16 + p)) false true t ∧ Faulted (40 + p) 9 s t))

/-! ### Resets, boot and service (18, 02, 15) -/

/-- Resets and VDD_AON: a device reset records its cause, leaves the RTC, MRAM and Ocquel's SRAM, puts every register outside LEAVEN at
its reset value, samples the straps, drops transactions, claims and engines, and wakes CORE unless a Stop entry's Ledger write is still
due; without VDD_AON only the RTC's count and MRAM live on; a wrong software reset is ignored (R23, R327, R383, R430, R431). What lost
memory reads is open: a free value of this loss (log 3). -/
def Obligations.ResetsKeepWhatTheyMust : Prop :=
  ∀ (s : State) (owner key : Nat) (vbat : Bool), s.heard owner = true →
    let keeps (kept : List (Option Pool)) (t : State) : Prop := ∀ a, poolOf a ≠ none →
      if poolOf a ∈ kept then t.byte a = s.byte a
      else if poolOf a = some .context then s.lostOk = true → t.byte a = 0
      else look 0 t.lost (a / 2 ^ 18) ≠ 0 ∧ t.byte a = Config.freeByte (look 0 t.lost (a / 2 ^ 18)) a
    let reset (cause : Nat) (t : State) : Prop :=
      t.rd F.SYS_RSTCAUSE_CAUSE = cause ∧ t.rtc = s.rtc ∧ t.hostMem = s.hostMem ∧ (∀ a, domainOf a ≠ some 0 → t.reg a = resetOf a) ∧
      keeps [some .mram, some .bootRom, some .island] t ∧ t.host.sel = s.straps.hostif ∧ t.boot.bootSel = s.straps.boot ∧ t.boot.refSel = s.straps.ref ∧
      t.txns = [] ∧ t.claims = {} ∧ t.lyz = {} ∧ t.dma = {} ∧ t.mill = {} ∧ t.sample = {} ∧ t.net = {} ∧ t.time = { record := s.time.record } ∧
      t.dom 1 = (if s.power.stopUpdate then 0 else 1) ∧ t.boot.holder = 0
    (s.inRun 0 = true → Completes .resetN s (reset 1)) ∧
    (s.inRun 0 = true → s.inRun 2 = true → s.on F.OCQ_STAT_RUN = true → Completes .ocquelReset s (reset 3)) ∧
    (s.inRun 0 = true → (isCore owner = true ∨ isHost owner = true) → Completes (.softwareReset owner 0x5E7A) s (reset 4)) ∧
    (s.inRun 0 = true → (key ≠ 0x5E7A ∨ isCore owner = false ∧ isHost owner = false) → Completes (.softwareReset owner key) s fun t =>
      t.noAnswer = s.noAnswer) ∧
    (s.inRun 0 = true → s.boot.window = true → s.rd F.BOOT_TRIAL_REM_SEC = 0 → Completes .trialExpiry s (reset 6)) ∧
    (Completes (.vddAonPowerDown vbat) s fun t =>
      t.inRun 0 = false ∧ t.rtc.count = s.rtc.count ∧ t.rtc.lost = (s.rtc.lost || !vbat) ∧
      (∀ a, keptOnVbat a = false → a ≠ Reg.PWR_DOM_STAT 0 → t.reg a = resetOf a) ∧
      keeps [some .mram, some .bootRom] t ∧
      t.txns = [] ∧ t.claims = {} ∧ t.crumb = {} ∧ t.ledger = {} ∧ t.safety = {}) ∧
    (s.inRun 0 = false → Completes .vddAonPowerUp s fun t =>
      t.rd F.SYS_RSTCAUSE_CAUSE = 0 ∧ t.inRun 0 = true ∧ t.host.sel = s.straps.hostif ∧ t.mem = s.mem ∧ t.rtc.count = (if s.rtc.lost then 0 else s.rtc.count) ∧
      (s.rtc.lost = true → t.rd F.RTC_STAT_SET = 0))

/-- The boot: bank 0's record resumes; without one the ACTIVE image that passes its checks is copied and runs, Starter in its turn, and
with none, or by strap, core 0 stays in service hold; a trial is confirmed once by a core, with its key, while its window runs (R317,
R378, R381–R384). The boot configuration and the key store are kept as structure, the model's choice (log 44), and that bank 0 holds a
resume record, whether a token's signature is good and what the Boot ROM knows of the ADPLLs are operands (log 46). -/
def Obligations.BootRunsAnImage : Prop :=
  ∀ (s : State) (owner key k : Nat) (record : Bool) (revoke : Option Nat) (unlock : Option UnlockToken) (bands : List BandFill) (filters : List Word),
    s.inRun 1 = true → s.heard owner = true →
    let at_ := s.header k 0x14
    let runs (source : Nat) (t : State) : Prop :=
      t.boot.due = false ∧ t.rd F.BOOT_STAT_SOURCE = source ∧ t.reg Reg.BOOT_VERSION = BitVec.ofNat 32 (s.header k 8) ∧
      t.rd F.PWR_WAKESTAT_RESUMED = 0 ∧ ∀ i < s.header k 0x10, t.byte (at_ + i) = s.byte (slotBase k + 0x100 + i)
    let again := record && s.power.bank0Kept
    (s.boot.due = true → again = true → Completes (.boot record revoke unlock bands filters) s fun t =>
      t.boot.due = false ∧ t.rd F.PWR_WAKESTAT_RESUMED = 1 ∧ t.rd F.BOOT_STAT_SOURCE = 3 ∧ t.mem = s.mem) ∧
    (s.boot.due = true → again = false → s.boot.bootSel.testBit 1 = true → Completes (.boot record revoke unlock bands filters) s fun t =>
      t.boot.due = false ∧ t.boot.pendingRevoke = [] ∧ t.boot.pendingUnlock = [] ∧ t.rd F.BOOT_STAT_SOURCE = 2 ∧ t.rd F.PWR_WAKESTAT_RESUMED = 0 ∧ t.mem = s.mem) ∧
    (s.boot.due = true → again = false → s.boot.bootSel.testBit 1 = false → s.boot.staging = none → s.boot.trial = false →
      s.boot.active = k → k ≤ 2 →
      (s.canon = true → s.refusal k = 0 → Completes (.boot record none unlock bands filters) s (runs (if k = 2 then 1 else 0))) ∧
      (k = 2 → s.refusal 2 ≠ 0 → Completes (.boot record none unlock bands filters) s fun t =>
        t.boot.due = false ∧ t.rd F.BOOT_STAT_SOURCE = 2 ∧ t.rd F.BOOT_STAT_REASON = s.refusal 2)) ∧
    (s.inRun 0 = true →
      (isCore owner = true → key = 0xC0F1 → s.boot.trial = true → s.rd F.BOOT_TRIAL_REM_SEC ≠ 0 → Completes (.healthConfirm owner key) s fun t =>
        t.rd F.BOOT_HEALTH_CONFIRM_RESULT = 0 ∧ t.boot.trial = false ∧ t.boot.active = s.boot.active ∧ t.rd F.BOOT_TRIAL_REM_SEC = 0 ∧
        t.boot.minSecVer = Nat.max s.boot.minSecVer (s.header s.boot.active 0x0C) ∧ t.mem = s.mem) ∧
      (let refused (r : Nat) (t : State) : Prop :=
        t.rd F.BOOT_HEALTH_CONFIRM_RESULT = r ∧ t.boot = s.boot ∧ RegsBut [Reg.BOOT_HEALTH_CONFIRM] s t ∧ t.mem = s.mem
       ((isCore owner = false ∨ key ≠ 0xC0F1) → Completes (.healthConfirm owner key) s (refused 3)) ∧
       (isCore owner = true → key = 0xC0F1 → s.boot.trial = false → Completes (.healthConfirm owner key) s (refused 1)) ∧
       (isCore owner = true → key = 0xC0F1 → s.boot.trial = true → s.rd F.BOOT_TRIAL_REM_SEC = 0 →
         Completes (.healthConfirm owner key) s (refused 2))))

/-- The service protocol: each frame is answered, over the transport that it came by, with its tag, what needs the staging lock is refused
without it, and a malformed frame, or one at a rate measured wrong, is dropped and counted; the lock's life; staging, commit, reads, votes,
tokens and reset (R386–R392, R428). The layout of STATUS and INFO, that RESET acts at once, NP3's MAC and the status that answers an unknown
CMD are the model's choice (logs 65, 66, 188). -/
def Obligations.GheandServes : Prop :=
  ∀ (s : State) (port tag id count index trialS addr len mask d rate first i cmd : Nat) (src : SvcFrom) (x : BadFrame) (data token : List Nat) (r : Staging) (up : Bool),
    s.inRun 0 = true →
    let b := s.boot
    let mine := s.holds port src.mac
    let reply (cmd status : Nat) (data : List Nat) (t : State) : Prop :=
      t.frames = s.frames ++ [let bs := gheandBytes (cmd + 0x80) tag (status :: data)
        if port = 2 then ⟨0x103, beBytes 6 src.mac ++ beBytes 6 Config.np3Mac ++ [0x88, 0xB5] ++ bs⟩ else ⟨cmd + 0x80, bs⟩]
    let dropped (t : State) : Prop := t.rd F.SVC_CNT_DROPPED = Nat.min 65535 (s.rd F.SVC_CNT_DROPPED + 1) ∧ RegsBut [Reg.SVC_CNT] s t ∧ t.noRegs = s.noRegs
    let quiet (t : State) : Prop := t.mem = s.mem ∧ t.boot = b ∧ RegsBut [Reg.SVC_CNT, Reg.SVC_STAT] s t
    (s.svcTakes port src = true → s.svcHears port src = false → Completes (.gheandInfo port src tag) s dropped) ∧
    (s.svcTakes port src = true → 1040 < token.length →
      Completes (.gheandRevoke port src tag token) s dropped ∧ Completes (.gheandUnlock port src tag token) s dropped) ∧
    (s.svcTakes port src = true → 1038 < data.length → Completes (.gheandStage port src tag index data) s dropped) ∧
    (s.svcHears port src = true →
    (Completes (.gheandInfo port src tag) s fun t =>
      reply 1 0 (bytesOfWords ([Reg.SYS_CHIPID, Reg.SYS_REV, Reg.BOOT_UID_LO, Reg.BOOT_UID_HI, Reg.BOOT_STAT, Reg.BOOT_SLOTS,
        Reg.BOOT_VERSION].map s.reg)) t ∧ quiet t) ∧
    (b.holder = 0 → Completes (.gheandOpen port src tag) s fun t =>
      reply 2 0 [] t ∧ t.boot = { b with holder := port, session := if port = 2 then src.mac else 0 } ∧ t.mem = s.mem) ∧
    (b.holder ≠ 0 → Completes (.gheandOpen port src tag) s fun t => reply 2 (if mine then 0 else 1) [] t ∧ quiet t) ∧
    (mine = false → data.length ≤ 1038 → token.length ≤ 1040 → ∀ c ∈ [(3, Instr.gheandClose port src tag), (0x10, .gheandBegin port src tag id count), (0x11, .gheandStage port src tag index data),
      (0x13, .gheandCommit port src tag trialS), (0x21, .gheandVote port src tag mask up), (0x30, .gheandRevoke port src tag token),
      (0x31, .gheandUnlock port src tag token), (0x3F, .gheandReset port src tag)],
      Completes c.2 s fun t => reply c.1 (if b.holder = 0 then 2 else 1) [] t ∧ quiet t) ∧
    (Completes (.gheandStatus port src tag) s fun t =>
      reply 0x12 0 ((match b.record with
        | none => [0, 0, 0]
        | some r => [r.state, r.missing, r.got.length]).flatMap (leBytes 4)) t ∧ quiet t) ∧
    (addr % 4 = 0 → len % 4 = 0 → 4 ≤ len → len ≤ 1024 → 0x04010000 ≤ addr → addr + len ≤ 0x04710000 → s.badIn addr len = false →
      Completes (.gheandRead port src tag addr len) s fun t => reply 0x20 0 (s.ldBytes addr len) t ∧ quiet t) ∧
    (mine = true →
      (Completes (.gheandClose port src tag) s fun t => reply 3 0 [] t ∧ t.boot = { b with holder := 0, session := 0 } ∧ t.mem = s.mem) ∧
      (1 ≤ count → count ≤ 2560 → b.trial = false → (∀ q ∈ b.record, q.state ≠ 1 ∨ q.id ≠ id ∨ q.count ≠ count) → Completes (.gheandBegin port src tag id count) s fun t =>
        reply 0x10 0 [] t ∧ t.boot.staging = some { slot := b.target, state := 1, id, count } ∧ t.mem = s.mem) ∧
      (1 ≤ count → count ≤ 2560 → b.trial = false → b.record = some r → r.state = 1 → r.id = id → r.count = count →
        Completes (.gheandBegin port src tag id count) s fun t => reply 0x10 0 [] t ∧ quiet t) ∧
      (b.record = some r → r.state = 1 → index < r.count → 1 ≤ data.length → data.length ≤ 1024 →
        (index + 1 < r.count → data.length = 1024) → Completes (.gheandStage port src tag index data) s fun t =>
        reply 0x11 0 [] t ∧ t.boot.staging = some { r with got := put 0 r.got index 1 } ∧
        t.ldBytes (slotBase r.slot + 1024 * index) data.length = data.map (· % 256) ∧
        BytesBut (slotBase r.slot + 1024 * index) data.length s t) ∧
      (b.record = some r → r.count ≤ r.missing → trialS = 0 ∨ 10 ≤ trialS → trialS ≤ 65535 → Completes (.gheandCommit port src tag trialS) s fun t =>
        reply 0x13 0 [] t ∧ t.boot.staging = some { r with state := 2, trialS := if trialS = 0 then 300 else trialS } ∧ t.mem = s.mem) ∧
      (1 ≤ d → d ≤ 18 → Completes (.gheandVote port src tag mask up) s fun t =>
        reply 0x21 0 [] t ∧ t.mem = s.mem ∧ t.rd ⟨Reg.PWR_DOM_VOTE d, 19, 1⟩ =
          (if mask.testBit d then (if up then 1 else 0) else s.rd ⟨Reg.PWR_DOM_VOTE d, 19, 1⟩)) ∧
      (token ≠ [] → token.length ≤ 1040 →
        (Completes (.gheandRevoke port src tag token) s fun t => reply 0x30 0 [] t ∧ t.boot = { b with pendingRevoke := token } ∧ t.mem = s.mem) ∧
        (Completes (.gheandUnlock port src tag token) s fun t =>
          reply 0x31 0 [] t ∧ t.boot = { b with pendingUnlock := token, unlockNonce := s.reg Reg.BOOT_NONCE } ∧ t.mem = s.mem)) ∧
      (Completes (.gheandReset port src tag) s fun t => reply 0x3F 0 [] t ∧ t.rd F.SYS_RSTCAUSE_CAUSE = 4 ∧ t.rtc = s.rtc ∧ t.txns = []))) ∧
    (let freed (t : State) : Prop := t.boot = { b with holder := 0, session := 0 } ∧ t.rd F.SVC_STAT_IDLE_S = 0 ∧ t.mem = s.mem
     (b.holder ≠ 0 → 60 ≤ s.rd F.SVC_STAT_IDLE_S → Completes .gheandLockTimeout s freed) ∧
     (b.holder ≠ 0 → isCore id = true → Completes (.svcRelease id) s freed)) ∧
    (x.unknown = none → s.svcTakes x.port x.src = true → Completes (.gheandBadFrame x) s dropped) ∧
    (x.unknown = some (cmd, tag) → x.port = port → x.src = src → s.svcHears port src = true → cmd < 0x80 → Completes (.gheandBadFrame x) s fun t =>
      (∃ code < 6, code ≠ 0 ∧ reply cmd code [] t) ∧ quiet t) ∧
    (b.bootSel.testBit 0 = false → i < 8 → rate = baudRates.getD i 0 → Completes (.autoBaud rate first) s fun t =>
      t.rd F.SVC_STAT_BAUD = (if i = 7 ∧ first = 0 then 5 else i) ∧ RegsBut [Reg.SVC_STAT] s t ∧
      { t.noRegs with boot := b } = s.noRegs ∧ t.boot = { b with deaf := decide (i = 7 ∧ first = 0) })
end

