-- ==== Sys2Proof/Laws/Bits.lean ====
section
/-! SUPPORT. Laws of bit fields: what a field reads after a write of itself and of another (R6). -/

namespace Sys2Proof.Machine

theorem bits_lt (v : Word) (lo w : Nat) : bits v lo w < 2 ^ w := Nat.mod_lt _ (Nat.two_pow_pos w)

theorem testBit_bits (v : Word) (lo w i : Nat) : (bits v lo w).testBit i = (decide (i < w) && v.toNat.testBit (lo + i)) := by
  unfold bits
  rw [Nat.testBit_mod_two_pow, Nat.testBit_div_two_pow, Nat.add_comm]

theorem testBit_atBits (lo w x i : Nat) :
    (atBits lo w x).toNat.testBit i = (decide (i < 32) && decide (lo ≤ i) && decide (i < lo + w) && x.testBit (i - lo)) := by
  unfold atBits
  rw [BitVec.toNat_ofNat, Nat.testBit_mod_two_pow, Nat.testBit_shiftLeft, Nat.testBit_mod_two_pow]
  by_cases h1 : i < 32 <;> by_cases h2 : lo ≤ i <;> by_cases h3 : i < lo + w <;> simp [h1, h2, h3] <;> omega

theorem testBit_withBits (v : Word) (lo w x i : Nat) :
    (withBits v lo w x).toNat.testBit i =
      (decide (i < 32) && if lo ≤ i ∧ i < lo + w then x.testBit (i - lo) else v.toNat.testBit i) := by
  unfold withBits
  by_cases h : i < 32
  · rw [BitVec.toNat_or, BitVec.toNat_and, Nat.testBit_or, Nat.testBit_and, testBit_atBits, BitVec.toNat_not,
      show ∀ y : Nat, 2 ^ 32 - 1 - y = 2 ^ 32 - (y + 1) by omega, Nat.testBit_two_pow_sub_succ (BitVec.isLt _), testBit_atBits,
      Nat.testBit_two_pow_sub_one]
    by_cases h2 : lo ≤ i <;> by_cases h3 : i < lo + w <;> simp [h, h2, h3] <;> omega
  · have : (v &&& ~~~atBits lo w (2 ^ w - 1) ||| atBits lo w x).toNat < 2 ^ i :=
      Nat.lt_of_lt_of_le (BitVec.isLt _) (Nat.pow_le_pow_right (by decide) (by omega))
    rw [Nat.testBit_lt_two_pow this]
    simp [h]

/-- A field reads what was written to it. -/
theorem bits_withBits_same (v : Word) {lo w : Nat} (x : Nat) (h : lo + w ≤ 32) : bits (withBits v lo w x) lo w = x % 2 ^ w := by
  apply Nat.eq_of_testBit_eq
  intro i
  rw [testBit_bits, testBit_withBits, Nat.testBit_mod_two_pow]
  by_cases hi : i < w
  · have h1 : lo + i < 32 := by omega
    simp [hi, h1]
  · simp [hi]

/-- A field that shares no bit with the one written reads as before. -/
theorem bits_withBits_other (v : Word) {lo w lo' w' : Nat} (x : Nat) (h : lo' + w' ≤ lo ∨ lo + w ≤ lo') :
    bits (withBits v lo w x) lo' w' = bits v lo' w' := by
  apply Nat.eq_of_testBit_eq
  intro i
  rw [testBit_bits, testBit_withBits, testBit_bits]
  by_cases hi : i < w'
  · have h1 : ¬ (lo ≤ lo' + i ∧ lo' + i < lo + w) := by omega
    by_cases h2 : lo' + i < 32
    · simp [hi, h1, h2]
    · have : v.toNat < 2 ^ (lo' + i) := Nat.lt_of_lt_of_le v.isLt (Nat.pow_le_pow_right (by decide) (by omega))
      simp [h1, h2, Nat.testBit_lt_two_pow this]
  · simp [hi]

end Sys2Proof.Machine
end

