-- ==== Sys2Proof/Laws/Map.lean ====
section
/-! SUPPORT. Laws of sparse data: what a read after a write gives, and that every operation keeps the canonical form. -/

namespace Sys2Proof.Machine

variable {α : Type}

theorem look_drop_same (d : α) (m : Sparse α) (k : Nat) : look d (drop k m) k = d := by
  induction m with
  | nil => rfl
  | cons e m ih =>
    obtain ⟨k', v⟩ := e
    by_cases h : k' = k <;> simp [drop, look, h, ih]

theorem look_drop_other (d : α) (m : Sparse α) {k j : Nat} (h : j ≠ k) : look d (drop k m) j = look d m j := by
  induction m with
  | nil => rfl
  | cons e m ih =>
    obtain ⟨k', v⟩ := e
    by_cases hk : k' = k
    · subst hk; simp [drop, look, ih, Ne.symm h]
    · simp only [drop, hk, if_false, look, ih]

theorem look_place_same (d v : α) (m : Sparse α) (k : Nat) (h : ∀ e ∈ m, e.1 ≠ k) : look d (place k v m) k = v := by
  induction m with
  | nil => simp [place, look]
  | cons e m ih =>
    obtain ⟨k', v'⟩ := e
    have hk : k' ≠ k := h (k', v') (by simp)
    have hm : ∀ e ∈ m, e.1 ≠ k := fun e he => h e (by simp [he])
    by_cases hlt : k < k' <;> simp [place, look, hlt, hk, ih hm]

theorem look_place_other (d v : α) (m : Sparse α) {k j : Nat} (h : j ≠ k) : look d (place k v m) j = look d m j := by
  induction m with
  | nil => simp [place, look, Ne.symm h]
  | cons e m ih =>
    obtain ⟨k', v'⟩ := e
    by_cases hlt : k < k'
    · simp [place, look, hlt, Ne.symm h]
    · simp only [place, hlt, if_false, look, ih]

theorem drop_keys (m : Sparse α) (k : Nat) : ∀ e ∈ drop k m, e.1 ≠ k := by
  induction m with
  | nil => simp [drop]
  | cons e m ih =>
    obtain ⟨k', v⟩ := e
    by_cases h : k' = k
    · simpa [drop, h] using ih
    · simpa [drop, h] using ih

/-- The key written reads as written. -/
@[simp] theorem look_put_same [DecidableEq α] (d v : α) (m : Sparse α) (k : Nat) : look d (put d m k v) k = v := by
  by_cases h : v = d
  · simp [put, h, look_drop_same]
  · simp [put, h, look_place_same d v _ k (drop_keys m k)]

/-- Every other key reads as before. -/
theorem look_put_other [DecidableEq α] (d v : α) (m : Sparse α) {k j : Nat} (h : j ≠ k) :
    look d (put d m k v) j = look d m j := by
  by_cases hv : v = d
  · simp [put, hv, look_drop_other d m h]
  · simp [put, hv, look_place_other d v _ h, look_drop_other d m h]

/-- The default of the key read need not be that of the key written. -/
theorem look_put_other_default [DecidableEq α] {c d : α} (v : α) (m : Sparse α) {k j : Nat} (h : j ≠ k) :
    look c (put d m k v) j = look c m j := by
  by_cases hv : v = d
  · simp [put, hv, look_drop_other c m h]
  · simp [put, hv, look_place_other c v _ h, look_drop_other c m h]

theorem look_put [DecidableEq α] (d v : α) (m : Sparse α) (k j : Nat) :
    look d (put d m k v) j = if j = k then v else look d m j := by
  by_cases h : j = k
  · subst h; simp
  · simp [h, look_put_other d v m h]

/-! ### The canonical form -/

theorem risingFrom_mono {b c : Nat} (h : c ≤ b) {m : Sparse α} (hm : risingFrom b m = true) : risingFrom c m = true := by
  cases m with
  | nil => rfl
  | cons e m =>
    obtain ⟨k, v⟩ := e
    simp only [risingFrom, Bool.and_eq_true, decide_eq_true_eq] at hm ⊢
    exact ⟨by omega, hm.2⟩

theorem risingFrom_drop {b : Nat} {m : Sparse α} (k : Nat) (hm : risingFrom b m = true) : risingFrom b (drop k m) = true := by
  induction m generalizing b with
  | nil => rfl
  | cons e m ih =>
    obtain ⟨k', v⟩ := e
    simp only [risingFrom, Bool.and_eq_true, decide_eq_true_eq] at hm
    by_cases h : k' = k
    · simp only [drop, h, if_true]
      exact risingFrom_mono (by omega) (ih hm.2)
    · simp only [drop, h, if_false, risingFrom, Bool.and_eq_true, decide_eq_true_eq]
      exact ⟨hm.1, ih hm.2⟩

theorem risingFrom_filter {b : Nat} {m : Sparse α} (p : Nat × α → Bool) (hm : risingFrom b m = true) :
    risingFrom b (m.filter p) = true := by
  induction m generalizing b with
  | nil => rfl
  | cons e m ih =>
    obtain ⟨k, v⟩ := e
    simp only [risingFrom, Bool.and_eq_true, decide_eq_true_eq] at hm
    by_cases h : p (k, v) = true
    · simp only [List.filter_cons, h, if_true, risingFrom, Bool.and_eq_true, decide_eq_true_eq]
      exact ⟨hm.1, ih hm.2⟩
    · simp only [List.filter_cons, h]
      exact risingFrom_mono (by omega) (ih hm.2)

theorem risingFrom_place {b k : Nat} {m : Sparse α} (v : α) (hb : b ≤ k) (hk : ∀ e ∈ m, e.1 ≠ k)
    (hm : risingFrom b m = true) : risingFrom b (place k v m) = true := by
  induction m generalizing b with
  | nil => simp [place, risingFrom, hb]
  | cons e m ih =>
    obtain ⟨k', v'⟩ := e
    simp only [risingFrom, Bool.and_eq_true, decide_eq_true_eq] at hm
    have hne : k' ≠ k := hk (k', v') (by simp)
    by_cases h : k < k'
    · simp only [place, h, if_true, risingFrom, Bool.and_eq_true, decide_eq_true_eq]
      exact ⟨hb, by omega, hm.2⟩
    · simp only [place, h, if_false, risingFrom, Bool.and_eq_true, decide_eq_true_eq]
      exact ⟨hm.1, ih (by omega) (fun e he => hk e (by simp [he])) hm.2⟩

theorem mem_drop {k : Nat} {m : Sparse α} {e : Nat × α} (h : e ∈ drop k m) : e ∈ m := by
  induction m with
  | nil => simp [drop] at h
  | cons x m ih =>
    obtain ⟨k', v⟩ := x
    by_cases hk : k' = k
    · simp only [drop, hk, if_true] at h; simp [ih h]
    · simp only [drop, hk, if_false, List.mem_cons] at h
      rcases h with rfl | h <;> simp_all

theorem mem_place {k : Nat} {v : α} {m : Sparse α} {e : Nat × α} (h : e ∈ place k v m) : e = (k, v) ∨ e ∈ m := by
  induction m with
  | nil => simpa [place] using h
  | cons x m ih =>
    obtain ⟨k', v'⟩ := x
    by_cases hk : k < k'
    · simp only [place, hk, if_true, List.mem_cons] at h
      simpa using h
    · simp only [place, hk, if_false, List.mem_cons] at h
      rcases h with rfl | h
      · simp
      · rcases ih h with h | h <;> simp [h]

/-- A write keeps the canonical form, where `d` is the default of the key written. -/
theorem canonical_put [DecidableEq α] {d : Nat → α} {m : Sparse α} (k : Nat) (v : α) (hm : canonical d m = true) :
    canonical d (put (d k) m k v) = true := by
  simp only [canonical, Bool.and_eq_true, List.all_eq_true, decide_eq_true_eq] at hm ⊢
  by_cases h : v = d k
  · simp only [put, h, if_true]
    exact ⟨risingFrom_drop k hm.1, fun e he => hm.2 e (mem_drop he)⟩
  · simp only [put, h, if_false]
    refine ⟨risingFrom_place v (Nat.zero_le _) (drop_keys m k) (risingFrom_drop k hm.1), fun e he => ?_⟩
    rcases mem_place he with rfl | he
    · exact h
    · exact hm.2 e (mem_drop he)

/-- So does losing entries. -/
theorem canonical_filter [DecidableEq α] {d : Nat → α} {m : Sparse α} (p : Nat × α → Bool) (hm : canonical d m = true) :
    canonical d (m.filter p) = true := by
  simp only [canonical, Bool.and_eq_true, List.all_eq_true, decide_eq_true_eq] at hm ⊢
  exact ⟨risingFrom_filter p hm.1, fun e he => hm.2 e (List.mem_filter.mp he).1⟩

/-- So does losing entries and a change of default at keys that are lost. -/
theorem canonical_filter_default [DecidableEq α] {c d : Nat → α} {m : Sparse α} (p : Nat × α → Bool) (hm : canonical d m = true)
    (h : ∀ e ∈ m, p e = true → c e.1 = d e.1) : canonical c (m.filter p) = true := by
  simp only [canonical, Bool.and_eq_true, List.all_eq_true, decide_eq_true_eq] at hm ⊢
  refine ⟨risingFrom_filter p hm.1, fun e he => ?_⟩
  have he := List.mem_filter.mp he
  rw [h e he.1 he.2]
  exact hm.2 e he.1

theorem risingFrom_filterMap {b : Nat} {m : Sparse α} {f : Nat × α → Option (Nat × α)} (hf : ∀ e x, f e = some x → x.1 = e.1)
    (hm : risingFrom b m = true) : risingFrom b (m.filterMap f) = true := by
  induction m generalizing b with
  | nil => rfl
  | cons e m ih =>
    obtain ⟨k, v⟩ := e
    simp only [risingFrom, Bool.and_eq_true, decide_eq_true_eq] at hm
    rw [List.filterMap_cons]
    split
    · exact risingFrom_mono (by omega) (ih hm.2)
    · rename_i x hx
      obtain ⟨k', v'⟩ := x
      have hk : k' = k := hf _ _ hx
      simp only [risingFrom, Bool.and_eq_true, decide_eq_true_eq, hk]
      exact ⟨hm.1, ih hm.2⟩

/-- So does changing entries where they stand, to what is not the default. -/
theorem canonical_filterMap [DecidableEq α] {d : Nat → α} {m : Sparse α} {f : Nat × α → Option (Nat × α)}
    (hf : ∀ e x, f e = some x → x.1 = e.1) (hd : ∀ e ∈ m, ∀ x, f e = some x → x.2 ≠ d x.1) (hm : canonical d m = true) :
    canonical d (m.filterMap f) = true := by
  simp only [canonical, Bool.and_eq_true, List.all_eq_true, decide_eq_true_eq] at hm ⊢
  refine ⟨risingFrom_filterMap hf hm.1, fun x hx => ?_⟩
  obtain ⟨e, he, h⟩ := List.mem_filterMap.mp hx
  exact hd e he x h

/-- A key that none of a list of writes names reads as before. -/
theorem look_foldl_put [DecidableEq α] (d v : α) (ks : List Nat) (m : Sparse α) {j : Nat} (h : j ∉ ks) :
    look d (ks.foldl (fun m k => put d m k v) m) j = look d m j := by
  induction ks generalizing m with
  | nil => rfl
  | cons k ks ih =>
    rw [List.mem_cons, not_or] at h
    rw [List.foldl_cons, ih _ h.2, look_put_other d v m h.1]

theorem canonical_nil [DecidableEq α] (d : Nat → α) : canonical d ([] : Sparse α) = true := rfl

end Sys2Proof.Machine
end

