-- ==== Sys2Proof/Laws/State.lean ====
section
/-! SUPPORT. One law per update and field it leaves alone, so that no proof unfolds a record update; then what each update changes. -/

namespace Sys2Proof.Machine

variable (s : State)

@[simp] theorem State.setReg_pending (a : Nat) (v : Word) : (s.setReg a v).pending = s.pending := rfl
@[simp] theorem State.setReg_mem (a : Nat) (v : Word) : (s.setReg a v).mem = s.mem := rfl
@[simp] theorem State.setReg_hostMem (a : Nat) (v : Word) : (s.setReg a v).hostMem = s.hostMem := rfl
@[simp] theorem State.setReg_ecc (a : Nat) (v : Word) : (s.setReg a v).ecc = s.ecc := rfl
@[simp] theorem State.setReg_lost (a : Nat) (v : Word) : (s.setReg a v).lost = s.lost := rfl
@[simp] theorem State.setReg_now (a : Nat) (v : Word) : (s.setReg a v).now = s.now := rfl
@[simp] theorem State.setReg_ticks (a : Nat) (v : Word) : (s.setReg a v).ticks = s.ticks := rfl
@[simp] theorem State.setReg_marks (a : Nat) (v : Word) : (s.setReg a v).marks = s.marks := rfl
@[simp] theorem State.setReg_free (a : Nat) (v : Word) : (s.setReg a v).free = s.free := rfl
@[simp] theorem State.setReg_straps (a : Nat) (v : Word) : (s.setReg a v).straps = s.straps := rfl
@[simp] theorem State.setReg_answer (a : Nat) (v : Word) : (s.setReg a v).answer = s.answer := rfl
@[simp] theorem State.setReg_frames (a : Nat) (v : Word) : (s.setReg a v).frames = s.frames := rfl
@[simp] theorem State.setReg_host (a : Nat) (v : Word) : (s.setReg a v).host = s.host := rfl
@[simp] theorem State.setReg_txns (a : Nat) (v : Word) : (s.setReg a v).txns = s.txns := rfl
@[simp] theorem State.setReg_txnResult (a : Nat) (v : Word) : (s.setReg a v).txnResult = s.txnResult := rfl
@[simp] theorem State.setReg_claims (a : Nat) (v : Word) : (s.setReg a v).claims = s.claims := rfl
@[simp] theorem State.setReg_power (a : Nat) (v : Word) : (s.setReg a v).power = s.power := rfl
@[simp] theorem State.setReg_safety (a : Nat) (v : Word) : (s.setReg a v).safety = s.safety := rfl
@[simp] theorem State.setReg_crumb (a : Nat) (v : Word) : (s.setReg a v).crumb = s.crumb := rfl
@[simp] theorem State.setReg_time (a : Nat) (v : Word) : (s.setReg a v).time = s.time := rfl
@[simp] theorem State.setReg_rf (a : Nat) (v : Word) : (s.setReg a v).rf = s.rf := rfl
@[simp] theorem State.setReg_sample (a : Nat) (v : Word) : (s.setReg a v).sample = s.sample := rfl
@[simp] theorem State.setReg_fabric (a : Nat) (v : Word) : (s.setReg a v).fabric = s.fabric := rfl
@[simp] theorem State.setReg_lyz (a : Nat) (v : Word) : (s.setReg a v).lyz = s.lyz := rfl
@[simp] theorem State.setReg_mill (a : Nat) (v : Word) : (s.setReg a v).mill = s.mill := rfl
@[simp] theorem State.setReg_nav (a : Nat) (v : Word) : (s.setReg a v).nav = s.nav := rfl
@[simp] theorem State.setReg_net (a : Nat) (v : Word) : (s.setReg a v).net = s.net := rfl
@[simp] theorem State.setReg_rtc (a : Nat) (v : Word) : (s.setReg a v).rtc = s.rtc := rfl
@[simp] theorem State.setReg_ledger (a : Nat) (v : Word) : (s.setReg a v).ledger = s.ledger := rfl
@[simp] theorem State.setReg_dma (a : Nat) (v : Word) : (s.setReg a v).dma = s.dma := rfl
@[simp] theorem State.setReg_boot (a : Nat) (v : Word) : (s.setReg a v).boot = s.boot := rfl
@[simp] theorem State.setReg_mon (a : Nat) (v : Word) : (s.setReg a v).mon = s.mon := rfl

@[simp] theorem State.wr_pending (f : Fld) (x : Nat) : (s.wr f x).pending = s.pending := rfl
@[simp] theorem State.wr_mem (f : Fld) (x : Nat) : (s.wr f x).mem = s.mem := rfl
@[simp] theorem State.wr_hostMem (f : Fld) (x : Nat) : (s.wr f x).hostMem = s.hostMem := rfl
@[simp] theorem State.wr_ecc (f : Fld) (x : Nat) : (s.wr f x).ecc = s.ecc := rfl
@[simp] theorem State.wr_lost (f : Fld) (x : Nat) : (s.wr f x).lost = s.lost := rfl
@[simp] theorem State.wr_now (f : Fld) (x : Nat) : (s.wr f x).now = s.now := rfl
@[simp] theorem State.wr_ticks (f : Fld) (x : Nat) : (s.wr f x).ticks = s.ticks := rfl
@[simp] theorem State.wr_marks (f : Fld) (x : Nat) : (s.wr f x).marks = s.marks := rfl
@[simp] theorem State.wr_free (f : Fld) (x : Nat) : (s.wr f x).free = s.free := rfl
@[simp] theorem State.wr_straps (f : Fld) (x : Nat) : (s.wr f x).straps = s.straps := rfl
@[simp] theorem State.wr_answer (f : Fld) (x : Nat) : (s.wr f x).answer = s.answer := rfl
@[simp] theorem State.wr_frames (f : Fld) (x : Nat) : (s.wr f x).frames = s.frames := rfl
@[simp] theorem State.wr_host (f : Fld) (x : Nat) : (s.wr f x).host = s.host := rfl
@[simp] theorem State.wr_txns (f : Fld) (x : Nat) : (s.wr f x).txns = s.txns := rfl
@[simp] theorem State.wr_txnResult (f : Fld) (x : Nat) : (s.wr f x).txnResult = s.txnResult := rfl
@[simp] theorem State.wr_claims (f : Fld) (x : Nat) : (s.wr f x).claims = s.claims := rfl
@[simp] theorem State.wr_power (f : Fld) (x : Nat) : (s.wr f x).power = s.power := rfl
@[simp] theorem State.wr_safety (f : Fld) (x : Nat) : (s.wr f x).safety = s.safety := rfl
@[simp] theorem State.wr_crumb (f : Fld) (x : Nat) : (s.wr f x).crumb = s.crumb := rfl
@[simp] theorem State.wr_time (f : Fld) (x : Nat) : (s.wr f x).time = s.time := rfl
@[simp] theorem State.wr_rf (f : Fld) (x : Nat) : (s.wr f x).rf = s.rf := rfl
@[simp] theorem State.wr_sample (f : Fld) (x : Nat) : (s.wr f x).sample = s.sample := rfl
@[simp] theorem State.wr_fabric (f : Fld) (x : Nat) : (s.wr f x).fabric = s.fabric := rfl
@[simp] theorem State.wr_lyz (f : Fld) (x : Nat) : (s.wr f x).lyz = s.lyz := rfl
@[simp] theorem State.wr_mill (f : Fld) (x : Nat) : (s.wr f x).mill = s.mill := rfl
@[simp] theorem State.wr_nav (f : Fld) (x : Nat) : (s.wr f x).nav = s.nav := rfl
@[simp] theorem State.wr_net (f : Fld) (x : Nat) : (s.wr f x).net = s.net := rfl
@[simp] theorem State.wr_rtc (f : Fld) (x : Nat) : (s.wr f x).rtc = s.rtc := rfl
@[simp] theorem State.wr_ledger (f : Fld) (x : Nat) : (s.wr f x).ledger = s.ledger := rfl
@[simp] theorem State.wr_dma (f : Fld) (x : Nat) : (s.wr f x).dma = s.dma := rfl
@[simp] theorem State.wr_boot (f : Fld) (x : Nat) : (s.wr f x).boot = s.boot := rfl
@[simp] theorem State.wr_mon (f : Fld) (x : Nat) : (s.wr f x).mon = s.mon := rfl

@[simp] theorem State.setByte_pending (a : Nat) (v : Byte) : (s.setByte a v).pending = s.pending := rfl
@[simp] theorem State.setByte_regs (a : Nat) (v : Byte) : (s.setByte a v).regs = s.regs := rfl
@[simp] theorem State.setByte_hostMem (a : Nat) (v : Byte) : (s.setByte a v).hostMem = s.hostMem := rfl
@[simp] theorem State.setByte_ecc (a : Nat) (v : Byte) : (s.setByte a v).ecc = s.ecc := rfl
@[simp] theorem State.setByte_lost (a : Nat) (v : Byte) : (s.setByte a v).lost = s.lost := rfl
@[simp] theorem State.setByte_now (a : Nat) (v : Byte) : (s.setByte a v).now = s.now := rfl
@[simp] theorem State.setByte_ticks (a : Nat) (v : Byte) : (s.setByte a v).ticks = s.ticks := rfl
@[simp] theorem State.setByte_marks (a : Nat) (v : Byte) : (s.setByte a v).marks = s.marks := rfl
@[simp] theorem State.setByte_free (a : Nat) (v : Byte) : (s.setByte a v).free = s.free := rfl
@[simp] theorem State.setByte_straps (a : Nat) (v : Byte) : (s.setByte a v).straps = s.straps := rfl
@[simp] theorem State.setByte_answer (a : Nat) (v : Byte) : (s.setByte a v).answer = s.answer := rfl
@[simp] theorem State.setByte_frames (a : Nat) (v : Byte) : (s.setByte a v).frames = s.frames := rfl
@[simp] theorem State.setByte_host (a : Nat) (v : Byte) : (s.setByte a v).host = s.host := rfl
@[simp] theorem State.setByte_txns (a : Nat) (v : Byte) : (s.setByte a v).txns = s.txns := rfl
@[simp] theorem State.setByte_txnResult (a : Nat) (v : Byte) : (s.setByte a v).txnResult = s.txnResult := rfl
@[simp] theorem State.setByte_claims (a : Nat) (v : Byte) : (s.setByte a v).claims = s.claims := rfl
@[simp] theorem State.setByte_power (a : Nat) (v : Byte) : (s.setByte a v).power = s.power := rfl
@[simp] theorem State.setByte_safety (a : Nat) (v : Byte) : (s.setByte a v).safety = s.safety := rfl
@[simp] theorem State.setByte_crumb (a : Nat) (v : Byte) : (s.setByte a v).crumb = s.crumb := rfl
@[simp] theorem State.setByte_time (a : Nat) (v : Byte) : (s.setByte a v).time = s.time := rfl
@[simp] theorem State.setByte_rf (a : Nat) (v : Byte) : (s.setByte a v).rf = s.rf := rfl
@[simp] theorem State.setByte_sample (a : Nat) (v : Byte) : (s.setByte a v).sample = s.sample := rfl
@[simp] theorem State.setByte_fabric (a : Nat) (v : Byte) : (s.setByte a v).fabric = s.fabric := rfl
@[simp] theorem State.setByte_lyz (a : Nat) (v : Byte) : (s.setByte a v).lyz = s.lyz := rfl
@[simp] theorem State.setByte_mill (a : Nat) (v : Byte) : (s.setByte a v).mill = s.mill := rfl
@[simp] theorem State.setByte_nav (a : Nat) (v : Byte) : (s.setByte a v).nav = s.nav := rfl
@[simp] theorem State.setByte_net (a : Nat) (v : Byte) : (s.setByte a v).net = s.net := rfl
@[simp] theorem State.setByte_rtc (a : Nat) (v : Byte) : (s.setByte a v).rtc = s.rtc := rfl
@[simp] theorem State.setByte_ledger (a : Nat) (v : Byte) : (s.setByte a v).ledger = s.ledger := rfl
@[simp] theorem State.setByte_dma (a : Nat) (v : Byte) : (s.setByte a v).dma = s.dma := rfl
@[simp] theorem State.setByte_boot (a : Nat) (v : Byte) : (s.setByte a v).boot = s.boot := rfl
@[simp] theorem State.setByte_mon (a : Nat) (v : Byte) : (s.setByte a v).mon = s.mon := rfl

@[simp] theorem State.setHostByte_pending (a : Nat) (v : Byte) : (s.setHostByte a v).pending = s.pending := rfl
@[simp] theorem State.setHostByte_regs (a : Nat) (v : Byte) : (s.setHostByte a v).regs = s.regs := rfl
@[simp] theorem State.setHostByte_mem (a : Nat) (v : Byte) : (s.setHostByte a v).mem = s.mem := rfl
@[simp] theorem State.setHostByte_ecc (a : Nat) (v : Byte) : (s.setHostByte a v).ecc = s.ecc := rfl
@[simp] theorem State.setHostByte_lost (a : Nat) (v : Byte) : (s.setHostByte a v).lost = s.lost := rfl
@[simp] theorem State.setHostByte_now (a : Nat) (v : Byte) : (s.setHostByte a v).now = s.now := rfl
@[simp] theorem State.setHostByte_ticks (a : Nat) (v : Byte) : (s.setHostByte a v).ticks = s.ticks := rfl
@[simp] theorem State.setHostByte_marks (a : Nat) (v : Byte) : (s.setHostByte a v).marks = s.marks := rfl
@[simp] theorem State.setHostByte_free (a : Nat) (v : Byte) : (s.setHostByte a v).free = s.free := rfl
@[simp] theorem State.setHostByte_straps (a : Nat) (v : Byte) : (s.setHostByte a v).straps = s.straps := rfl
@[simp] theorem State.setHostByte_answer (a : Nat) (v : Byte) : (s.setHostByte a v).answer = s.answer := rfl
@[simp] theorem State.setHostByte_frames (a : Nat) (v : Byte) : (s.setHostByte a v).frames = s.frames := rfl
@[simp] theorem State.setHostByte_host (a : Nat) (v : Byte) : (s.setHostByte a v).host = s.host := rfl
@[simp] theorem State.setHostByte_txns (a : Nat) (v : Byte) : (s.setHostByte a v).txns = s.txns := rfl
@[simp] theorem State.setHostByte_txnResult (a : Nat) (v : Byte) : (s.setHostByte a v).txnResult = s.txnResult := rfl
@[simp] theorem State.setHostByte_claims (a : Nat) (v : Byte) : (s.setHostByte a v).claims = s.claims := rfl
@[simp] theorem State.setHostByte_power (a : Nat) (v : Byte) : (s.setHostByte a v).power = s.power := rfl
@[simp] theorem State.setHostByte_safety (a : Nat) (v : Byte) : (s.setHostByte a v).safety = s.safety := rfl
@[simp] theorem State.setHostByte_crumb (a : Nat) (v : Byte) : (s.setHostByte a v).crumb = s.crumb := rfl
@[simp] theorem State.setHostByte_time (a : Nat) (v : Byte) : (s.setHostByte a v).time = s.time := rfl
@[simp] theorem State.setHostByte_rf (a : Nat) (v : Byte) : (s.setHostByte a v).rf = s.rf := rfl
@[simp] theorem State.setHostByte_sample (a : Nat) (v : Byte) : (s.setHostByte a v).sample = s.sample := rfl
@[simp] theorem State.setHostByte_fabric (a : Nat) (v : Byte) : (s.setHostByte a v).fabric = s.fabric := rfl
@[simp] theorem State.setHostByte_lyz (a : Nat) (v : Byte) : (s.setHostByte a v).lyz = s.lyz := rfl
@[simp] theorem State.setHostByte_mill (a : Nat) (v : Byte) : (s.setHostByte a v).mill = s.mill := rfl
@[simp] theorem State.setHostByte_nav (a : Nat) (v : Byte) : (s.setHostByte a v).nav = s.nav := rfl
@[simp] theorem State.setHostByte_net (a : Nat) (v : Byte) : (s.setHostByte a v).net = s.net := rfl
@[simp] theorem State.setHostByte_rtc (a : Nat) (v : Byte) : (s.setHostByte a v).rtc = s.rtc := rfl
@[simp] theorem State.setHostByte_ledger (a : Nat) (v : Byte) : (s.setHostByte a v).ledger = s.ledger := rfl
@[simp] theorem State.setHostByte_dma (a : Nat) (v : Byte) : (s.setHostByte a v).dma = s.dma := rfl
@[simp] theorem State.setHostByte_boot (a : Nat) (v : Byte) : (s.setHostByte a v).boot = s.boot := rfl
@[simp] theorem State.setHostByte_mon (a : Nat) (v : Byte) : (s.setHostByte a v).mon = s.mon := rfl

@[simp] theorem State.reply_pending (o : Nat) (st : AccStatus) (v : Word) (c : Nat) : (s.reply o st v c).pending = s.pending := rfl
@[simp] theorem State.reply_regs (o : Nat) (st : AccStatus) (v : Word) (c : Nat) : (s.reply o st v c).regs = s.regs := rfl
@[simp] theorem State.reply_mem (o : Nat) (st : AccStatus) (v : Word) (c : Nat) : (s.reply o st v c).mem = s.mem := rfl
@[simp] theorem State.reply_hostMem (o : Nat) (st : AccStatus) (v : Word) (c : Nat) : (s.reply o st v c).hostMem = s.hostMem := rfl
@[simp] theorem State.reply_ecc (o : Nat) (st : AccStatus) (v : Word) (c : Nat) : (s.reply o st v c).ecc = s.ecc := rfl
@[simp] theorem State.reply_lost (o : Nat) (st : AccStatus) (v : Word) (c : Nat) : (s.reply o st v c).lost = s.lost := rfl
@[simp] theorem State.reply_now (o : Nat) (st : AccStatus) (v : Word) (c : Nat) : (s.reply o st v c).now = s.now := rfl
@[simp] theorem State.reply_ticks (o : Nat) (st : AccStatus) (v : Word) (c : Nat) : (s.reply o st v c).ticks = s.ticks := rfl
@[simp] theorem State.reply_marks (o : Nat) (st : AccStatus) (v : Word) (c : Nat) : (s.reply o st v c).marks = s.marks := rfl
@[simp] theorem State.reply_free (o : Nat) (st : AccStatus) (v : Word) (c : Nat) : (s.reply o st v c).free = s.free := rfl
@[simp] theorem State.reply_straps (o : Nat) (st : AccStatus) (v : Word) (c : Nat) : (s.reply o st v c).straps = s.straps := rfl
@[simp] theorem State.reply_frames (o : Nat) (st : AccStatus) (v : Word) (c : Nat) : (s.reply o st v c).frames = s.frames := rfl
@[simp] theorem State.reply_host (o : Nat) (st : AccStatus) (v : Word) (c : Nat) : (s.reply o st v c).host = s.host := rfl
@[simp] theorem State.reply_txns (o : Nat) (st : AccStatus) (v : Word) (c : Nat) : (s.reply o st v c).txns = s.txns := rfl
@[simp] theorem State.reply_txnResult (o : Nat) (st : AccStatus) (v : Word) (c : Nat) : (s.reply o st v c).txnResult = s.txnResult := rfl
@[simp] theorem State.reply_claims (o : Nat) (st : AccStatus) (v : Word) (c : Nat) : (s.reply o st v c).claims = s.claims := rfl
@[simp] theorem State.reply_power (o : Nat) (st : AccStatus) (v : Word) (c : Nat) : (s.reply o st v c).power = s.power := rfl
@[simp] theorem State.reply_safety (o : Nat) (st : AccStatus) (v : Word) (c : Nat) : (s.reply o st v c).safety = s.safety := rfl
@[simp] theorem State.reply_crumb (o : Nat) (st : AccStatus) (v : Word) (c : Nat) : (s.reply o st v c).crumb = s.crumb := rfl
@[simp] theorem State.reply_time (o : Nat) (st : AccStatus) (v : Word) (c : Nat) : (s.reply o st v c).time = s.time := rfl
@[simp] theorem State.reply_rf (o : Nat) (st : AccStatus) (v : Word) (c : Nat) : (s.reply o st v c).rf = s.rf := rfl
@[simp] theorem State.reply_sample (o : Nat) (st : AccStatus) (v : Word) (c : Nat) : (s.reply o st v c).sample = s.sample := rfl
@[simp] theorem State.reply_fabric (o : Nat) (st : AccStatus) (v : Word) (c : Nat) : (s.reply o st v c).fabric = s.fabric := rfl
@[simp] theorem State.reply_lyz (o : Nat) (st : AccStatus) (v : Word) (c : Nat) : (s.reply o st v c).lyz = s.lyz := rfl
@[simp] theorem State.reply_mill (o : Nat) (st : AccStatus) (v : Word) (c : Nat) : (s.reply o st v c).mill = s.mill := rfl
@[simp] theorem State.reply_nav (o : Nat) (st : AccStatus) (v : Word) (c : Nat) : (s.reply o st v c).nav = s.nav := rfl
@[simp] theorem State.reply_net (o : Nat) (st : AccStatus) (v : Word) (c : Nat) : (s.reply o st v c).net = s.net := rfl
@[simp] theorem State.reply_rtc (o : Nat) (st : AccStatus) (v : Word) (c : Nat) : (s.reply o st v c).rtc = s.rtc := rfl
@[simp] theorem State.reply_ledger (o : Nat) (st : AccStatus) (v : Word) (c : Nat) : (s.reply o st v c).ledger = s.ledger := rfl
@[simp] theorem State.reply_dma (o : Nat) (st : AccStatus) (v : Word) (c : Nat) : (s.reply o st v c).dma = s.dma := rfl
@[simp] theorem State.reply_boot (o : Nat) (st : AccStatus) (v : Word) (c : Nat) : (s.reply o st v c).boot = s.boot := rfl
@[simp] theorem State.reply_mon (o : Nat) (st : AccStatus) (v : Word) (c : Nat) : (s.reply o st v c).mon = s.mon := rfl

@[simp] theorem State.okay_pending (o : Nat) (v : Word) : (s.okay o v).pending = s.pending := rfl
@[simp] theorem State.okay_regs (o : Nat) (v : Word) : (s.okay o v).regs = s.regs := rfl
@[simp] theorem State.okay_mem (o : Nat) (v : Word) : (s.okay o v).mem = s.mem := rfl
@[simp] theorem State.okay_hostMem (o : Nat) (v : Word) : (s.okay o v).hostMem = s.hostMem := rfl
@[simp] theorem State.okay_ecc (o : Nat) (v : Word) : (s.okay o v).ecc = s.ecc := rfl
@[simp] theorem State.okay_lost (o : Nat) (v : Word) : (s.okay o v).lost = s.lost := rfl
@[simp] theorem State.okay_now (o : Nat) (v : Word) : (s.okay o v).now = s.now := rfl
@[simp] theorem State.okay_ticks (o : Nat) (v : Word) : (s.okay o v).ticks = s.ticks := rfl
@[simp] theorem State.okay_marks (o : Nat) (v : Word) : (s.okay o v).marks = s.marks := rfl
@[simp] theorem State.okay_free (o : Nat) (v : Word) : (s.okay o v).free = s.free := rfl
@[simp] theorem State.okay_straps (o : Nat) (v : Word) : (s.okay o v).straps = s.straps := rfl
@[simp] theorem State.okay_frames (o : Nat) (v : Word) : (s.okay o v).frames = s.frames := rfl
@[simp] theorem State.okay_txns (o : Nat) (v : Word) : (s.okay o v).txns = s.txns := rfl
@[simp] theorem State.okay_txnResult (o : Nat) (v : Word) : (s.okay o v).txnResult = s.txnResult := rfl
@[simp] theorem State.okay_claims (o : Nat) (v : Word) : (s.okay o v).claims = s.claims := rfl
@[simp] theorem State.okay_power (o : Nat) (v : Word) : (s.okay o v).power = s.power := rfl
@[simp] theorem State.okay_safety (o : Nat) (v : Word) : (s.okay o v).safety = s.safety := rfl
@[simp] theorem State.okay_crumb (o : Nat) (v : Word) : (s.okay o v).crumb = s.crumb := rfl
@[simp] theorem State.okay_time (o : Nat) (v : Word) : (s.okay o v).time = s.time := rfl
@[simp] theorem State.okay_rf (o : Nat) (v : Word) : (s.okay o v).rf = s.rf := rfl
@[simp] theorem State.okay_sample (o : Nat) (v : Word) : (s.okay o v).sample = s.sample := rfl
@[simp] theorem State.okay_fabric (o : Nat) (v : Word) : (s.okay o v).fabric = s.fabric := rfl
@[simp] theorem State.okay_lyz (o : Nat) (v : Word) : (s.okay o v).lyz = s.lyz := rfl
@[simp] theorem State.okay_mill (o : Nat) (v : Word) : (s.okay o v).mill = s.mill := rfl
@[simp] theorem State.okay_nav (o : Nat) (v : Word) : (s.okay o v).nav = s.nav := rfl
@[simp] theorem State.okay_net (o : Nat) (v : Word) : (s.okay o v).net = s.net := rfl
@[simp] theorem State.okay_rtc (o : Nat) (v : Word) : (s.okay o v).rtc = s.rtc := rfl
@[simp] theorem State.okay_ledger (o : Nat) (v : Word) : (s.okay o v).ledger = s.ledger := rfl
@[simp] theorem State.okay_dma (o : Nat) (v : Word) : (s.okay o v).dma = s.dma := rfl
@[simp] theorem State.okay_boot (o : Nat) (v : Word) : (s.okay o v).boot = s.boot := rfl
@[simp] theorem State.okay_mon (o : Nat) (v : Word) : (s.okay o v).mon = s.mon := rfl

@[simp] theorem State.refuse_pending (o c : Nat) : (s.refuse o c).pending = s.pending := rfl
@[simp] theorem State.refuse_regs (o c : Nat) : (s.refuse o c).regs = s.regs := rfl
@[simp] theorem State.refuse_mem (o c : Nat) : (s.refuse o c).mem = s.mem := rfl
@[simp] theorem State.refuse_hostMem (o c : Nat) : (s.refuse o c).hostMem = s.hostMem := rfl
@[simp] theorem State.refuse_ecc (o c : Nat) : (s.refuse o c).ecc = s.ecc := rfl
@[simp] theorem State.refuse_lost (o c : Nat) : (s.refuse o c).lost = s.lost := rfl
@[simp] theorem State.refuse_now (o c : Nat) : (s.refuse o c).now = s.now := rfl
@[simp] theorem State.refuse_ticks (o c : Nat) : (s.refuse o c).ticks = s.ticks := rfl
@[simp] theorem State.refuse_marks (o c : Nat) : (s.refuse o c).marks = s.marks := rfl
@[simp] theorem State.refuse_free (o c : Nat) : (s.refuse o c).free = s.free := rfl
@[simp] theorem State.refuse_straps (o c : Nat) : (s.refuse o c).straps = s.straps := rfl
@[simp] theorem State.refuse_frames (o c : Nat) : (s.refuse o c).frames = s.frames := rfl
@[simp] theorem State.refuse_txns (o c : Nat) : (s.refuse o c).txns = s.txns := rfl
@[simp] theorem State.refuse_txnResult (o c : Nat) : (s.refuse o c).txnResult = s.txnResult := rfl
@[simp] theorem State.refuse_claims (o c : Nat) : (s.refuse o c).claims = s.claims := rfl
@[simp] theorem State.refuse_power (o c : Nat) : (s.refuse o c).power = s.power := rfl
@[simp] theorem State.refuse_safety (o c : Nat) : (s.refuse o c).safety = s.safety := rfl
@[simp] theorem State.refuse_crumb (o c : Nat) : (s.refuse o c).crumb = s.crumb := rfl
@[simp] theorem State.refuse_time (o c : Nat) : (s.refuse o c).time = s.time := rfl
@[simp] theorem State.refuse_rf (o c : Nat) : (s.refuse o c).rf = s.rf := rfl
@[simp] theorem State.refuse_sample (o c : Nat) : (s.refuse o c).sample = s.sample := rfl
@[simp] theorem State.refuse_fabric (o c : Nat) : (s.refuse o c).fabric = s.fabric := rfl
@[simp] theorem State.refuse_lyz (o c : Nat) : (s.refuse o c).lyz = s.lyz := rfl
@[simp] theorem State.refuse_mill (o c : Nat) : (s.refuse o c).mill = s.mill := rfl
@[simp] theorem State.refuse_nav (o c : Nat) : (s.refuse o c).nav = s.nav := rfl
@[simp] theorem State.refuse_net (o c : Nat) : (s.refuse o c).net = s.net := rfl
@[simp] theorem State.refuse_rtc (o c : Nat) : (s.refuse o c).rtc = s.rtc := rfl
@[simp] theorem State.refuse_ledger (o c : Nat) : (s.refuse o c).ledger = s.ledger := rfl
@[simp] theorem State.refuse_dma (o c : Nat) : (s.refuse o c).dma = s.dma := rfl
@[simp] theorem State.refuse_boot (o c : Nat) : (s.refuse o c).boot = s.boot := rfl
@[simp] theorem State.refuse_mon (o c : Nat) : (s.refuse o c).mon = s.mon := rfl

@[simp] theorem State.setTxn_pending (n : Nat) (t : Txn) : (s.setTxn n t).pending = s.pending := rfl
@[simp] theorem State.setTxn_regs (n : Nat) (t : Txn) : (s.setTxn n t).regs = s.regs := rfl
@[simp] theorem State.setTxn_mem (n : Nat) (t : Txn) : (s.setTxn n t).mem = s.mem := rfl
@[simp] theorem State.setTxn_hostMem (n : Nat) (t : Txn) : (s.setTxn n t).hostMem = s.hostMem := rfl
@[simp] theorem State.setTxn_ecc (n : Nat) (t : Txn) : (s.setTxn n t).ecc = s.ecc := rfl
@[simp] theorem State.setTxn_lost (n : Nat) (t : Txn) : (s.setTxn n t).lost = s.lost := rfl
@[simp] theorem State.setTxn_now (n : Nat) (t : Txn) : (s.setTxn n t).now = s.now := rfl
@[simp] theorem State.setTxn_ticks (n : Nat) (t : Txn) : (s.setTxn n t).ticks = s.ticks := rfl
@[simp] theorem State.setTxn_marks (n : Nat) (t : Txn) : (s.setTxn n t).marks = s.marks := rfl
@[simp] theorem State.setTxn_free (n : Nat) (t : Txn) : (s.setTxn n t).free = s.free := rfl
@[simp] theorem State.setTxn_straps (n : Nat) (t : Txn) : (s.setTxn n t).straps = s.straps := rfl
@[simp] theorem State.setTxn_answer (n : Nat) (t : Txn) : (s.setTxn n t).answer = s.answer := rfl
@[simp] theorem State.setTxn_frames (n : Nat) (t : Txn) : (s.setTxn n t).frames = s.frames := rfl
@[simp] theorem State.setTxn_host (n : Nat) (t : Txn) : (s.setTxn n t).host = s.host := rfl
@[simp] theorem State.setTxn_txnResult (n : Nat) (t : Txn) : (s.setTxn n t).txnResult = s.txnResult := rfl
@[simp] theorem State.setTxn_claims (n : Nat) (t : Txn) : (s.setTxn n t).claims = s.claims := rfl
@[simp] theorem State.setTxn_power (n : Nat) (t : Txn) : (s.setTxn n t).power = s.power := rfl
@[simp] theorem State.setTxn_safety (n : Nat) (t : Txn) : (s.setTxn n t).safety = s.safety := rfl
@[simp] theorem State.setTxn_crumb (n : Nat) (t : Txn) : (s.setTxn n t).crumb = s.crumb := rfl
@[simp] theorem State.setTxn_time (n : Nat) (t : Txn) : (s.setTxn n t).time = s.time := rfl
@[simp] theorem State.setTxn_rf (n : Nat) (t : Txn) : (s.setTxn n t).rf = s.rf := rfl
@[simp] theorem State.setTxn_sample (n : Nat) (t : Txn) : (s.setTxn n t).sample = s.sample := rfl
@[simp] theorem State.setTxn_fabric (n : Nat) (t : Txn) : (s.setTxn n t).fabric = s.fabric := rfl
@[simp] theorem State.setTxn_lyz (n : Nat) (t : Txn) : (s.setTxn n t).lyz = s.lyz := rfl
@[simp] theorem State.setTxn_mill (n : Nat) (t : Txn) : (s.setTxn n t).mill = s.mill := rfl
@[simp] theorem State.setTxn_nav (n : Nat) (t : Txn) : (s.setTxn n t).nav = s.nav := rfl
@[simp] theorem State.setTxn_net (n : Nat) (t : Txn) : (s.setTxn n t).net = s.net := rfl
@[simp] theorem State.setTxn_rtc (n : Nat) (t : Txn) : (s.setTxn n t).rtc = s.rtc := rfl
@[simp] theorem State.setTxn_ledger (n : Nat) (t : Txn) : (s.setTxn n t).ledger = s.ledger := rfl
@[simp] theorem State.setTxn_dma (n : Nat) (t : Txn) : (s.setTxn n t).dma = s.dma := rfl
@[simp] theorem State.setTxn_boot (n : Nat) (t : Txn) : (s.setTxn n t).boot = s.boot := rfl
@[simp] theorem State.setTxn_mon (n : Nat) (t : Txn) : (s.setTxn n t).mon = s.mon := rfl

@[simp] theorem State.setResult_pending (o n c : Nat) : (s.setResult o n c).pending = s.pending := rfl
@[simp] theorem State.setResult_regs (o n c : Nat) : (s.setResult o n c).regs = s.regs := rfl
@[simp] theorem State.setResult_mem (o n c : Nat) : (s.setResult o n c).mem = s.mem := rfl
@[simp] theorem State.setResult_hostMem (o n c : Nat) : (s.setResult o n c).hostMem = s.hostMem := rfl
@[simp] theorem State.setResult_ecc (o n c : Nat) : (s.setResult o n c).ecc = s.ecc := rfl
@[simp] theorem State.setResult_lost (o n c : Nat) : (s.setResult o n c).lost = s.lost := rfl
@[simp] theorem State.setResult_now (o n c : Nat) : (s.setResult o n c).now = s.now := rfl
@[simp] theorem State.setResult_ticks (o n c : Nat) : (s.setResult o n c).ticks = s.ticks := rfl
@[simp] theorem State.setResult_marks (o n c : Nat) : (s.setResult o n c).marks = s.marks := rfl
@[simp] theorem State.setResult_free (o n c : Nat) : (s.setResult o n c).free = s.free := rfl
@[simp] theorem State.setResult_straps (o n c : Nat) : (s.setResult o n c).straps = s.straps := rfl
@[simp] theorem State.setResult_answer (o n c : Nat) : (s.setResult o n c).answer = s.answer := rfl
@[simp] theorem State.setResult_frames (o n c : Nat) : (s.setResult o n c).frames = s.frames := rfl
@[simp] theorem State.setResult_host (o n c : Nat) : (s.setResult o n c).host = s.host := rfl
@[simp] theorem State.setResult_txns (o n c : Nat) : (s.setResult o n c).txns = s.txns := rfl
@[simp] theorem State.setResult_claims (o n c : Nat) : (s.setResult o n c).claims = s.claims := rfl
@[simp] theorem State.setResult_power (o n c : Nat) : (s.setResult o n c).power = s.power := rfl
@[simp] theorem State.setResult_safety (o n c : Nat) : (s.setResult o n c).safety = s.safety := rfl
@[simp] theorem State.setResult_crumb (o n c : Nat) : (s.setResult o n c).crumb = s.crumb := rfl
@[simp] theorem State.setResult_time (o n c : Nat) : (s.setResult o n c).time = s.time := rfl
@[simp] theorem State.setResult_rf (o n c : Nat) : (s.setResult o n c).rf = s.rf := rfl
@[simp] theorem State.setResult_sample (o n c : Nat) : (s.setResult o n c).sample = s.sample := rfl
@[simp] theorem State.setResult_fabric (o n c : Nat) : (s.setResult o n c).fabric = s.fabric := rfl
@[simp] theorem State.setResult_lyz (o n c : Nat) : (s.setResult o n c).lyz = s.lyz := rfl
@[simp] theorem State.setResult_mill (o n c : Nat) : (s.setResult o n c).mill = s.mill := rfl
@[simp] theorem State.setResult_nav (o n c : Nat) : (s.setResult o n c).nav = s.nav := rfl
@[simp] theorem State.setResult_net (o n c : Nat) : (s.setResult o n c).net = s.net := rfl
@[simp] theorem State.setResult_rtc (o n c : Nat) : (s.setResult o n c).rtc = s.rtc := rfl
@[simp] theorem State.setResult_ledger (o n c : Nat) : (s.setResult o n c).ledger = s.ledger := rfl
@[simp] theorem State.setResult_dma (o n c : Nat) : (s.setResult o n c).dma = s.dma := rfl
@[simp] theorem State.setResult_boot (o n c : Nat) : (s.setResult o n c).boot = s.boot := rfl
@[simp] theorem State.setResult_mon (o n c : Nat) : (s.setResult o n c).mon = s.mon := rfl

end Sys2Proof.Machine
end

