-- ==== Sys2Proof/Laws/Ops.lean ====
section
/-! SUPPORT. What the shared operations over registers, memory, transactions and the Ledger do, said once. -/

namespace Sys2Proof.Machine

/-! ### Registers -/

@[simp] theorem reg_setReg_same (s : State) (a : Nat) (v : Word) : (s.setReg a v).reg a = v := by
  simp [State.reg, State.setReg]

theorem reg_setReg_other (s : State) {a b : Nat} (v : Word) (h : b ≠ a) : (s.setReg a v).reg b = s.reg b := by
  simp only [State.reg, State.setReg]
  exact look_put_other_default _ _ h

theorem reg_setReg (s : State) (a b : Nat) (v : Word) : (s.setReg a v).reg b = if b = a then v else s.reg b := by
  by_cases h : b = a
  · subst h; simp
  · simp [h, reg_setReg_other s v h]

theorem reg_wr_other (s : State) (f : Fld) (x : Nat) {b : Nat} (h : b ≠ f.addr) : (s.wr f x).reg b = s.reg b :=
  reg_setReg_other s _ h

/-- A field reads what was written to it. -/
theorem rd_wr_same (s : State) (f : Fld) (x : Nat) (h : f.lo + f.w ≤ 32) : (s.wr f x).rd f = x % 2 ^ f.w := by
  simp [State.rd, State.wr, bits_withBits_same _ x h]

/-- A field of another register, or of other bits, reads as before. -/
theorem rd_wr_other (s : State) (f g : Fld) (x : Nat) (h : g.addr ≠ f.addr ∨ g.lo + g.w ≤ f.lo ∨ f.lo + f.w ≤ g.lo) :
    (s.wr f x).rd g = s.rd g := by
  by_cases ha : g.addr = f.addr
  · simp only [State.rd, State.wr, ha, reg_setReg_same]
    exact bits_withBits_other _ x (by omega)
  · simp [State.rd, reg_wr_other s f x ha]

theorem rd_lt (s : State) (f : Fld) : s.rd f < 2 ^ f.w := bits_lt _ _ _

/-! ### Memory -/

theorem byte_setByte (s : State) (a b : Nat) (v : Byte) : (s.setByte a v).byte b = if b = a then v else s.byte b := by
  by_cases h : b = a
  · subst h
    rw [if_pos rfl]
    exact look_put_same (blankOf s.lost b) v s.mem b
  · rw [if_neg h]
    exact look_put_other_default v s.mem h

theorem byte_store_other (s : State) (a n v b : Nat) (h : b < a ∨ a + n ≤ b) : (s.store a n v).byte b = s.byte b := by
  induction n generalizing s a v with
  | zero => rfl
  | succ n ih =>
    rw [State.store, ih _ _ _ (by omega), byte_setByte, if_neg (by omega)]

/-- A load of what was stored. -/
theorem load_store (s : State) (a n v : Nat) : (s.store a n v).load a n = v % 256 ^ n := by
  induction n generalizing s a v with
  | zero => simp [State.load, Nat.mod_one]
  | succ n ih =>
    rw [State.load, State.store, ih, byte_store_other _ _ _ _ _ (by omega), byte_setByte, if_pos rfl, BitVec.toNat_ofNat,
      show (2 : Nat) ^ 8 = 256 from rfl, show 256 ^ (n + 1) = 256 * 256 ^ n from Nat.pow_succ', Nat.mod_mul (x := v) (a := 256)]

theorem load_store_other (s : State) (a n v b m : Nat) (h : b + m ≤ a ∨ a + n ≤ b) :
    (s.store a n v).load b m = s.load b m := by
  induction m generalizing b with
  | zero => rfl
  | succ m ih => rw [State.load, State.load, ih (b + 1) (by omega), byte_store_other _ _ _ _ _ (by omega)]

theorem load_lt (s : State) (a n : Nat) : s.load a n < 256 ^ n := by
  induction n generalizing a with
  | zero => simp [State.load]
  | succ n ih =>
    have h1 := ih (a + 1)
    have h2 := (s.byte a).isLt
    rw [State.load, Nat.pow_succ]
    omega

/-- A word stored has valid ECC, of which a load takes no notice. -/
theorem load_st32 (s : State) (a : Nat) (v : Word) (b n : Nat) : (s.st32 a v).load b n = (s.store a 4 v.toNat).load b n := by
  induction n generalizing b with
  | zero => rfl
  | succ n ih => rw [State.load, State.load, ih]; rfl

/-- A word of memory reads as it was stored. -/
theorem ld32_st32 (s : State) (a : Nat) (v : Word) : (s.st32 a v).ld32 a = v := by
  apply BitVec.eq_of_toNat_eq
  have := v.isLt
  rw [State.ld32, load_st32, load_store, BitVec.toNat_ofNat]
  omega

theorem ld32_st32_other (s : State) {a b : Nat} (v : Word) (h : b + 4 ≤ a ∨ a + 4 ≤ b) : (s.st32 a v).ld32 b = s.ld32 b := by
  rw [State.ld32, load_st32, load_store_other _ _ _ _ _ _ h, State.ld32]

/-- A store changes memory alone. -/
theorem store_eq (s : State) (a n v : Nat) : s.store a n v = { s with mem := (s.store a n v).mem } := by
  induction n generalizing s a v with
  | zero => rfl
  | succ n ih => rw [State.store, ih]; rfl

theorem reg_store (s : State) (a n v b : Nat) : (s.store a n v).reg b = s.reg b := by
  rw [store_eq]; rfl

/-! ### Transactions -/

@[simp] theorem txn_setTxn_same (s : State) (n : Nat) (t : Txn) : (s.setTxn n t).txn n = t := look_put_same _ _ _ _

theorem txn_setTxn (s : State) (n m : Nat) (t : Txn) : (s.setTxn n t).txn m = if m = n then t else s.txn m :=
  look_put _ _ _ _ _

/-! ### The canonical form of memory and registers -/

theorem canon_setReg {s : State} (a : Nat) (v : Word) (h : s.canon = true) : (s.setReg a v).canon = true := by
  simp only [State.canon, Bool.and_eq_true] at h ⊢
  exact ⟨⟨canonical_put a v h.1.1, h.1.2⟩, h.2⟩

theorem canon_wr {s : State} (f : Fld) (x : Nat) (h : s.canon = true) : (s.wr f x).canon = true := canon_setReg _ _ h

theorem canon_setByte {s : State} (a : Nat) (v : Byte) (h : s.canon = true) : (s.setByte a v).canon = true := by
  simp only [State.canon, Bool.and_eq_true] at h ⊢
  exact ⟨⟨h.1.1, canonical_put (d := blankOf s.lost) a v h.1.2⟩, h.2⟩

theorem canon_forget {s : State} (lo hi : Nat) (h : s.canon = true) : (s.forget lo hi).canon = true := by
  simp only [State.canon, Bool.and_eq_true] at h ⊢
  exact ⟨⟨h.1.1, canonical_filter _ h.1.2⟩, h.2⟩

/-- A region that is not lost keeps what its unlisted bytes read as. -/
theorem blankOf_lose (s : State) {rs : List Nat} {a : Nat} (h : a / 2 ^ 18 ∉ rs) : blankOf (s.lose rs).lost a = blankOf s.lost a := by
  have hl : look 0 (s.lose rs).lost (a / 2 ^ 18) = look 0 s.lost (a / 2 ^ 18) := look_foldl_put _ _ rs s.lost h
  simp only [blankOf, hl]

theorem canon_lose {s : State} (rs : List Nat) (h : s.canon = true) : (s.lose rs).canon = true := by
  simp only [State.canon, Bool.and_eq_true] at h ⊢
  refine ⟨⟨h.1.1, canonical_filter_default _ h.1.2 fun e _ hp => blankOf_lose s ?_⟩, h.2⟩
  simpa using hp

/-- Outside the regions that are lost memory reads as before. -/
theorem byte_lose_other (s : State) {rs : List Nat} {a : Nat} (h : a / 2 ^ 18 ∉ rs) : (s.lose rs).byte a = s.byte a := by
  rw [State.byte, blankOf_lose s h, State.byte]
  show look _ (s.mem.filter _) a = look _ s.mem a
  induction s.mem with
  | nil => rfl
  | cons e m ih =>
    obtain ⟨k, v⟩ := e
    by_cases hp : rs.contains (k / 2 ^ 18) = true
    · have hk : k ≠ a := fun c => h (by rw [← c]; exact List.contains_iff_mem.mp hp)
      rw [List.filter_cons_of_neg (by show ¬ (!rs.contains (k / 2 ^ 18)) = true; rw [hp]; decide), ih]
      exact (if_neg hk).symm
    · rw [List.filter_cons_of_pos (by show (!rs.contains (k / 2 ^ 18)) = true; rw [Bool.eq_false_iff.mpr hp]; rfl)]
      show (if k = a then v else look _ (m.filter _) a) = if k = a then v else look _ m a
      rw [ih]

theorem canon_setHostByte {s : State} (a : Nat) (v : Byte) (h : s.canon = true) : (s.setHostByte a v).canon = true := by
  simp only [State.canon, Bool.and_eq_true] at h ⊢
  exact ⟨h.1, canonical_put (d := blankOf []) a v h.2⟩

theorem canon_store {s : State} (a n v : Nat) (h : s.canon = true) : (s.store a n v).canon = true := by
  induction n generalizing s a v with
  | zero => exact h
  | succ n ih => exact ih _ _ (canon_setByte _ _ h)

theorem canon_st32 {s : State} (a : Nat) (v : Word) (h : s.canon = true) : (s.st32 a v).canon = true := canon_store a 4 v.toNat h

theorem canon_stWords {s : State} (a : Nat) (ws : List Word) (h : s.canon = true) : (s.stWords a ws).canon = true := by
  induction ws generalizing s a with
  | nil => exact h
  | cons w ws ih => exact ih _ (canon_st32 _ _ h)

theorem canon_stBytes {s : State} (a : Nat) (bs : List Nat) (h : s.canon = true) : (s.stBytes a bs).canon = true := by
  induction bs generalizing s a with
  | nil => exact h
  | cons b bs ih => exact ih _ (canon_setByte _ _ h)

theorem canon_hostStore {s : State} (a n v : Nat) (h : s.canon = true) : (s.hostStore a n v).canon = true := by
  induction n generalizing s a v with
  | zero => exact h
  | succ n ih => exact ih _ _ (canon_setHostByte _ _ h)

end Sys2Proof.Machine
end

