-- ==== Sys2Proof/Laws/Keeps.lean ====
section
/-! SUPPORT. Every shared operation keeps the invariant of a state and its queue of commands: one lemma each, so that no proof about a
command unfolds them. -/

namespace Sys2Proof.Machine

/-- From `s` to `t` no waiting command is touched, and the invariant is kept. -/
def Keeps (s t : State) : Prop := t.pending = s.pending ∧ (s.Inv → t.Inv)

theorem Keeps.refl (s : State) : Keeps s s := ⟨rfl, id⟩

/-- One update after another: the last one is named first, as it stands in a term. -/
theorem Keeps.after {s t u : State} (k : Keeps t u) (h : Keeps s t) : Keeps s u := ⟨k.1.trans h.1, k.2 ∘ h.2⟩

/-! ### Fields of which the invariant says nothing -/

variable (s : State)

theorem keeps_ecc (x : Sparse Nat) : Keeps s { s with ecc := x } := ⟨rfl, id⟩
theorem keeps_marks (x : Sparse Nat) : Keeps s { s with marks := x } := ⟨rfl, id⟩
theorem keeps_straps (x : Straps) : Keeps s { s with straps := x } := ⟨rfl, id⟩
theorem keeps_now (x : Nat) : Keeps s { s with now := x } := ⟨rfl, id⟩
theorem keeps_ticks (x : Nat) : Keeps s { s with ticks := x } := ⟨rfl, id⟩
theorem keeps_free (x : Nat) : Keeps s { s with free := x } := ⟨rfl, id⟩
theorem keeps_answer (x : Answer) : Keeps s { s with answer := x } := ⟨rfl, id⟩
theorem keeps_frames (x : List OutFrame) : Keeps s { s with frames := x } := ⟨rfl, id⟩
theorem keeps_host (x : HostSt) : Keeps s { s with host := x } := ⟨rfl, id⟩
theorem keeps_txnResult (x : Sparse Nat) : Keeps s { s with txnResult := x } := ⟨rfl, id⟩
theorem keeps_claims (x : ClaimSt) : Keeps s { s with claims := x } := ⟨rfl, id⟩
theorem keeps_power (x : PowerSt) : Keeps s { s with power := x } := ⟨rfl, id⟩
theorem keeps_safety (x : SafetySt) : Keeps s { s with safety := x } := ⟨rfl, id⟩
theorem keeps_time (x : TimeSt) : Keeps s { s with time := x } := ⟨rfl, id⟩
theorem keeps_rf (x : RfSt) : Keeps s { s with rf := x } := ⟨rfl, id⟩
theorem keeps_sample (x : SampleSt) : Keeps s { s with sample := x } := ⟨rfl, id⟩
theorem keeps_fabric (x : FabricSt) : Keeps s { s with fabric := x } := ⟨rfl, id⟩
theorem keeps_lyz (x : LyzSt) : Keeps s { s with lyz := x } := ⟨rfl, id⟩
theorem keeps_mill (x : MillSt) : Keeps s { s with mill := x } := ⟨rfl, id⟩
theorem keeps_nav (x : NavSt) : Keeps s { s with nav := x } := ⟨rfl, id⟩
theorem keeps_net (x : NetSt) : Keeps s { s with net := x } := ⟨rfl, id⟩
theorem keeps_rtc (x : RtcSt) : Keeps s { s with rtc := x } := ⟨rfl, id⟩
theorem keeps_dma (x : DmaSt) : Keeps s { s with dma := x } := ⟨rfl, id⟩
theorem keeps_boot (x : BootSt) : Keeps s { s with boot := x } := ⟨rfl, id⟩
theorem keeps_mon (x : MonSt) : Keeps s { s with mon := x } := ⟨rfl, id⟩

/-- The crumb writer's data but the queue. -/
theorem keeps_crumb {x : CrumbSt} (h : x.queue = s.crumb.queue) : Keeps s { s with crumb := x } :=
  ⟨rfl, fun hs => ⟨hs.1, hs.2.1, Nat.le_trans (Nat.le_of_eq (congrArg List.length h)) hs.2.2.1, hs.2.2.2⟩⟩

/-! ### Repeated and conditional updates -/

theorem keeps_foldl {α : Type} {f : State → α → State} (l : List α) (hf : ∀ s x, Keeps s (f s x)) : Keeps s (l.foldl f s) := by
  induction l generalizing s with
  | nil => exact Keeps.refl s
  | cons x l ih => exact (ih _).after (hf s x)

theorem keeps_whenB (p : Bool) {k : State → State} (hk : Keeps s (k s)) : Keeps s (s.whenB p k) := by
  rw [State.whenB]; split
  · exact hk
  · exact Keeps.refl s

/-- A choice between two updates keeps what both keep. -/
theorem keeps_ite {s t u : State} {p : Prop} [Decidable p] (ht : Keeps s t) (hu : Keeps s u) : Keeps s (if p then t else u) := by
  split
  · exact ht
  · exact hu

/-! ### Registers and memory -/

theorem keeps_setReg (a : Nat) (v : Word) : Keeps s (s.setReg a v) := ⟨rfl, fun h => ⟨canon_setReg a v h.1, h.2⟩⟩
theorem keeps_wr (f : Fld) (x : Nat) : Keeps s (s.wr f x) := keeps_setReg ..
theorem keeps_inc (f : Fld) (n : Nat) : Keeps s (s.inc f n) := keeps_wr ..
theorem keeps_sat (f : Fld) (n : Nat) : Keeps s (s.sat f n) := keeps_wr ..
theorem keeps_setByte (a : Nat) (v : Byte) : Keeps s (s.setByte a v) := ⟨rfl, fun h => ⟨canon_setByte a v h.1, h.2⟩⟩
theorem keeps_setHostByte (a : Nat) (v : Byte) : Keeps s (s.setHostByte a v) := ⟨rfl, fun h => ⟨canon_setHostByte a v h.1, h.2⟩⟩
theorem keeps_forget (lo hi : Nat) : Keeps s (s.forget lo hi) := ⟨rfl, fun h => ⟨canon_forget lo hi h.1, h.2⟩⟩

theorem keeps_store (a n v : Nat) : Keeps s (s.store a n v) := by
  induction n generalizing s a v with
  | zero => exact Keeps.refl s
  | succ n ih => exact (ih ..).after (keeps_setByte ..)

theorem keeps_st32 (a : Nat) (v : Word) : Keeps s (s.st32 a v) := (keeps_ecc (s.store a 4 v.toNat) _).after (keeps_store ..)

theorem keeps_stWords (a : Nat) (ws : List Word) : Keeps s (s.stWords a ws) := by
  induction ws generalizing s a with
  | nil => exact Keeps.refl s
  | cons w ws ih => exact (ih ..).after (keeps_st32 ..)

theorem keeps_stBytes (a : Nat) (bs : List Nat) : Keeps s (s.stBytes a bs) := by
  induction bs generalizing s a with
  | nil => exact Keeps.refl s
  | cons b bs ih => exact (ih ..).after (keeps_setByte ..)

theorem keeps_hostStore (a n v : Nat) : Keeps s (s.hostStore a n v) := by
  induction n generalizing s a v with
  | zero => exact Keeps.refl s
  | succ n ih => exact (ih ..).after (keeps_setHostByte ..)

theorem mem_put {α : Type} [DecidableEq α] {d v : α} {m : Sparse α} {k : Nat} {e : Nat × α} (h : e ∈ put d m k v) : e = (k, v) ∨ e ∈ m := by
  rw [put] at h
  split at h
  · exact .inr (mem_drop h)
  · exact (mem_place h).imp_right mem_drop

/-- Regions that lose their content at all may lose it. -/
theorem keeps_lose {rs : List Nat} (h : ∀ r ∈ rs, losable r = true) : Keeps s (s.lose rs) := by
  refine ⟨rfl, fun hs => ⟨canon_lose rs hs.1, ?_, hs.2.2⟩⟩
  have hl : ∀ e ∈ s.lost, losable e.1 = true := by simpa [State.lostOk] using hs.2.1
  suffices ∀ e ∈ (s.lose rs).lost, losable e.1 = true by simpa [State.lostOk] using this
  show ∀ e ∈ rs.foldl (fun l r => put 0 l r (s.free + 1)) s.lost, losable e.1 = true
  revert hl
  generalize s.lost = l
  intro hl
  induction rs generalizing l with
  | nil => exact hl
  | cons r rs ih =>
    refine ih (fun x hx => h x (by simp [hx])) _ fun e he => ?_
    rcases mem_put he with rfl | he
    · exact h r (by simp)
    · exact hl e he

theorem losable_lostRegions (d banks : Nat) : ∀ r ∈ lostRegions d banks, losable r = true := by
  intro r hr
  simp only [lostRegions] at hr
  split at hr
  · simp only [List.mem_append, List.mem_map, List.mem_filter, List.mem_range] at hr
    rcases hr with ⟨i, hi, rfl⟩ | ⟨i, ⟨hi, -⟩, rfl⟩ <;> simp only [losable, decide_eq_true_eq] <;> omega
  · repeat' split at hr
    all_goals simp only [List.mem_map, List.mem_range, List.not_mem_nil] at hr
    all_goals obtain ⟨i, hi, rfl⟩ := hr; simp only [losable, decide_eq_true_eq]; omega

theorem keeps_losePools (d : Nat) : Keeps s (s.losePools d) := by
  rw [State.losePools]
  exact (keeps_ite (Keeps.refl _) (keeps_lose _ (losable_lostRegions _ _))).after (keeps_ite (keeps_forget ..) (Keeps.refl s))

theorem keeps_loseRegs (d : Nat) : Keeps s (s.loseRegs d) := by
  refine ⟨rfl, fun hs => ⟨?_, hs.2⟩⟩
  have h := hs.1
  simp only [State.canon, Bool.and_eq_true] at h ⊢
  have hc := h.1.1
  refine ⟨⟨canonical_filterMap (fun e x hx => ?_) (fun e he x hx => ?_) hc, h.1.2⟩, h.2⟩
  · rw [keptEntry] at hx
    split at hx
    · cases hx; rfl
    · dsimp only at hx
      split at hx <;> cases hx
      rfl
  · rw [keptEntry] at hx
    split at hx
    · cases hx
      simp only [canonical, Bool.and_eq_true, List.all_eq_true, decide_eq_true_eq] at hc
      exact hc.2 e he
    · dsimp only at hx
      split at hx <;> cases hx
      assumption

/-! ### The Ledger's working copy -/

/-- A store within the copy's 64 KiB. -/
theorem keeps_ledgerSet {o n : Nat} (v : Nat) (h : o + n ≤ 0x10000) : Keeps s (s.ledgerSet o n v) := by
  induction n generalizing s o v with
  | zero => exact Keeps.refl s
  | succ n ih =>
    refine (ih _ _ (by omega)).after ⟨rfl, fun hs => ⟨hs.1, hs.2.1, hs.2.2.1, hs.2.2.2.1, fun e he => ?_⟩⟩
    rcases mem_put he with rfl | he
    · show o < 0x10000; omega
    · exact hs.2.2.2.2 e he

theorem keeps_ledgerCount {o n : Nat} (k : Nat) (h : o + n ≤ 0x10000) : Keeps s (s.ledgerCount o n k) := keeps_ledgerSet s _ h

theorem keeps_countReset {cause : Nat} (h : cause < 8) : Keeps s (s.countReset cause) :=
  keeps_ledgerCount s 1 (show 0x20 + 4 * cause + 4 ≤ 0x10000 by omega)

theorem keeps_countMram (p n : Nat) : Keeps s (s.countMram p n) :=
  keeps_ledgerCount s n (show 0x120 + 8 * (p % 9) + 8 ≤ 0x10000 by omega)

/-! ### Answers, free values, crumbs and events -/

theorem keeps_reply (o : Nat) (st : AccStatus) (v : Word) (c : Nat) : Keeps s (s.reply o st v c) := ⟨rfl, id⟩
theorem keeps_noMap (o : Nat) : Keeps s (s.noMap o) := ⟨rfl, id⟩
theorem keeps_tgtErr (o : Nat) : Keeps s (s.tgtErr o) := ⟨rfl, id⟩
theorem keeps_refuse (o c : Nat) : Keeps s (s.refuse o c) := ⟨rfl, id⟩
theorem keeps_okay (o : Nat) (v : Word) : Keeps s (s.okay o v) := ⟨rfl, id⟩
theorem keeps_draw : Keeps s s.draw.2 := ⟨rfl, id⟩
theorem keeps_say (kind : Nat) (payload : List Nat) : Keeps s (s.say kind payload) := ⟨rfl, id⟩
theorem keeps_mark (t : Timer) : Keeps s (s.mark t) := ⟨rfl, id⟩

theorem keeps_touch (o n : Nat) : Keeps s (s.touch o n) := by
  rw [State.touch]; exact keeps_ite (keeps_mark ..) (Keeps.refl s)

theorem keeps_loseCrumb : Keeps s s.loseCrumb := (keeps_crumb _ rfl).after (keeps_sat ..)

theorem keeps_addCrumb (type src o : Nat) (ws : List Word) : Keeps s (s.addCrumb type src o ws) := by
  rw [State.addCrumb]
  split
  · rename_i h
    refine ⟨rfl, fun hs => ⟨hs.1, hs.2.1, ?_, hs.2.2.2⟩⟩
    have := of_decide_eq_true h
    simpa using Nat.succ_le_of_lt this
  · exact keeps_loseCrumb s

theorem length_join (c : Crumb) (l : List Crumb) : (c.join l).length = l.length + 1 := by
  induction l with
  | nil => rfl
  | cons x l ih => rw [Crumb.join]; split <;> simp [ih]

theorem keeps_dropRequest (t : State) (c : Crumb) : Keeps t (s.dropRequest t c) := by
  rw [State.dropRequest]
  exact keeps_ite ((keeps_crumb _ (by rfl)).after (keeps_loseCrumb t)) (keeps_loseCrumb t)

theorem length_joined (l acc : List Crumb) : (l.foldl (fun l c => c.join l) acc).length = acc.length + l.length := by
  induction l generalizing acc with
  | nil => simp
  | cons c l ih => rw [List.foldl_cons, ih, length_join, List.length_cons]; omega

/-- What a cycle does to a state without requests, it does with the queue's room for those it makes. -/
theorem keeps_oneCycle {k : State → State} (hk : ∀ t, Keeps t (k t)) : Keeps s (s.oneCycle k) := by
  rw [State.oneCycle]
  have h0 := hk { s with crumb := { s.crumb with queue := [] } }
  refine Keeps.after (keeps_foldl _ _ fun t c => keeps_dropRequest ..) ⟨h0.1, fun h => ?_⟩
  have h1 := h0.2 ⟨h.1, h.2.1, Nat.zero_le _, h.2.2.2⟩
  refine ⟨h1.1, h1.2.1, ?_, h1.2.2.2⟩
  have hq := h.2.2.1
  rw [List.length_append, List.length_take]
  omega

theorem keeps_msi (v : Nat) : Keeps s (s.msi v) := by
  rw [State.msi]
  exact keeps_ite (Keeps.refl s) (keeps_ite (keeps_host ..) (keeps_host ..))

theorem keeps_signal (src : Nat) : Keeps s (s.signal src) := by
  rw [State.signal]; exact keeps_ite (keeps_msi ..) (Keeps.refl s)

theorem keeps_event (f : Fld) : Keeps s (s.event f) := by
  refine Keeps.after (t := s.wr f 1) ?_ (keeps_wr ..)
  unfold State.event
  iterate 6 refine keeps_ite (keeps_signal ..) ?_
  exact Keeps.refl _

/-! ### Safe state and fault sources -/

theorem keeps_preempt (take : Bool) : Keeps s (s.preempt take) :=
  (keeps_foldl _ _ fun _ _ => keeps_addCrumb ..).after (keeps_claims ..)

theorem keeps_cutPulses : Keeps s s.cutPulses := keeps_foldl _ _ fun s _ => (keeps_time (s.wr _ 0) _).after (keeps_wr ..)

theorem keeps_safeCrumb (o : Nat) : Keeps s (s.safeCrumb o) := keeps_addCrumb ..

theorem keeps_enterSafe (cause o : Nat) : Keeps s (s.enterSafe cause o) := by
  rw [State.enterSafe]
  refine Keeps.after (keeps_ite (Keeps.refl _) ?_) ((keeps_wr _ F.OCQ_STAT_HOLD 1).after (keeps_safety s _))
  exact (keeps_cutPulses _).after <| (keeps_preempt ..).after <| (keeps_safeCrumb ..).after <| (keeps_sat ..).after <|
    (keeps_wr ..).after (keeps_wr ..)

theorem keeps_exitSafe (o : Nat) : Keeps s (s.exitSafe o) := by
  rw [State.exitSafe]
  exact (keeps_preempt ..).after <| (keeps_addCrumb ..).after <| (keeps_wr ..).after (keeps_wr ..)

theorem keeps_raiseCrumb (src : Nat) (d2 d3 : Word) (o : Nat) : Keeps s (s.raiseCrumb src d2 d3 o) := by
  rw [State.raiseCrumb]
  dsimp only
  exact keeps_ite (Keeps.refl s) ((keeps_ite (keeps_crumb _ (by rfl)) (Keeps.refl _)).after (keeps_addCrumb ..))

theorem keeps_fltNote (src : Nat) (d2 d3 : Word) (o : Nat) : Keeps s (s.fltNote src d2 d3 o) := by
  rw [State.fltNote]
  refine Keeps.after (keeps_ite (Keeps.refl _) ?_) <| (keeps_safety _ _).after <| (keeps_wr _ _ 1).after (keeps_wr s _ 1)
  refine Keeps.after (keeps_ite (Keeps.refl _) ?_) (keeps_raiseCrumb ..)
  refine (keeps_safety _ _).after <| (keeps_signal _ 8).after ?_
  exact keeps_ite (Keeps.refl _) ((keeps_wr ..).after <| (keeps_wr ..).after (keeps_wr ..))

theorem keeps_fltAct (src o : Nat) : Keeps s (s.fltAct src o) := by
  rw [State.fltAct]; exact keeps_ite (keeps_enterSafe ..) (Keeps.refl s)

theorem keeps_fltRise (src : Nat) (d2 d3 : Word) (o : Nat) : Keeps s (s.fltRise src d2 d3 o) := (keeps_fltAct ..).after (keeps_fltNote ..)

theorem keeps_spoilTest (src : Nat) : Keeps s (s.spoilTest src) := by
  rw [State.spoilTest]; exact keeps_ite (keeps_safety ..) (Keeps.refl s)

theorem keeps_raise (src : Nat) (d2 d3 : Word) (o : Nat) : Keeps s (s.raise src d2 d3 o) := by
  rw [State.raise]
  exact keeps_ite (Keeps.refl s) ((keeps_ite ((keeps_fltRise ..).after (keeps_spoilTest ..)) (Keeps.refl _)).after (keeps_safety ..))

theorem keeps_lower (src o : Nat) : Keeps s (s.lower src o) := by
  rw [State.lower]
  refine keeps_ite (Keeps.refl s) (Keeps.after (keeps_ite (Keeps.refl _) ?_) (keeps_safety s _))
  exact (keeps_ite (Keeps.refl _) (keeps_addCrumb ..)).after (keeps_wr ..)

theorem keeps_pulseSrc (src : Nat) (d2 d3 : Word) (o : Nat) : Keeps s (s.pulseSrc src d2 d3 o) := by
  rw [State.pulseSrc]; exact keeps_ite (Keeps.refl s) ((keeps_lower ..).after (keeps_raise ..))

/-! ### Accesses and commands -/

theorem keeps_offBlock (o a : Nat) (w : Bool) : Keeps s (s.offBlock o a w) := by
  rw [State.offBlock, State.offReply]
  refine (keeps_reply ..).after <| (keeps_ite (keeps_sat ..) (Keeps.refl _)).after <| (keeps_host ..).after ?_
  refine Keeps.after (keeps_ite (Keeps.refl _) ?_) <| (keeps_setReg ..).after (keeps_sat s F.SYS_OFFACC_CNT_COUNT 1)
  exact (keeps_host ..).after (keeps_addCrumb ..)

/-- An access keeps what its effect keeps: it reaches the interconnect, finds HOST off, or is not heard. -/
theorem keeps_ifHeard (o a : Nat) (w : Bool) {k : State → State} (hk : ∀ t, Keeps t (k t)) : Keeps s (s.ifHeard o a w k) := by
  rw [State.ifHeard]
  exact keeps_ite (hk s) (keeps_ite (keeps_offBlock ..) (Keeps.refl s))

/-- It runs on the answered state, or is an access to a block that is off. -/
theorem keeps_access (o a : Nat) {k : State → State} (hk : ∀ t, Keeps t (k t)) : Keeps s (s.access o a k) := by
  rw [State.access]
  exact keeps_ite ((hk _).after (keeps_okay ..)) (keeps_ite (keeps_offBlock ..) (Keeps.refl s))

theorem keeps_command (o a : Nat) {k : State → State} (hk : ∀ t, Keeps t (k t)) : Keeps s (s.command o a k) :=
  keeps_ifHeard s o a true fun t => keeps_access t o a hk

theorem keeps_readCmd (o a : Nat) {k : State → State} (hk : ∀ t, Keeps t (k t)) : Keeps s (s.readCmd o a k) :=
  keeps_ifHeard s o a false fun t => keeps_ite (hk t) (keeps_ite (keeps_offBlock ..) (Keeps.refl t))

/-! ### Claims, transactions and owners -/

theorem keeps_vote (c d : Nat) (up : Bool) : Keeps s (s.vote c d up) := by
  rw [State.vote]; exact keeps_ite (keeps_wr ..) (Keeps.refl s)

theorem keeps_setTriggerVotes (k m : Nat) : Keeps s (s.setTriggerVotes k m) :=
  (keeps_foldl _ _ fun s d => keeps_vote s 15 d _).after (keeps_time ..)

theorem keeps_unclaim (r : Nat) : Keeps s (s.unclaim r) := by
  rw [State.unclaim]
  exact (keeps_ite (keeps_setTriggerVotes ..) (Keeps.refl _)).after (keeps_claims ..)

/-- A transaction changes to one whose journal fits. -/
theorem keeps_setTxn (n : Nat) {t : Txn} (h : t.journal.length ≤ 256) : Keeps s (s.setTxn n t) := by
  refine ⟨rfl, fun hs => ⟨hs.1, hs.2.1, hs.2.2.1, fun m => ?_, hs.2.2.2.2⟩⟩
  rw [txn_setTxn]; split
  · exact h
  · exact hs.2.2.2.1 m

theorem keeps_setResult (o n c : Nat) : Keeps s (s.setResult o n c) := ⟨rfl, id⟩

theorem keeps_txnAbort (n code : Nat) : Keeps s (s.txnAbort n code) :=
  (keeps_sat ..).after <| (keeps_addCrumb ..).after <| (keeps_setResult ..).after (keeps_setTxn s n (by simp))

theorem keeps_stopBch (c : Nat) : Keeps s (s.stopBch c) := by
  rw [State.stopBch]
  exact keeps_ite ((keeps_dma ..).after (keeps_wr ..)) (keeps_ite (keeps_wr ..) (Keeps.refl s))

theorem keeps_resetPch (p : Nat) : Keeps s (s.resetPch p) := (keeps_lyz (s.wr (F.DMA_PCH_STAT_STATE p) 0) _).after (keeps_wr ..)

theorem keeps_releaseByReset (o r : Nat) : Keeps s (s.releaseByReset o r) := by
  rw [State.releaseByReset]
  refine Keeps.after (keeps_ite (keeps_stopBch ..) (keeps_ite (keeps_resetPch ..) (Keeps.refl _))) ?_
  exact (keeps_addCrumb ..).after (keeps_unclaim ..)

theorem keeps_ownerReset (o : Nat) : Keeps s (s.ownerReset o) := by
  rw [State.ownerReset]
  refine Keeps.after (keeps_foldl _ _ fun s e => ?_) (keeps_foldl _ _ fun s n => ?_)
  · exact keeps_ite (keeps_releaseByReset ..) (Keeps.refl s)
  · exact keeps_ite (keeps_txnAbort ..) (Keeps.refl s)

/-! ### Pacing, votes and the states they cause -/

theorem keeps_paceOne (p : Nat) : Keeps s (s.paceOne p) := by
  rw [State.paceOne]; split
  · exact keeps_dma ..
  · exact keeps_ite (keeps_dma ..) (keeps_ite (keeps_dma ..) (Keeps.refl s))

theorem keeps_pace : Keeps s s.pace := by
  rw [State.pace]; exact keeps_ite (keeps_foldl _ _ keeps_paceOne) (Keeps.refl s)

theorem keeps_hardwareVotes : Keeps s s.hardwareVotes := by
  rw [State.hardwareVotes]
  exact (keeps_vote ..).after <| (keeps_foldl _ _ fun s p => keeps_vote s (8 + p) (8 + p) _).after (keeps_vote ..)

theorem keeps_ownersLeave (r : State) (d : Nat) : Keeps s (r.ownersLeave s d) := by
  rw [State.ownersLeave]
  exact keeps_ite (keeps_foldl _ _ keeps_ownerReset) (Keeps.refl s)

/-! ### What stops when a domain leaves Run -/

theorem keeps_setPort (p : Nat) (x : Port) : Keeps s (s.setPort p x) := ⟨rfl, id⟩

theorem keeps_markAdcs (bit : Nat) (ms : List Nat) : Keeps s (s.markAdcs bit ms) := keeps_foldl _ _ fun s _ => keeps_sample s _

theorem keeps_rlSync : Keeps s s.rlSync :=
  keeps_foldl _ _ fun s _ => keeps_ite (Keeps.refl s) <| (keeps_lower ..).after <| (keeps_setPort ..).after (keeps_wr s _ 0)

theorem keeps_injResume (g : Nat) : Keeps s (s.injResume g) := by
  rw [State.injResume]; exact keeps_ite (keeps_wr ..) (Keeps.refl s)

theorem keeps_injSuspend (g : Nat) : Keeps s (s.injSuspend g) := by
  rw [State.injSuspend]; exact keeps_ite ((keeps_rlSync _).after (keeps_wr ..)) (Keeps.refl s)

theorem keeps_loMoved (g : Nat) : Keeps s (s.loMoved g) := ⟨rfl, id⟩

theorem keeps_loCalAbort (g : Nat) : Keeps s (s.loCalAbort g) := by
  rw [State.loCalAbort]
  refine keeps_ite ?_ (Keeps.refl s)
  exact (keeps_wr ..).after <| (keeps_wr ..).after <| (keeps_wr ..).after <| (keeps_loMoved ..).after (keeps_rf ..)

theorem keeps_loOff (g : Nat) : Keeps s (s.loOff g) :=
  (keeps_injSuspend ..).after <| (keeps_loCalAbort ..).after (keeps_markAdcs ..)

theorem keeps_rfLeaves (p : Nat) : Keeps s (s.rfLeaves p) := by
  rw [State.rfLeaves]
  refine (keeps_rlSync _).after <| (keeps_foldl _ _ fun t g => keeps_wr t _ 0).after <| Keeps.after (keeps_foldl _ _ fun t g => ?_) <|
    (keeps_wr ..).after (keeps_markAdcs ..)
  exact (keeps_injResume ..).after (keeps_loCalAbort ..)

theorem keeps_leavesRun (d : Nat) : Keeps s (s.leavesRun d) := by
  rw [State.leavesRun]
  refine keeps_ite (keeps_rfLeaves ..) <| keeps_ite ((keeps_power ..).after (keeps_rlSync s)) <| keeps_ite (keeps_power ..) <|
    keeps_ite (keeps_foldl _ _ fun t n => keeps_wr t _ 0) (Keeps.refl s)

/-! ### The states of the domains -/

theorem keeps_settleOnce : Keeps s s.settleOnce := by
  refine keeps_oneCycle s fun s => ?_
  refine Keeps.after (keeps_foldl _ _ (keeps_ownersLeave · s)) <|
    Keeps.after (keeps_foldl _ _ fun t d => keeps_ite (keeps_leavesRun ..) (Keeps.refl t)) <|
    Keeps.after (keeps_ite (keeps_foldl _ _ fun t n => keeps_ite (keeps_txnAbort ..) (Keeps.refl t)) (Keeps.refl _)) <|
    Keeps.after (keeps_ite (keeps_ite (keeps_preempt ..) (keeps_exitSafe ..)) (Keeps.refl _)) <| keeps_foldl _ _ fun t i => ?_
  exact (keeps_wr ..).after <| (keeps_wr ..).after <| (keeps_whenB _ _ (keeps_mark ..)).after (keeps_wr ..)

theorem keeps_settle : Keeps s s.settle := by
  rw [State.settle]
  refine Keeps.after (keeps_ite ?_ (keeps_ite ?_ (Keeps.refl _))) ((keeps_settleOnce _).after (keeps_hardwareVotes s))
  · exact (keeps_settleOnce _).after (keeps_foldl _ _ fun t k => keeps_setTriggerVotes t k 0)
  · exact (keeps_settleOnce _).after (keeps_hardwareVotes _)

theorem keeps_wake (cause mask : Nat) : Keeps s (s.wake cause mask) := by
  rw [State.wake]
  refine (keeps_settle _).after <| Keeps.after (keeps_foldl _ _ fun s d => ?_) <| (keeps_event ..).after (keeps_wr ..)
  exact keeps_ite ((keeps_wr ..).after (keeps_vote ..)) (Keeps.refl s)

end Sys2Proof.Machine
end

