-- ==== Sys2Proof/Tests/Slice0.lean ====
section
/-! SUPPORT. Tests. For every statement that has hypotheses, states and operands that meet those of each of its clauses together; ill-formed
commands that the check refuses; steps whose results are worked out by hand from the spec. -/

namespace Sys2Proof.Tests

open Sys2Proof.Machine

set_option maxRecDepth 20000
set_option Elab.async false

/-! ### States -/

/-- Every domain in Run. -/
def W.run : State := { regs := (List.range 18).map fun d => (0x4001010C + 8 * d, 2) }

/-- A state with the given fields written. -/
def W.st (l : List (Fld × Nat)) (s : State := W.run) : State := l.foldl (fun s e => s.wr e.1 e.2) s

/-- The strap as sampled. -/
def W.sel (n : Nat) : State := { W.run with host := { sel := n } }

/-- Transaction 3 in the given state, held by core 0. -/
def W.txn (t : TxnState) (j : List JEntry := []) (s : State := W.run) : State := { s with txns := [(3, { state := t, owner := 1, journal := j })] }

/-- Claim of a resource by core 0. -/
def W.claim (r : Nat) (s : State := W.run) : State := { s with claims := { owner := [(r, 1)] } }

def W.flr : State := { W.sel 0 with txns := [(3, { state := .opened, owner := 16 })], claims := { owner := [(0x1000, 16), (0x2000, 17)] } }

/-- Device time exists and TP0 is enabled. -/
def W.dt : State := { W.st [(F.TP_CFG_EN 0, 1)] with time := { kyo := { valid := true } } }

def W.tail : State := W.st [(⟨Reg.LYZ_CTX_QBASE_LO 7, 0, 32⟩, 0x10005000), (F.LYZ_CTX_QCFG_LOG2SIZE 7, 4), (F.LYZ_CTX_QTAIL_INDEX 7, 14)] (W.sel 1)

/-- The same of transaction 1. -/
def W.txn1 (t : TxnState) (j : List JEntry := []) : State := { W.run with txns := [(1, { state := t, owner := 1, journal := j })] }

/-- Every ADPLL enabled, in the given state, its loop hunting, with its reference and one band entry. -/
def W.pll (st : Nat) (ref : Nat := 1) : State :=
  let s := (List.range 6).foldl (fun s p => W.st [(F.PLL_CTRL_EN p, 1), (F.PLL_CTRL_AUTO_RETURN p, 1), (F.PLL_STAT_STATE p, st),
    (F.PLL_STAT_REF_OK p, ref), (F.PLL_STAT_OUT_PLL p, 1)] s) W.run
  { s with rf := { plls := (List.range 6).map fun p => (p, { locking := true, clamp := 4095 }) } }

/-- A band calibration running. -/
def W.cal (p : Nat) : State := W.st [(F.PLL_STAT_CAL_BUSY p, 1)]

def W.mon : State := W.st [(F.CLK_REFCFG_A_EN, 1), (F.CLK_REFCFG_B_EN, 1)]

/-- Long after reset, REFIN_B is on every ADPLL. -/
def W.pps : State := { W.mon with now := 10 ^ 9 }

/-- The LO synthesisers locked and every group injecting into every port; tuners searching where asked. -/
def W.rf : State := W.st ([(F.PLL_STAT_STATE 0, 2), (F.PLL_STAT_STATE 1, 2), (F.PLL_STAT_STATE 2, 2)] ++
  (List.range 3).flatMap fun g => [(injState g, 1), (F.INJ_GRP_CFG_PORT_MASK g, 15)])

def W.injWait (go : Bool) (m : Nat) (s : State := W.rf) : State := { s with rf := { injWait := some ⟨go, m⟩ } }

/-- Port 3 with its bias on, a short that has lasted, and a search under way. -/
def W.port : State :=
  { W.st [(F.RFP_CTRL_BIAS_EN 3, 1), (F.RFP_BIAS_SHORT 3, 1), (F.RFP_STAT_TUNE_BUSY 3, 1)] W.rf with
    rf := { ports := [(3, { shortRun := 300, openRun := 1, lowRl := 1 })] } }

def W.tripped : State := W.st [(F.RFP_BIAS_TRIPPED 3, 1)] W.port

def W.calRun (g : Nat) (n : Nat := 0) : State :=
  { W.st [(calBusy g, 1)] W.rf with rf := { calRunning := put 0 [] g n } }

def W.blank : State := W.st [(F.ADC_BLANK_CFG_EN 3, 1), (F.ADC_BLANK_MASK_MASK 3, 0x801), (F.ADC_BLANK_CFG_GLITCH 3, 5)]

/-- A word of memory for each address. -/
def W.mem (l : List (Nat × Nat)) (s : State := W.run) : State := l.foldl (fun s e => s.st32 e.1 (BitVec.ofNat 32 e.2)) s

/-- CTRL of a track. -/
def W.ctrl (st en pod stream stack : Nat) : Nat := st + 8 * en + 16 * pod + 128 * stream + 16384 * stack

/-- The blocks of a stream that runs: one open, one that awaits its samples, one complete, one whose window has closed. -/
def W.blocks : List Block :=
  [{ seq := 6, tag := 0 }, { seq := 5, tag := 2 ^ 62, ended := true }, { seq := 4, tag := 2 ^ 61, ended := true, complete := true },
   { seq := 3, tag := 2 ^ 60, ended := true, complete := true, window := false }]

/-- Stream 23 runs from page 0; tracks 0 and 4095 of pod 5 wait for its blocks 3 and 4. -/
def W.stream : State :=
  let s := W.mem [(ctxAddr 0, W.ctrl 3 1 5 23 4), (ctxAddr 0 + 8, 4), (ctxAddr 0 + 0x58, 2 ^ 30), (ctxAddr 0 + 0x80, 2640), (ctxAddr 0 + 0x84, 1023),
    (ctxAddr 4095, W.ctrl 3 1 5 23 4), (ctxAddr 4095 + 8, 3)]
  { W.st [(F.CHZ_STR_CFG_EN 23, 1), (F.CHZ_STR_STAT_STATE 23, 2), (F.RING_STR_ALLOC_DEPTH 23, 4), (F.PLL_STAT_STATE 3, 2),
      (F.POD_CTRL_EN 5, 1), (F.POD_STAT_STATE 5, 1)] s with
    sample := { streams := [(23, { nextSeq := 7, cfg := { depth := 4 }, blocks := W.blocks })] }
    claims := { owner := [(0x7000, 1)] } }

/-- The same with one block, as given. -/
def W.one (b : Block) (newest : Option Block := none) : State :=
  { W.stream with sample := { streams := [(23, { nextSeq := 7, cfg := { depth := 4 }, blocks := [b], newest })] } }

def W.newest : State := W.one { seq := 6, tag := 0 } (some { seq := 4, tag := 2 ^ 61, ended := true, complete := true })

/-- Stream 23 is enabled and has not started. -/
def W.starts : State := { W.stream.wr (F.CHZ_STR_STAT_STATE 23) 1 with sample := {} }

def W.pinDrop : State := W.one { seq := 5, tag := 2 ^ 62, ended := true, reasons := pinDropBit }

def W.swept : State :=
  { W.stream with fabric := { pods := [(5, { sweep := some ⟨23, 4, [(0, 0), (7, 9)], 7⟩ })] } }

/-- Tracks 0 (off, in order), 1 (off, its STACK out of range), 2 (enabled), 4095 (a MOVE and a STOP wait). -/
def W.trks : State :=
  { W.mem (s := W.st [(F.TRK_SCRUB_CLEARING, 0)]) [(ctxAddr 0, W.ctrl 3 0 5 23 20), (ctxAddr 0 + 0x80, 2640), (ctxAddr 0 + 8, 99), (ctxAddr 1, W.ctrl 3 0 5 23 21),
     (ctxAddr 2, W.ctrl 3 1 5 23 4), (ctxAddr 4095, W.ctrl 3 1 5 23 4)] with
    fabric := { tracks := [(4095, { stopping := true, moveTo := some 5, byCommand := true })], scrubAt := 524286 } }

def W.clearing : State := W.st [(F.TRK_SCRUB_CLEARING, 1)] W.trks

/-- Only block 4 of the stream is held. -/
def W.single : State :=
  { W.stream with
    sample := { streams := [(23, { nextSeq := 7, cfg := { depth := 4 }, blocks := [{ seq := 4, cfg := { depth := 4 }, tag := 2 ^ 61, ended := true, complete := true }] })] }
    fabric := { tracks := [(0, { admitted := [4] })] } }

def W.verdict : State := { W.single with fabric := { pods := [(5, { verdict := [7] })] } }

/-- Stream 23 is at SEQ 1,004, START_SEQ as given. -/
def W.behind (n : Nat) : State :=
  { W.st [(F.TRK_START_SEQ_SEQ, n)] W.trks with sample := { streams := [(23, { nextSeq := 1004, cfg := { depth := 4 } })] } }

/-- Engine `e` ready at word `pc` with the given registers: a track program, a context or a DMA program channel that runs. -/
def W.eng (e : Nat) (g : List (Nat × Word)) (pc : Nat := 5) (s : State := W.run) : State :=
  { W.st (if e < 32 then [] else if e < 40 then [(F.LYZ_CTX_STAT_STATE (e - 32), 2)] else [(F.DMA_PCH_STAT_STATE (e - 40), 1)]) s with
    lyz := { engines := [(e, { on := decide (e < 32), g, pc, track := if e < 32 then 4095 else 0 })] } }

/-- The stack sums of track 4095: taps 0–3 and PE. -/
def W.sums : List (Nat × Nat) :=
  [(ctxAddr 4095 + 0xE0, 300), (ctxAddr 4095 + 0xE4, 5), (ctxAddr 4095 + 0xE8, 100), (ctxAddr 4095 + 0xEC, 0xFFFFFFF0),
   (ctxAddr 4095 + 0xF4, 77), (ctxAddr 4095 + 0xF8, 0x80000000), (ctxAddr 4095 + 0xFC, 0x80000000), (ctxAddr 4095 + 0x140, 0x70000000),
   (ctxAddr 4095 + 0x144, 0x60000000), (ctxAddr 4095 + 0x148, 0x50000000), (ctxAddr 4095 + 0x14C, 0x7FFFFFFF), (ctxAddr 4095 + 0x150, 0x7FFFFFF0),
   (ctxAddr 4095 + 0x1F4, 0x40000000), (ctxAddr 4095 + 0x1F8, 0x7FFFFFFF), (ctxAddr 4095 + 0x1FC, 0x80000000),
   (ctxAddr 4095 + 0x3C, 0x80000001)]

def W.track (g : List (Nat × Word)) : State := W.st [(F.LYZ_CTRL_TRKEV_EN, 0)] <| W.eng 23 g 131071 (W.mem (W.sums ++ [(ctxAddr 4095 + 0x68, 20 + 19 * 1024 + 2 ^ 26 * 60), (ctxAddr 4095 + 0xC4, 0x0100F000), (ctxAddr 4095 + 0x58, 5), (ctxAddr 4095 + 0x44, 0x7FFFFFF0)]))

/-- Tracks 7 and 4095 are listed for pod 5's sequencers, of which 3 is free. -/
def W.listed : State :=
  { W.mem [(ctxAddr 7 + 4, 9), (ctxAddr 4095 + 4, 8), (ctxAddr 7, 0x1000), (ctxAddr 4095 + 8, 44), (ctxAddr 4095 + 0x0C, 55)] (W.st [(F.POD_CTRL_EN 5, 1)]) with
    fabric := { pods := [(5, { listed := [7, 4095] })], tracks := [(4095, { busy := true })] } }

def W.retire : State :=
  { W.listed with lyz := { engines := [(23, { on := true, track := 4095, effects := [.set 0x44 0 32 0x12345] })] } }

/-- The same with an engine written out. -/
def W.engine (e : Nat) (x : Engine) (s : State := W.run) : State := { W.eng e [] 0 s with lyz := { engines := [(e, { x with on := decide (e < 32) })] } }

def W.g12 : List (Nat × Word) := [(1, 0x10001000), (2, 0x10002000), (3, 16)]

/-- Context 7 IDLE and enabled with an entry of the given words in front. -/
def W.queue (op : List Nat) (l : List (Fld × Nat) := []) : State :=
  W.mem ((List.range 8).map fun j => (0x10005000 + 32 * 7 + 4 * j, op.getD j 0)) (W.st ([(⟨Reg.LYZ_CTX_QBASE_LO 7, 0, 32⟩, 0x10005000),
    (F.LYZ_CTX_STAT_STATE 7, 1), (⟨Reg.LYZ_CTRL, 7, 1⟩, 1), (F.LYZ_CTX_QTAIL_INDEX 7, 0), (F.LYZ_CTX_QHEAD_INDEX 7, 7)] ++ l) W.run)

/-- Context 7 waits. -/
def W.waits (w : Wait) (l : List (Fld × Nat) := []) : State :=
  { W.st ([(F.LYZ_CTX_STAT_STATE 7, 3)] ++ l) W.run with
    lyz := { engines := [(39, { wait := w, pc := 9, g := W.g12 })] }, now := 100
    time := { kyo := { valid := true, dt := 2 ^ 60, mono := 2 ^ 50 }, pulses := [(3, { edges := 5 })] } }

/-- Device time exists. -/
def W.time (s : State) : State := { s with time := { kyo := { valid := true, dt := 2 ^ 60, mono := 2 ^ 50 } } }

def W.off (d : Nat) (s : State) : State := s.wr (F.PWR_DOM_STAT_STATE d) 0

/-- HOST and the cores hold CORE, HOST and SEQ awake. -/
def W.awake (s : State) : State := [1, 17, 18].foldl (fun s d => s.wr ⟨Reg.PWR_DOM_VOTE d, 0, 1⟩ 1) s

/-- A plan entry's words: a search of two bins of the code of track 4095 by stream 23, SNAP 1, first block 4. -/
def W.plan (spectrum : Bool) : List Nat :=
  [(if spectrum then 1 else 0) + 2 + 23 * 8 + 10 * 256, 77 + 65536 + 2 ^ 24, 0xFF100, 1, 4, 1000, 50, 2 + 160 * 65536, 0x80000000, 0, 1000, 4095, 0, 0, 0, 0]

def W.entry (slot : Nat) (phase : MillPhase) (spectrum : Bool := false) : MillEntry := {
  slot, words := (W.plan spectrum).map (BitVec.ofNat 32), gen := [2640, 1023], phase, stream := 23, rate := 0, addr := 0xFF100
  blocks := 1, first := 4 }

/-- The Mill runs over `W.stream` with three entries fetched and one plan entry waiting, the ring's last. -/
def W.mill (l : List MillEntry) (spectrum : Bool := false) (sets : List (Fld × Nat) := []) : State :=
  let s := W.mem (s := W.st ([(F.MILL_CTRL_EN, 1), (F.MILL_CTRL_UNIT_EN, 9), (F.MILL_PLAN_CFG_LOG2SIZE, 2), (F.MILL_PLAN_HEAD_INDEX, 3), (F.MILL_PLAN_TAIL_INDEX, 0),
      (⟨Reg.MILL_PLAN_BASE, 0, 32⟩, 0x10006000), (⟨Reg.MILL_HIT_BASE, 0, 32⟩, 0x10007000), (F.RING_CTRL_PIN_GUARD, 100), (F.MILL_HIT_CFG_LOG2SIZE, 2), (F.MILL_CELLS_COUNT, 0xFFFFFFFF)] ++ sets) W.stream)
    (((List.range 16).map fun j => (0x100060C0 + 4 * j, (W.plan spectrum).getD j 0)) ++ [(ctxAddr 4095 + 0x80, 2640), (ctxAddr 4095 + 0x84, 1023)])
  { s with mill := { entries := l, units := [(0, 257), (3, 0x102)] } }

/-- Three entries in flight: one to be pinned, one whose block awaits a copy, one that searches. -/
def W.three : List MillEntry :=
  [W.entry 1 .searching, { W.entry 2 .capturing with addr := 0 }, { W.entry 3 .capturing with first := 3, addr := 0x8000 }]

def W.pin (slot : Nat) : Pin := ⟨23, { seq := 4, cfg := { depth := 4 }, tag := 2 ^ 61, ended := true, complete := true }, some slot, 2⟩

def W.pinned (slot : Nat) (s : State) : State := s.setPin slot (some (W.pin 2))

def W.reusing : State := W.mem [(0x100060C0, 0x17FE)] (W.mill W.three)

/-- Track 4095 is enabled with a record not yet framed; DT is valid; SAVE is asked. -/
def W.fw (l : List (Fld × Nat) := []) : State :=
  let s := W.mem (s := W.dt) [(ctxAddr 4095, W.ctrl 3 1 5 23 4), (ctxAddr 4095 + 0x1BC, 5), (ctxAddr 4095 + 0x17C, 0xFFFFFFFF),
    (integBase, 0x00010500), (integBase + 0x14, 0x00640000), (integBase + 0x100, 0xFFFF0000)]
  { W.st ([(F.TRK_SCRUB_CLEARING, 0), (F.KYO_STATE_STATE, 0), (F.PLL_STAT_STATE 3, 2)] ++ l) s with
    nav := { config := [0x0001003F, 100, 0x00010001, 0, 0, 0x003C0000, 0] }, time := { kyo := { valid := true, dt := 2 ^ 62 } } }

/-- Kyonino is LOCKED, and the anchor of check 4 is 0 ps at 0. -/
def W.clock : State :=
  { W.fw with nav := { W.fw.nav with anchor := some ⟨0, 0⟩, wasLocked := true }, time := { kyo := { valid := true, dt := 2 ^ 62 } } }

/-- The bias of the clock, and what check 4 makes of it. -/
def W.sky (ps : Int) : Sky := { clock := some { bias := ps } }

def W.stat (ps : Int) : Stat :=
  { check := 4, key := 0, common := true, num := ps * 65536, den := 65536000, exceeds := decide (1000 < ps), below := decide (2 * ps < 1000), scope := [.all] }

/-- Kyonino in a state, with DT valid at 2^60 and the holdover registers set. -/
def W.kyo (st : Nat) (l : List (Fld × Nat) := []) (k : Kyo := {}) : State :=
  { W.st ([(F.KYO_STATE_STATE, st), (F.KYO_HOLD_E0_E0, 5000), (F.KYO_HOLD_A1_A1, 65536), (F.KYO_HOLD_A2_A2, 7), (F.KYO_HOLD_BUDGET_NS, 5), (F.KYO_CTRL_SQUELCH, 0),
      (F.KYO_CTRL_STEP_ALLOW, 1), (F.KYO_STEP_THRESH_THRESH, 1000), (F.KYO_ADDEND_HI_INT_HI, 2), (F.KYO_ADDEND_LO_INT_LO, 0x08D55555)] ++ l) W.run with
    now := 60000000, time := { kyo := { k with valid := true, dt := 2 ^ 62, mono := 2 ^ 50 } } }

/-- TP3 on a 1 µs grid, DT 1 ns short of a grid point, every table measured. -/
def W.tp (n : Nat) (l : List (Fld × Nat) := []) (p : Pulse := {}) (byp : Nat := 0) : State :=
  let s := W.kyo 0 ([(F.TP_CFG_EN n, 1), (F.TP_PERIOD_PERIOD n, 1000), (F.TP_OFFSET_OFFSET n, 0), (F.TP_WIDTH_WIDTH n, 100), (F.TP_COMP_COMP n, 0),
    (F.TP_LBCFG_LB_EN, 1), (F.TP_LBCFG_TOL, 50), (F.TP_CAL_STAT_BUSY, 1), (F.PLL_STAT_STATE 3, 2), (F.KYO_STATE_SPLL_BYP, byp)] ++ l)
  { s with time := { s.time with
    kyo := { s.time.kyo with dt := 1000999 * 2 ^ 32 }, calibrated := true, newTables := some [⟨[1], 2⟩, ⟨[], 70000⟩]
    pulses := [(n, { p with table := ⟨(List.range 64).map (32 * ·), 0⟩ })] } }

/-- Channel `m` enabled for both edges with the given entries. -/
def W.capt (m : Nat) (fifo : List Capture) : State :=
  let s := W.kyo 0 [(F.CAP_CFG_EN m, 1), (F.CAP_CFG_EDGE m, 3), (F.CAP_COMP_COMP m, 70), (F.CAP_STAT_OVF m, 65535)]
  { s with time := { s.time with caps := [(m, { fifo })], ladders := [[1, 2], [3, 4, 5]] } }

/-- Trigger `k` in a state for its target, TRGk_AT at the given ns of second 1. -/
def W.trig (k ns st period late : Nat) (target : Nat := 2 ^ 61) : State :=
  let s := W.kyo 0 [(F.TRG_AT_SEC_LO_SEC_LO k, 1), (F.TRG_AT_NS_NS k, ns), (F.TRG_PERIOD_PERIOD k, period), (F.TRG_STAT_STATE k, st), (F.TRG_CFG_LATE k, late),
    (F.TRG_CFG_ARM k, 1)]
  { s with time := { s.time with trigs := [(k, { target })] } }

/-- A Sync message of domain 0 to the PTP group address, its correction field and sequence number given. -/
def W.sync (corr : Nat) (seq : Nat := 513) : List Nat :=
  [0x01, 0x1B, 0x19, 0, 0, 0, 0x02, 0, 0, 0, 0, 9, 0x88, 0xF7, 0x00, 0x02, 0, 44, 0, 0, 0, 0] ++ beBytes 8 corr ++ List.replicate 14 0 ++ beBytes 2 seq ++ List.replicate 12 0

def W.framed (port : Nat) (corr : Nat := 77) : Frame := { bytes := W.sync corr, port, prio := 7, stamp := 5, mono := 2 ^ 49 }

/-- NET runs with VLAN 1 of every port, links up on all; the ports' queues as given. -/
def W.net (l : List (Fld × Nat) := []) (q : List (Nat × List Frame) := []) (n : NetSt := {}) : State :=
  let s := W.kyo 0 ([(F.NET_CTRL_EN, 1), (F.NET_CTRL_LEARN, 1), (F.NET_VLAN_VID 63, 1), (F.NET_VLAN_VALID 63, 1), (F.NET_VLAN_MEMBER 63, 0x1F), (F.NET_VLAN_UNTAG 63, 0x17),
    (F.PTPA_CTRL_EN, 1), (F.PTPA_CTRL_TC_EN, 1), (F.PTPA_CTRL_TC_PORTS, 0xF), (F.PTPA_NTP_SERVED_COUNT, 0xFFFFFFFF), (F.NET_STAT_NOVLAN, 65535), (F.NP_CFG_MODE 3, 5), (F.NP_CFG_MODE 2, 4), (F.NP_CFG_MODE 0, 2),
    (F.NP_CFG_SPEED 2, 3)] ++
    ((List.range 4).flatMap fun p => [(F.NP_CFG_PVID p, 1), (F.NP_STAT_LINK p, 1)]) ++ l)
  { s with net := { n with queues := q } }

/-- An NTP request of a client to the device. -/
def W.ntp (mode version poll tx : Nat) (six : Bool := false) : List Nat :=
  [2, 0, 0, 0, 0, 1, 2, 0, 0, 0, 0, 9] ++ (if six then [0x86, 0xDD, 0x60, 0, 0, 0, 0, 56, 17, 64] ++ List.replicate 32 1
    else [8, 0, 0x45, 0, 0, 76, 0, 0, 0, 0, 64, 17, 0, 0, 10, 0, 0, 2, 10, 0, 0, 1]) ++
  beBytes 2 50000 ++ [0, 123, 0, 56, 0, 0, version * 8 + mode, 0, poll] ++ List.replicate 37 0 ++ beBytes 8 tx

def W.ask (mode version poll tx : Nat) (six : Bool := false) : Frame := { bytes := W.ntp mode version poll tx six, port := 3, stamp := 2 ^ 62 }

def W.stamps (k : Nat) : List TxStamp := (List.range k).map fun i => ⟨i, 2, 0, 2 ^ 62 + i⟩

/-- NP3 listens while NET is off. -/
def W.np3 (l : List (Fld × Nat) := []) (f : Option Frame := none) : State :=
  { W.off 16 (W.net ([(F.NP3_STAT_LINK, 1), (F.NP3_WAKE_CFG_EN, 1), (F.NP3_WAKE_CFG_ETYPE_EN, 1), (F.NP3_WAKE_CFG_ETYPE, 0x88F7), (F.NP3_WAKE_DOM_DOMAINS, 0x50002)] ++ l)) with
    net := { wakeFrame := f } }

/-- `k` peers, 10 m apart. -/
def W.peers (k : Nat) (self : NetSt := {}) : State :=
  W.net [] [] { self with peers := (List.range k).map fun i => ⟨100 + i, (1000 + i) ^ 2, []⟩, config := { tdom := 0x102, nodeId := 0x304, reportTo := [(false, 0xE0000005)] } }

/-- A report of the timing domain, sent at the origin. -/
def W.report (node : Nat) (sec : Nat := 1) (ms : Nat := 0) : List Nat :=
  [2, 1] ++ leBytes 2 node ++ leBytes 4 7 ++ leBytes 6 sec ++ leBytes 2 ms ++ List.replicate 16 0

/-- The given domains in the given states, with the given votes (domain, client). -/
def W.doms (l : List (Nat × Nat)) (v : List (Nat × Nat) := []) (s : State := W.run) : State :=
  W.st (l.map (fun e => (F.PWR_DOM_STAT_STATE e.1, e.2)) ++ v.map fun e => (⟨Reg.PWR_DOM_VOTE e.1, e.2, 1⟩, 1)) s

/-- Bytes in two SRAM banks, one of them retained. -/
def W.banks (s : State) : State := W.mem [(0x10000004, 5), (0x10100008, 6), (0x10700000, 7)] (W.st [(F.PWR_RET_BANKS, 0x81)] s)

/-- Tracks 4 (P0), 5 (P1) and 6 (P2) of pods 0 to 2 wait for the ripe block of stream 23. -/
def W.prf (l : List (Fld × Nat)) (n : Nat := 2) : State :=
  let cx := (List.range 3).flatMap fun i => [(ctxAddr (i + 4), W.ctrl 3 1 (i % n) 23 4 + i * 4096), (ctxAddr (i + 4) + 8, 3), (ctxAddr (i + 4) + 0x28, 0x01000010)]
  let s := { W.mem cx with
    sample := { streams := [(23, { nextSeq := 7, cfg := { depth := 5 }, blocks := W.blocks })] }, claims := { owner := [(0x7000, 1)] } }
  { W.st ([(F.CHZ_STR_CFG_EN 23, 1), (F.CHZ_STR_STAT_STATE 23, 2), (F.RING_STR_ALLOC_DEPTH 23, 5), (F.PLL_STAT_STATE 3, 2), (F.PRF_CTRL_EN, 1), (F.PRF_CTRL_PACK_EN, 1),
    (F.PRF_CAP_MW, 4000), (F.PRF_BASE_MW, 1000), (F.PRF_POD_PACK_HI, 70), (F.PRF_POD_PACK_LO, 50), (F.PRF_POD_UTIL_MAX, 90)] ++
    ((List.range 6).flatMap fun p => [(F.POD_CTRL_EN p, 1), (F.POD_STAT_STATE p, 1)]) ++ l) s with
    power := { slice := [5, 4] }, now := 10 ^ 12 }

def W.podVotes (k : Nat) : List (Fld × Nat) := (List.range k).map fun p => (⟨Reg.PWR_DOM_VOTE (8 + p), 0, 1⟩, 1)

def W.allVoted (d : Nat) : State :=
  let up := (List.range 19).filter fun e => e ≠ d ∧ e ≠ 0 ∧ !(implies e).contains d
  W.doms (((List.range 19).filter fun e => e ≠ 0).map fun e => (e, if e = d then 3 else if up.contains e then 2 else 0)) (up.map (·, 0)) { W.run with time := { kyo := { valid := true, dt := 2 ^ 62 } }, now := 10 ^ 10, power := { drainGrid := 5, drainTick := 5 } }

/-- The RTC with the given data; the registers of the staged value, trim and alarm as given. -/
def W.rtc (r : RtcSt) (l : List (Fld × Nat) := []) (s : State := W.kyo 0) : State :=
  { W.st ([(F.RTC_STG_SEC_LO_SEC_LO, 0xFFFFFFFF), (F.RTC_STG_SEC_HI_SEC_HI, 0xFFFF), (F.RTC_STG_FRAC_FRAC, 0x80000001), (F.RTC_STAT_VBAT_LOST, 1)] ++ l) s with rtc := r }

/-- The leap table holds the given entries (T, ΔAT). -/
def W.leaps (l : List (Nat × Nat)) (s : State) : State :=
  l.zipIdx.foldl (fun s e => s.ledgerSet (0x200 + 8 * e.2) 8 (e.1.1 + 2 ^ 48 * e.1.2 + 2 ^ 56)) s

/-- The four words a core submits. -/
def W.sub (d : List Nat) (s : State := W.run) : State := (List.range 4).foldl (fun s i => s.setReg (Reg.LEDGER_SUB_D i) (BitVec.ofNat 32 (d.getD i 0))) s

/-- A conversion runs. -/
def W.conv (r : RtcSt) : State := W.rtc r [(F.CAL_STATUS_BUSY, 1)]

/-- OCQ's island runs; FLT classes as given; the given levels held. -/
def W.ocq (l : List (Fld × Nat) := []) (f : SafetySt := {}) (s : State := W.kyo 0) : State :=
  { W.st ([(F.OCQ_STAT_RUN, 1), (F.FLT_CTRL_LOCK, 0), (F.CRUMB_STAT_SCAN, 0)] ++ l) s with safety := f }

/-- Pulse 3 is in an active phase. -/
def W.active (s : State) : State := (s.setPulse 3 { active := true }).setPulse 0 { active := true, placed := true }

/-- Safe state is in force, its outputs taken; the hold is over from tick 40,000 on. -/
def W.safe (l : List (Fld × Nat) := []) (f : SafetySt := {}) (t : Nat := 2 ^ 20) : State :=
  let s := W.ocq ([(F.OCQ_STAT_SAFE, 1), (F.OCQ_STAT_HOLD, 1), (F.OCQ_SAFE_CFG_AUTO_EXIT, 1), (F.OCQ_SAFE_CFG_HOLD_S, 1)] ++ l) f
  { s with ticks := t, claims := { preempted := [(0x6000, 1), (0x6003, 1)] } }

def W.crumbs (k : Nat) (c : CrumbSt := {}) (l : List (Fld × Nat) := []) : State :=
  { W.ocq ([(F.CRUMB_SEQ_SEQ, 1023)] ++ l) with crumb := { c with queue := (List.range k).map fun i => { type := 0x80 + i, payload := [BitVec.ofNat 32 i] } } }

/-- A written crumb of SEQ 4,294,967,295 in mirror B. -/
def W.scanned : State :=
  { W.st [(F.CRUMB_STAT_SCAN, 1)] ((W.ocq).stBytes (crumbAddr 1 (2 ^ 32 - 1)) (Crumb.bytes { type := 5 } (2 ^ 32 - 1))) with crumb := {} }

/-- Register channel `c` in a state, claimed by core 0, its next transfer and the one in progress as given: source, destination, count;
one region holds all of SRAM. -/
def W.bch (c st src dst n : Nat) (l : List (Fld × Nat) := []) (b : Bch := {}) (words : Nat := 70) : State :=
  let s := W.mem (s := W.claim (0x3000 + c) (W.st ([(F.DMA_BCH_STAT_STATE c, st), (⟨Reg.DMA_BCH_SRC_LO c, 0, 32⟩, src), (⟨Reg.DMA_BCH_DST_LO c, 0, 32⟩, dst),
    (F.DMA_BCH_COUNT_COUNT c, n), (⟨Reg.DMA_BCH_CUR_SRC_LO c, 0, 32⟩, src), (⟨Reg.DMA_BCH_CUR_DST_LO c, 0, 32⟩, dst), (F.DMA_BCH_CUR_COUNT_COUNT c, n),
    (F.DMA_BCH_CFG_SIZE c, 2), (F.DMA_BCH_CFG_SWAP c, 2), (F.DMA_RGN_ATTR_VALID 7, 1), (F.DMA_RGN_ATTR_PERM 7, 15), (F.DMA_RGN_BASE_BASE 7, 0x10000),
    (F.DMA_RGN_LIMIT_LIMIT 7, 0x1077F)] ++ l) (W.awake W.run))) ((List.range words).map fun i => (0x10001000 + 4 * i, 0x01020304 + i))
  { s with dma := { bch := [(c, b)], level := [(5, 7)] } }

/-- Program channel `p` in a state with the given registers, at the END word at word 0x4000400. -/
def W.pch (p st : Nat) (g : List (Nat × Word)) (word : Nat) (l : List (Fld × Nat) := []) (moved : Nat := 0) : State :=
  let s := W.bch 0 0 0x10001000 0x10002000 4 ([(F.DMA_PCH_STAT_STATE p, st), (F.DMA_PCH_PC_PC p, 77)] ++ l) {} 2
  { W.mem [(0x10001000, word)] s with
    claims := { owner := [(0x4000 + p, 1)] }
    lyz := { engines := [(40 + p, { on := false, g, pc := 0x4000400, moved, loops := [⟨1, 2, 3, 0⟩], fl := 3, ran := 5 })] } }

/-- The bytes 0x40–0xFF of the header of `W.boot`'s image, whose Ocquel image has 4 bytes or none: the two digests, the key's numbers X and Y, and
the signature (R, S) made with its private key 0x1234567890abcdef… outside this package. -/
def W.imgWords (ocq : Bool) : List Nat :=
  [0x484768a898dcef299ce1d23c6e33f775f23bec9b79beb5eb13a95ef13b6e6059,
    if ocq then 0xfd99ecfdd7c490e3a8045345ff5ba8582853f9a992e783952b39e349486fe769
    else 0x55b852781b9995a44c939b64e441ae2724b96f99c8f4fb9a141cfc9842c4b0e3] ++
  [0x471c3e758c4904285bba7e53118ed0f524adeb0757d25bd2f8e7b0d76dfa714c, 0xdd520f7aca8a8b917acc37f51de8f0c9bbe3ad858382e702dc25a12d09f7a858,
    if ocq then 0x87f257e63f8be6da92e47ef119953a37a57e735c382ef0e8b90cb9c0f97a76b8
    else 0x044e92f4e3b47eb4d594fe194bfef0f01e0f38a91e28a6b4ca860deb5af539b8,
    if ocq then 0x6b6f777138d5ede27084fa4723437fee8a3bd4f2a1be3edeffd16da27f8ebd5a
    else 0xa4ccfb57ca769034c524aecd655ed276d80ef46d98a2315cbc1e506663e807ab]

/-- The SHA-256 of its public key. -/
def W.imgKey : Nat := 0x9d31f5f0a2c6f5eb6a484a49becca5e8a6c2b3920e9d61707da2fcebd32a88cb

/-- The boot is due with the given boot state; the slot holds a signed image of 8 bytes for 0x10002000 and an Ocquel image of 4 or none. -/
def W.boot (k : Nat) (b : BootSt := {}) (ocq : Bool := true) : State :=
  let base := slotBase k
  let s := W.mem [(base, 0x4D495242), (base + 4, 1), (base + 8, 0x00010203), (base + 0x0C, 5), (base + 0x10, 8), (base + 0x14, 0x10002000), (base + 0x18, 0x10002004),
      (base + 0x1C, if ocq then 4 else 0), (base + 0x100, 0x11223344), (base + 0x104, 0x55667788), (base + 0x108, 0x99AABBCC)]
  { (W.imgWords ocq).zipIdx.foldl (fun s e => s.stBytes (base + 0x40 + 32 * e.2) (leBytes 32 e.1)) s with
    boot := { b with ptrA := { b.ptrA with valid := true, active := k }, due := true, keys := [(1, W.imgKey)] } }

/-- A session over SVC, the lock's holder and the staging record as given. -/
def W.svc (holder : Nat) (r : Option Staging := none) (l : List (Fld × Nat) := []) (b : BootSt := {}) : State :=
  { W.st ([(F.NP_STAT_LINK 3, 1), (F.SVC_CNT_FRAMES, 0xFFFF), (F.SVC_CNT_DROPPED, 0xFFFF), (F.SVC_STAT_IDLE_S, 60)] ++ l) with boot := { b with holder, staging := r, session := if holder = 2 then 255 else 0 } }

def W.staged (k : Nat) : Staging := { slot := 0, state := 1, id := 7, count := 3, got := (List.range k).map (·, 1) }

/-- Bytes of every kind of memory, a transaction, a claim and an engine. -/
def W.full : State :=
  let s := W.mem [(0x04000000, 1), (0x04010000, 2), (0x10001000, 3), (0x20000000, 4), (0x4E000000, 5)] (W.ocq [(F.RTC_STAT_SET, 1), (F.CRUMB_SEQ_SEQ, 9)] { level := [(52, 1), (67, 1)], fatal := true })
  { s with txns := [(3, { state := .opened, owner := 1 })], claims := { owner := [(0x1000, 1)] }, lyz := { engines := [(39, { pc := 9 })] }
           rtc := { count := 2 ^ 40, apply := some 5 }, time := { record := some ⟨1, 2, 3⟩ }, boot := { window := true, holder := 1 }
           hostMem := [(5, 7)] }

/-! ### Base (02) -/

def W.accessesAnswered1 : State := {}
def W.hostsReachMemory1 : State := W.sel 1
def W.hostsReachMemory2 : State := W.sel 2
def W.txnOpensAndAborts1 : State := W.txn .opened
def W.txnOpensAndAborts3 : State := W.txn .landing
def W.txnCommits1 : State := W.txn .opened [⟨0x40078000, 1⟩]
def W.txnCommits2 : State := W.txn .opened [⟨0x40078000, 1⟩] (W.st [(F.TXN_TIMEOUT_MS, 1)] { W.run with now := 10^12 })
def W.txnCommits4 : State := W.txn .opened [] W.dt
def W.txnCommits5 : State := W.txn .armed [⟨0x40078000, 1⟩] W.dt
def W.rwtWrites1 : State := W.txn1 .landing
def W.rwtWrites2 : State := W.txn1 .opened
def W.rwtWrites3 : State := W.txn1 .opened [⟨0x40078000, 1⟩]
def W.rwtWrites4 : State := W.txn1 .opened (List.replicate 256 ⟨0x40078004, 1⟩)
def W.claimsHold1 : State := W.claim 0x103F
def W.claimsHold2 : State := W.claim 0x1010
def W.txnCommits7 : State := W.st [(F.TXN_CTRL_LATE_POLICY, 8)] (W.txn .opened [] W.dt)

theorem witness_MemoryWriteStores_1 :
    W.run.inRun 0 = true ∧ W.run.inRun 1 = true ∧ W.run.heard 3 = true ∧ (4 = 1 ∨ 4 = 2 ∨ 4 = 4) ∧
    (2 ^ 28) % 4 = 0 ∧ (2 ^ 28) ≤ (2 ^ 28) ∧ (2 ^ 28) + 4 ≤ 0x10780000 ∧ (4 = 4 ∨ W.run.badIn (2 ^ 28) 4 = false) := by decide +kernel

theorem witness_AccessesAnswered_1 :
    W.accessesAnswered1.inRun 0 = true ∧ inRegs 0x40078000 = true ∧ 0x40078000 % 4 = 0 ∧
    (W.accessesAnswered1.heard 3 = true ∨ W.accessesAnswered1.hostAsleep 3 = true) ∧ W.accessesAnswered1.answers 0x40078000 = false := by decide +kernel

theorem witness_AccessesAnswered_2 :
    W.run.inRun 0 = true ∧ inRegs 0x40010028 = true ∧ 0x40010028 % 4 = 0 ∧ W.run.heard 3 = true ∧
    W.run.answers 0x40010028 = true ∧ named 0x40010028 = false := by decide +kernel

theorem witness_HostsReachMemory_1 :
    W.hostsReachMemory1.hostUp 17 = true ∧ W.hostsReachMemory1.inRun 1 = true ∧ (2 ^ 28) % 4 = 0 ∧
    1 ≤ [0x12345678].length ∧ [0x12345678].length ≤ 256 ∧ (2 ^ 28) ≤ (2 ^ 28) ∧ (2 ^ 28) + 4 * [0x12345678].length ≤ 0x10780000 ∧
    17 = 17 ∧ 4096 ≤ 4096 ∧ 1 ≤ 1 ∧ (2 ^ 28) + 4 * 1 ≤ 0x10780000 ∧ W.hostsReachMemory1.badIn (2 ^ 28) (4 * 1) = false ∧ 1 ≤ 256 ∧
    1 ≤ 1023 := by decide +kernel

theorem witness_HostsReachMemory_2 :
    W.hostsReachMemory1.hostUp 17 = true ∧ W.hostsReachMemory1.inRun 1 = true ∧ 0x1077FFFC % 4 = 0 ∧
    (true = false ∨ 4096 < 4097) ∧ 17 = 17 := by decide +kernel

theorem witness_HostsReachMemory_3 :
    W.hostsReachMemory2.hostUp 18 = true ∧ W.hostsReachMemory2.inRun 1 = true ∧ 0x1077FFFC % 4 = 0 ∧
    (false = false ∨ 4096 < 4) ∧ 18 = 18 := by decide +kernel

theorem witness_HostQueuesAndReset_1 :
    W.tail.hostUp 17 = true ∧ W.tail.inRun 1 = true ∧ 7 < 8 ∧
    (List.replicate 8 3).length = 8 * 1 ∧ 4096 ≤ 4096 ∧ W.tail.queueFill 7 + 1 < W.tail.queueSz 7 ∧
    W.tail.rd (F.LYZ_CTX_QTAIL_INDEX 7) < W.tail.queueSz 7 ∧ W.tail.on (F.LYZ_CTX_QCFG_HOSTMEM 7) = false ∧
    (2 ^ 28) ≤ W.tail.queueAddr 7 0 ∧ W.tail.queueAddr 7 0 + 32 * W.tail.queueSz 7 ≤ 0x10780000 ∧ W.tail.inRun 0 = true ∧
    W.tail.inRun 17 = true ∧ W.tail.heard 17 = true ∧ 17 ≠ 18 := by decide +kernel

theorem witness_HostQueuesAndReset_2 :
    W.tail.hostUp 17 = true ∧ W.tail.inRun 1 = true ∧ 7 < 8 ∧
    (List.replicate 40 3).length = 8 * 5 ∧ 4096 ≤ 4096 ∧ W.tail.queueSz 7 ≤ W.tail.queueFill 7 + 5 := by decide +kernel

theorem witness_HostQueuesAndReset_3 :
    W.flr.hostUp 16 = true := by decide +kernel

theorem witness_TxnOpensAndAborts_1 :
    W.run.inRun 1 = true ∧ W.run.heard 1 = true ∧ 3 < 4 ∧ 0 < 3 ∧ (1 < 24 ∨ 55 < 1) ∧
    (W.run.txn 3).state = TxnState.idle := by decide +kernel

theorem witness_TxnOpensAndAborts_2 :
    W.txnOpensAndAborts1.inRun 1 = true ∧ W.txnOpensAndAborts1.heard 1 = true ∧ 3 < 4 ∧ 0 < 3 ∧
    (1 < 24 ∨ 55 < 1) ∧ (W.txnOpensAndAborts1.txn 3).state ≠ TxnState.idle ∧ (W.txnOpensAndAborts1.txn 3).held = true ∧
    (W.txnOpensAndAborts1.txn 3).owner = 1 ∧ (W.txnOpensAndAborts1.txn 3).state = TxnState.opened ∧ 0 = 0 := by decide +kernel

theorem witness_TxnOpensAndAborts_3 :
    W.txnOpensAndAborts1.inRun 1 = true ∧ W.txnOpensAndAborts1.heard 1 = true ∧ 3 < 4 ∧ 1 < 3 ∧
    (1 < 24 ∨ 55 < 1) ∧ (W.txnOpensAndAborts1.txn 3).state = TxnState.opened ∧ (W.txnOpensAndAborts1.txn 3).owner = 1 ∧ 1 = 1 := by decide +kernel

theorem witness_TxnOpensAndAborts_4 :
    W.txnOpensAndAborts1.inRun 1 = true ∧ W.txnOpensAndAborts1.heard 1 = true ∧ 3 < 4 ∧ 2 < 3 ∧
    (1 < 24 ∨ 55 < 1) ∧ (W.txnOpensAndAborts1.txn 3).state = TxnState.opened ∧ (W.txnOpensAndAborts1.txn 3).owner = 1 ∧ 2 = 2 := by decide +kernel

theorem witness_TxnOpensAndAborts_5 :
    W.txnOpensAndAborts1.inRun 1 = true ∧ W.txnOpensAndAborts1.heard 2 = true ∧ 3 < 4 ∧ 0 < 3 ∧
    (2 < 24 ∨ 55 < 2) ∧ (W.txnOpensAndAborts1.txn 3).state ≠ TxnState.idle ∧ (W.txnOpensAndAborts1.txn 3).owner ≠ 2 := by decide +kernel

theorem witness_TxnCommits_1 :
    3 < 4 ∧ (1 < 24 ∨ 55 < 1) ∧ (List.map (fun x => x.addr) (W.txnCommits1.txn 3).journal).Nodup ∧
    W.txnCommits1.inRun 1 = true ∧ W.txnCommits1.heard 1 = true ∧ (W.txnCommits1.txn 3).state = TxnState.opened ∧
    (W.txnCommits1.txn 3).owner = 1 ∧ W.txnCommits1.inRun 15 = true ∧
    if false = true then W.txnCommits1.on (F.TP_CFG_EN 0) = true else ¬(W.txnCommits1.dtOk = true ∧
    W.txnCommits1.txnAt 3 ≤ W.txnCommits1.time.kyo.dt) := by decide +kernel

theorem witness_TxnCommits_2 :
    3 < 4 ∧ (1 < 24 ∨ 55 < 1) ∧ (List.map (fun x => x.addr) (W.txnCommits2.txn 3).journal).Nodup ∧
    ((W.txnCommits2.txn 3).state = TxnState.opened ∨ (W.txnCommits2.txn 3).state = TxnState.failed) ∧
    W.txnCommits2.rd F.TXN_TIMEOUT_MS ≠ 0 ∧ W.txnCommits2.ranMs (Timer.txn 3) (W.txnCommits2.rd F.TXN_TIMEOUT_MS) = true := by decide +kernel

theorem witness_TxnCommits_3 :
    3 < 4 ∧ (1 < 24 ∨ 55 < 1) ∧ (List.map (fun x => x.addr) (W.txnCommits4.txn 3).journal).Nodup ∧
    W.txnCommits4.inRun 1 = true ∧ W.txnCommits4.heard 1 = true ∧ W.txnCommits4.inRun 15 = true ∧
    (W.txnCommits4.txn 3).state = TxnState.opened ∧ (W.txnCommits4.txn 3).owner = 1 ∧ W.txnCommits4.dtOk = true ∧
    W.txnCommits4.txnAt 3 ≤ W.txnCommits4.time.kyo.dt ∧ (W.txnCommits4.rd F.TXN_CTRL_LATE_POLICY).testBit 3 = false := by decide +kernel

theorem witness_TxnCommits_4 :
    3 < 4 ∧ (1 < 24 ∨ 55 < 1) ∧ (List.map (fun x => x.addr) (W.txnOpensAndAborts3.txn 3).journal).Nodup ∧
    (W.txnOpensAndAborts3.txn 3).state = TxnState.landing := by decide +kernel

theorem witness_TxnCommits_5 :
    3 < 4 ∧ (1 < 24 ∨ 55 < 1) ∧ (List.map (fun x => x.addr) (W.txnCommits5.txn 3).journal).Nodup ∧
    W.txnCommits5.armedDue 3 = true := by decide +kernel

theorem witness_RwtWrites_1 :
    W.run.answers 0x40078000 = true ∧ W.run.heard 1 = true ∧ tdOf 0x40078000 = some 1 ∧
    rwtMask 0x40078000 ≠ 0 ∧ (W.run.txn 1).state = TxnState.idle ∧ W.run.rwtCode 1 1 0x40078000 5 = 0 ∧ 0x40078000 ≤ 0x40078000 ∧
    0x40078000 < 0x40079000 := by decide +kernel

theorem witness_RwtWrites_2 :
    W.rwtWrites1.answers 0x40078000 = true ∧ W.rwtWrites1.heard 1 = true ∧ tdOf 0x40078000 = some 1 ∧
    rwtMask 0x40078000 ≠ 0 ∧ ((W.rwtWrites1.txn 1).state = TxnState.landing ∨ (W.rwtWrites1.txn 1).held = true ∧
    (W.rwtWrites1.txn 1).owner ≠ 1) := by decide +kernel

theorem witness_RwtWrites_3 :
    W.rwtWrites2.answers 0x40078000 = true ∧ W.rwtWrites2.heard 1 = true ∧ tdOf 0x40078000 = some 1 ∧
    rwtMask 0x40078000 ≠ 0 ∧ (W.rwtWrites2.txn 1).state = TxnState.opened ∧ (W.rwtWrites2.txn 1).owner = 1 ∧
    W.rwtWrites2.rwtCode 1 1 0x40078000 5 = 0 ∧ ¬((W.rwtWrites2.txn 1).journal.any fun x => decide (x.addr = 0x40078000)) = true ∧
    (W.rwtWrites2.txn 1).journal.length < 256 := by decide +kernel

theorem witness_RwtWrites_4 :
    W.rwtWrites3.answers 0x40078000 = true ∧ W.rwtWrites3.heard 1 = true ∧ tdOf 0x40078000 = some 1 ∧
    rwtMask 0x40078000 ≠ 0 ∧ (W.rwtWrites3.txn 1).state = TxnState.opened ∧ (W.rwtWrites3.txn 1).owner = 1 ∧
    W.rwtWrites3.rwtCode 1 1 0x40078000 5 = 0 ∧ ((W.rwtWrites3.txn 1).journal.any fun x => decide (x.addr = 0x40078000)) = true := by decide +kernel

theorem witness_RwtWrites_5 :
    W.rwtWrites4.answers 0x40078000 = true ∧ W.rwtWrites4.heard 1 = true ∧ tdOf 0x40078000 = some 1 ∧
    rwtMask 0x40078000 ≠ 0 ∧ (W.rwtWrites4.txn 1).state = TxnState.opened ∧ (W.rwtWrites4.txn 1).owner = 1 ∧
    W.rwtWrites4.rwtCode 1 1 0x40078000 5 = 0 ∧ ¬((W.rwtWrites4.txn 1).journal.any fun x => decide (x.addr = 0x40078000)) = true ∧
    ¬(W.rwtWrites4.txn 1).journal.length < 256 := by decide +kernel

theorem witness_ClaimsHold_1 :
    W.run.inRun 1 = true ∧ W.run.heard 1 = true ∧ validRes 4099 = true ∧
    (W.run.ownerOf 4099 = 0 ∨ W.run.ownerOf 4099 = 1) ∧ W.run.ownerOf 4099 ≠ 1 ∧ 63 < 64 ∧
    (W.run.mayConfigure 1 (4096 + 63) = false ∨ W.run.functionTaken 63 (bits 85 0 4) = true) := by decide +kernel

theorem witness_ClaimsHold_2 :
    W.claimsHold1.inRun 1 = true ∧ W.claimsHold1.heard 1 = true ∧ validRes 4159 = true ∧
    W.claimsHold1.ownerOf 4159 = 1 ∧ 63 < 64 ∧ W.claimsHold1.mayConfigure 1 (4096 + 63) = true ∧
    W.claimsHold1.functionTaken 63 (bits 85 0 4) = false := by decide +kernel

theorem witness_ClaimsHold_3 :
    W.claimsHold2.inRun 1 = true ∧ W.claimsHold2.heard 2 = true ∧ validRes 4112 = true ∧
    W.claimsHold2.ownerOf 4112 ≠ 0 ∧ W.claimsHold2.ownerOf 4112 ≠ 2 := by decide +kernel

theorem witness_TxnCommits_6 :
    3 < 4 ∧ (1 < 24 ∨ 55 < 1) ∧ (List.map (fun x => x.addr) (W.txnCommits7.txn 3).journal).Nodup ∧
    W.txnCommits7.inRun 1 = true ∧ W.txnCommits7.heard 1 = true ∧ W.txnCommits7.inRun 15 = true ∧
    (W.txnCommits7.txn 3).state = TxnState.opened ∧ (W.txnCommits7.txn 3).owner = 1 ∧ W.txnCommits7.dtOk = true ∧
    W.txnCommits7.txnAt 3 ≤ W.txnCommits7.time.kyo.dt ∧ (W.txnCommits7.rd F.TXN_CTRL_LATE_POLICY).testBit 3 = true ∧
    W.txnCommits7.commitCode 3 = 0 := by decide +kernel

/-! ### Clocks (03) -/

def W.pllLocks1 : State := W.pll 1
def W.pllLocks2 : State := W.pll 4
def W.pllLocks3 : State := W.pll 2
def W.pllLocks4 : State := W.pll 3
def W.pllLoses1 : State := W.pll 3 0
def W.clockMonitor1 : State := W.cal 5

theorem witness_PllLocks_1 :
    0 < 6 ∧ W.pllLocks1.inRun 1 = true ∧ W.pllLocks1.heard 1 = true ∧ (W.pllLocks1.pll 0).locking = true ∧
    W.pllLocks1.rd (F.PLL_STAT_STATE 0) ≠ 3 ∧ Int.natAbs 3 ≤ 10000 ∧
    (W.pllLocks1.on (F.PLL_CTRL_AUTO_RETURN 0) || (W.pllLocks1.pll 0).relock) = true ∧ (2 ^ 23) / 4096 ≤ (W.pllLocks1.pll 0).clamp ∧
    (W.pllLocks1.rd (F.PLL_STAT_STATE 0) = 1 ∨ W.pllLocks1.rd (F.PLL_STAT_STATE 0) = 4) ∧ W.pllLocks1.rd (F.PLL_STAT_STATE 0) ≠ 0 ∧
    0 < 3 ∧ 0 = 0 := by decide +kernel

theorem witness_PllLocks_2 :
    4 < 6 ∧ W.pllLocks2.inRun 1 = true ∧ W.pllLocks2.heard 1 = true ∧
    W.pllLocks2.rd (F.PLL_STAT_STATE 4) ≠ 0 ∧ 2 < 3 ∧ 2 = 2 ∧ 4 = 4 := by decide +kernel

theorem witness_PllLocks_3 :
    4 < 6 ∧ W.pllLocks2.inRun 1 = true ∧ W.pllLocks2.heard 1 = true ∧ (W.pllLocks2.pll 4).locking = true ∧
    W.pllLocks2.rd (F.PLL_STAT_STATE 4) ≠ 3 ∧
    (10000 < (-10001).natAbs ∨ (W.pllLocks2.on (F.PLL_CTRL_AUTO_RETURN 4) || (W.pllLocks2.pll 4).relock) = false) := by decide +kernel

theorem witness_PllLocks_4 :
    5 < 6 ∧ W.pllLocks3.inRun 1 = true ∧ W.pllLocks3.heard 1 = true ∧
    (W.pllLocks3.rd (F.PLL_STAT_STATE 5) = 2 ∨ W.pllLocks3.rd (F.PLL_STAT_STATE 5) = 3) ∧ W.pllLocks3.rd (F.PLL_STAT_STATE 5) ≠ 0 ∧
    1 < 3 ∧ 1 = 1 := by decide +kernel

theorem witness_PllLocks_5 :
    3 < 6 ∧ W.pllLocks4.inRun 1 = true ∧ W.pllLocks4.heard 1 = true ∧ (W.pllLocks4.pll 3).locking = true ∧
    W.pllLocks4.rd (F.PLL_STAT_STATE 3) = 3 ∧ (3 = 3 ∨ 3 = 5) ∧ (2 * Int.natAbs 7 < alignOf 3 ∨ -2 * 7 = (↑(alignOf 3) : Int)) ∧
    0xFFFFFF / 4096 ≤ (W.pllLocks4.pll 3).clamp ∧ W.pllLocks4.rd (F.PLL_STAT_STATE 3) ≠ 0 ∧ 2 < 3 ∧ 2 = 2 ∧ 3 ≠ 4 := by decide +kernel

theorem witness_PllLoses_1 :
    0 < 6 ∧ W.pllLocks3.inRun 1 = true ∧
    (W.pllLocks3.rd (F.PLL_STAT_STATE 0) = 2 ∨ W.pllLocks3.rd (F.PLL_STAT_STATE 0) = 3) ∧ W.pllLocks3.on (F.PLL_STAT_REF_OK 0) = true ∧
    (-5).natAbs ≤ 10000 ∧ W.pllLocks3.rd (F.PLL_STAT_STATE 0) ≠ 0 ∧ W.pllLocks3.on (F.PLL_CTRL_FAILOVER 0) = false ∧
    (W.pllLocks3.pll 0).input < 2 := by decide +kernel

theorem witness_PllLoses_2 :
    0 < 6 ∧ W.pllLocks3.inRun 1 = true ∧
    (W.pllLocks3.rd (F.PLL_STAT_STATE 0) = 2 ∨ W.pllLocks3.rd (F.PLL_STAT_STATE 0) = 3) ∧ W.pllLocks3.on (F.PLL_STAT_REF_OK 0) = true ∧
    10000 < Int.natAbs 10001 := by decide +kernel

theorem witness_PllLoses_3 :
    5 < 6 ∧ W.pllLoses1.inRun 1 = true ∧ W.pllLoses1.rd (F.PLL_STAT_STATE 5) = 3 ∧
    W.pllLoses1.on (F.PLL_STAT_REF_OK 5) = false ∧ W.pllLoses1.on (F.PLL_STAT_CFG_ERR 5) = false ∧ (W.pllLoses1.pll 5).input ≤ 1 := by decide +kernel

theorem witness_ClockMonitor_1 :
    W.run.inRun 1 = true ∧ W.run.heard 1 = true ∧ 5 < 6 ∧ 15 < 16 ∧ W.run.on (F.PLL_CTRL_EN 5) = false ∧
    W.run.on (F.PLL_STAT_CAL_BUSY 5) = false ∧ W.run.monChecks 4 = true ∧ 4 < 5 := by decide +kernel

theorem witness_ClockMonitor_2 :
    W.clockMonitor1.inRun 1 = true ∧ W.clockMonitor1.heard 1 = true ∧ 5 < 6 ∧
    W.clockMonitor1.on (F.PLL_STAT_CAL_BUSY 5) = true ∧ 0x3FFFFF < 2 ^ 22 ∧ 6 < 2 ^ 22 := by decide +kernel

theorem witness_ClockMonitor_3 :
    W.mon.inRun 1 = true ∧ W.mon.heard 1 = true ∧ W.mon.monChecks 0 = true ∧ 0 < 2 := by decide +kernel

theorem witness_ClockMonitor_4 :
    W.pps.inRun 1 = true ∧ W.pps.heard 1 = true ∧ W.pps.ranMs Timer.pps 1100 = true := by decide +kernel

/-! ### RF (04) -/

def W.injection1 : State := W.injWait true 7
def W.injection3 : State := { W.injWait true 5 W.run with now := 10 ^ 6 }
def W.calibrationAndBlanking1 : State := W.calRun 2
def W.calibrationAndBlanking2 : State := W.calRun 2 1
def W.calibrationAndBlanking3 : State := W.st [(calBusy 2, 1)]

theorem witness_Injection_1 :
    W.rf.inRun 7 = true ∧ W.rf.heard 1 = true ∧ W.rf.rf.injWait = none ∧
    (groupsOf 7).all W.rf.injReady = true := by decide +kernel

theorem witness_Injection_2 :
    W.run.inRun 7 = true ∧ W.run.heard 1 = true ∧ W.run.rf.injWait = none ∧
    (groupsOf 7).all W.run.injReady = false := by decide +kernel

theorem witness_Injection_3 :
    W.injection1.inRun 7 = true ∧ W.injection1.heard 1 = true ∧ W.injection1.rf.injWait ≠ none ∧
    W.injection1.rf.injWait = some { start := true, mask := 7 : InjWait } ∧ (groupsOf 7).all W.injection1.injReady = true := by decide +kernel

theorem witness_Injection_4 :
    W.injection3.inRun 7 = true ∧ W.injection3.heard 1 = true ∧
    W.injection3.rf.injWait = some { start := true, mask := 5 : InjWait } ∧ W.injection3.ranMs Timer.injWait 1 = true := by decide +kernel

theorem witness_AerialPorts_1 :
    0 < 4 ∧ W.run.inRun (3 + 0) = true ∧ W.run.heard 1 = true ∧ W.run.on (F.RFP_STAT_TUNE_BUSY 0) = false := by decide +kernel

theorem witness_AerialPorts_2 :
    0 < 4 ∧ W.rf.inRun (3 + 0) = true ∧ W.rf.heard 1 = true ∧ W.rf.injecting 0 0 = true := by decide +kernel

theorem witness_AerialPorts_3 :
    3 < 4 ∧ W.port.inRun (3 + 3) = true ∧ W.port.heard 1 = true ∧
    W.port.on (F.RFP_STAT_TUNE_BUSY 3) = true ∧ 63 < 64 ∧ W.port.on (F.RFP_CTRL_BIAS_EN 3) = true ∧ W.port.biasOn 3 = true ∧
    W.port.on (F.RFP_BIAS_SHORT 3) = true ∧ Nat.max 1 (W.port.rd (F.RFP_BIASCFG_SHORT_MS 3)) ≤ (W.port.port 3).shortRun ∧
    W.port.injecting 0 3 = true ∧ 5 < W.port.rd (F.RFP_RLCFG_THR 3) ∧ 1 ≤ (W.port.port 3).lowRl := by decide +kernel

theorem witness_AerialPorts_4 :
    3 < 4 ∧ W.port.inRun (3 + 3) = true ∧ W.port.heard 1 = true ∧ W.port.injecting 0 3 = true ∧
    W.port.rd (F.RFP_RLCFG_THR 3) ≤ 1023 := by decide +kernel

theorem witness_AerialPorts_5 :
    3 < 4 ∧ W.tripped.inRun (3 + 3) = true ∧ W.tripped.heard 1 = true ∧
    W.tripped.on (F.RFP_BIAS_TRIPPED 3) = true := by decide +kernel

theorem witness_CalibrationAndBlanking_1 :
    0 < 3 ∧ W.run.inRun 1 = true ∧ W.run.heard 1 = true := by decide +kernel

theorem witness_CalibrationAndBlanking_2 :
    2 < 3 ∧ W.calibrationAndBlanking1.inRun 1 = true ∧
    W.calibrationAndBlanking1.heard 1 = true ∧ W.calibrationAndBlanking1.on (calBusy 2) = true ∧
    W.calibrationAndBlanking1.calibrating 2 = false ∧ W.calibrationAndBlanking1.locked 2 = true ∧
    W.calibrationAndBlanking1.rd (injState 2) = 1 := by decide +kernel

theorem witness_CalibrationAndBlanking_3 :
    2 < 3 ∧ W.calibrationAndBlanking2.inRun 1 = true ∧
    W.calibrationAndBlanking2.heard 1 = true ∧ W.calibrationAndBlanking2.calibrating 2 = true := by decide +kernel

theorem witness_CalibrationAndBlanking_4 :
    2 < 3 ∧ W.calibrationAndBlanking3.inRun 1 = true ∧
    W.calibrationAndBlanking3.heard 1 = true ∧ W.calibrationAndBlanking3.on (calBusy 2) = true ∧
    W.calibrationAndBlanking3.calibrating 2 = false ∧ W.calibrationAndBlanking3.locked 2 = false := by decide +kernel

theorem witness_CalibrationAndBlanking_5 :
    2 < 3 ∧ W.blank.inRun 1 = true ∧ W.blank.heard 1 = true ∧ 3 < 4 ∧
    W.blank.inputOn (28 + 3) 0 = true ∧ W.blank.on (F.ADC_BLANK_CFG_EN 3) = true ∧ W.blank.rd (F.ADC_BLANK_CFG_GLITCH 3) ≤ 5 := by decide +kernel

/-! ### Sampling (05) -/

def W.blocksFlow1 : Block := { seq := 3, tag := 2 ^ 60, ended := true, complete := true, window := false }
def W.blocksFlow2 : Block := { seq := 5, tag := 2 ^ 62, ended := true }
def W.blocksFlow4 : Block := { seq := 4, tag := 2 ^ 61, ended := true, complete := true }
def W.blocksFlow5 : Block := { seq := 5, tag := 2 ^ 62, ended := true, reasons := pinDropBit }

theorem witness_BlocksFlow_1 :
    23 < 24 ∧ W.stream.heard 1 = true ∧ W.stream.inRun 1 = true ∧ W.stream.rd (F.PLL_STAT_STATE 3) ≠ 0 ∧
    W.stream.inRun 7 = true ∧ W.stream.streamKeeps 23 = true ∧
    List.find? (fun c => decide (c.seq % 2 ^ 32 = W.blocksFlow1.seq % 2 ^ 32) && !c.window && !c.passed) (W.stream.stream 23).blocks.reverse = some W.blocksFlow1 ∧
    (W.stream.stream 23).newest = none := by decide +kernel

theorem witness_BlocksFlow_2 :
    23 < 24 ∧ W.stream.heard 1 = true ∧ W.stream.inRun 7 = true ∧
    (W.stream.stream 23).ripe = some W.blocksFlow2 ∧ W.blocksFlow2.reasons &&& pinDropBit = 0 := by decide +kernel

theorem witness_BlocksFlow_3 :
    23 < 24 ∧ W.newest.heard 1 = true ∧ W.newest.inRun 7 = true ∧
    (W.newest.stream 23).newest = some W.blocksFlow4 := by decide +kernel

theorem witness_BlocksFlow_4 :
    23 < 24 ∧ W.starts.heard 1 = true ∧ W.starts.inRun 1 = true ∧ W.starts.rd (F.PLL_STAT_STATE 3) ≠ 0 ∧
    W.starts.inRun 7 = true ∧ W.starts.streamStarts 23 = true ∧ W.starts.streamConflicts 23 = false := by decide +kernel

theorem witness_BlocksFlow_5 :
    23 < 24 ∧ W.pinDrop.heard 1 = true ∧ W.pinDrop.inRun 7 = true ∧
    (W.pinDrop.stream 23).ripe = some W.blocksFlow5 ∧ W.blocksFlow5.reasons &&& pinDropBit ≠ 0 := by decide +kernel

/-! ### Fabric (06) -/

def W.podsSweep1 : Block := { seq := 4, cfg := { depth := 4 }, tag := 2 ^ 61, ended := true, complete := true }
def W.podsSweep3 : Block := { seq := 4, tag := 2 ^ 61, ended := true, complete := true }
def W.podsSweep4 : Sweep := ⟨23, 4, [(0, 0), (7, 9)], 7⟩
def W.trackCommands1 : State := W.behind 0
def W.podsSweep5 : State := { W.single with fabric := {} }

theorem witness_PodsSweep_1 :
    5 < 6 ∧ W.single.heard 1 = true ∧ W.single.podSweeps 5 = true ∧ (W.single.pod 5).sweep = none ∧
    (W.single.pod 5).verdict = [] ∧ earliest (W.single.candidates 5) = some (983040, 23, W.podsSweep1) ∧
    W.single.selfCheckDue 5 (W.podsSweep1.len / 16) = false ∧
    W.single.retryBars 5 ((W.single.lanesOk 5).zip (W.single.laneTracks 5 23 W.podsSweep1)) = false ∧
    (∀ (e : Nat × Nat), e ∈ W.single.ecc → e.snd ≠ 2) ∧ W.single.on (F.POD_STAT_HUSK_OK 5) = true ∧ W.single.inRun (8 + 5) = true ∧
    7 < 8 ∧ Nat.testBit 255 7 = true ∧ Nat.testBit 128 7 = true := by decide +kernel

theorem witness_PodsSweep_2 :
    5 < 6 ∧ W.swept.heard 1 = true ∧ (W.swept.pod 5).sweep = some W.podsSweep4 ∧
    W.swept.blockOf W.podsSweep4.stream W.podsSweep4.seq = some W.podsSweep3 ∧ (List.map (fun x => x.snd) W.podsSweep4.lanes).Nodup ∧
    0 < 4096 ∧ 9 < 4096 := by decide +kernel

theorem witness_PodsSweep_3 :
    5 < 6 ∧ W.verdict.heard 1 = true ∧ W.verdict.podSweeps 5 = true ∧ (W.verdict.pod 5).sweep = none ∧
    W.verdict.on (F.POD_STAT_HUSK_OK 5) = true ∧ (W.verdict.pod 5).verdict = [7] ∧ (∀ (k : Nat), k ∈ [7] → k < 8) ∧
    ¬2 ≤ (List.filter (Nat.testBit 128) (W.verdict.lanesOk 5)).length := by decide +kernel

theorem witness_PodsSweep_4 :
    5 < 6 ∧ W.verdict.heard 1 = true ∧ W.verdict.podSweeps 5 = true ∧ (W.verdict.pod 5).sweep = none ∧
    W.verdict.on (F.POD_STAT_HUSK_OK 5) = true ∧ (W.verdict.pod 5).verdict = [7] ∧ (∀ (k : Nat), k ∈ [7] → k < 8) ∧
    2 ≤ (List.filter (Nat.testBit 129) (W.verdict.lanesOk 5)).length := by decide +kernel

theorem witness_TrackCommands_1 :
    W.trks.inRun 1 = true ∧ W.trks.heard 1 = true ∧ 0 < 4096 ∧ W.trks.trkBusy = false ∧
    W.trks.trkEn 0 = false ∧ W.trks.startReason 0 = none ∧ W.trks.inRun (8 + W.trks.trkPod 0) = true ∧
    W.trks.behind (W.trks.trkStream 0) (if false = true then W.trks.rd F.TRK_START_SEQ_SEQ else W.trks.nextToComplete (W.trks.trkStream 0)) ≤ 64 ∧
    W.trks.lostOk = true := by decide +kernel

theorem witness_TrackCommands_2 :
    W.trackCommands1.inRun 1 = true ∧ W.trackCommands1.heard 1 = true ∧ 0 < 4096 ∧
    W.trackCommands1.trkBusy = false ∧ W.trackCommands1.trkEn 0 = false ∧ W.trackCommands1.startReason 0 = none ∧
    W.trackCommands1.inRun (8 + W.trackCommands1.trkPod 0) = true ∧
    64 < W.trackCommands1.behind (W.trackCommands1.trkStream 0) (if true = true then W.trackCommands1.rd F.TRK_START_SEQ_SEQ else W.trackCommands1.nextToComplete (W.trackCommands1.trkStream 0)) := by decide +kernel

theorem witness_TrackCommands_3 :
    W.trks.inRun 1 = true ∧ W.trks.heard 1 = true ∧ 1 < 4096 ∧ W.trks.trkBusy = false ∧
    W.trks.trkEn 1 = false ∧ W.trks.startReason 1 = some 1 ∧ 1 < 16 := by decide +kernel

theorem witness_TrackCommands_4 :
    W.trks.inRun 1 = true ∧ W.trks.heard 1 = true ∧ 2 < 4096 ∧ W.trks.trkBusy = false ∧
    W.trks.trkEn 2 = true ∧ (W.trks.trk 2).stopping = false ∧ 5 < 6 ∧ W.trks.inRun (8 + 5) = true := by decide +kernel

theorem witness_ContextStore_1 :
    W.trks.inRun 1 = true ∧ W.trks.heard 1 = true ∧ 4095 < 4096 ∧ W.trks.lostOk = true ∧
    (W.trks.trk 4095).stopping = true ∧ W.trks.inSweep 4095 = false ∧ W.trks.programRuns 4095 = false ∧
    (W.trks.trk 4095).byCommand = true ∧ (W.trks.trk 4095).moveTo = some 5 ∧ 5 < 6 ∧ (W.trks.trk 4095).busy = false ∧
    W.trks.stackOpens 4095 = true ∧ 0 < 512 ∧ 0 % 4 = 0 ∧ W.trks.on F.TRK_SCRUB_CLEARING = false ∧ W.trks.trkEn 4095 = true ∧ 0 < 320 ∧
    W.trks.fabric.scrubAt < 524288 ∧ 2 ≤ Nat.max 3 (look 0 W.trks.ecc (0xC000000 + W.trks.fabric.scrubAt)) := by decide +kernel

theorem witness_ContextStore_2 :
    W.trks.inRun 1 = true ∧ W.trks.heard 1 = true ∧ 4095 < 4096 ∧ W.trks.lostOk = true ∧ 320 < 512 ∧
    320 % 4 = 0 ∧ W.trks.on F.TRK_SCRUB_CLEARING = false ∧ ¬(W.trks.trkEn 4095 = true ∧ 320 < 320) ∧ W.trks.fabric.scrubAt < 524288 ∧
    Nat.max 1 (look 0 W.trks.ecc (0xC000000 + W.trks.fabric.scrubAt)) < 2 ∧
    Nat.max 1 (look 0 W.trks.ecc (0xC000000 + W.trks.fabric.scrubAt)) = 1 := by decide +kernel

theorem witness_ContextStore_3 :
    W.trks.inRun 1 = true ∧ W.trks.heard 1 = true ∧ 0 < 4096 ∧ W.trks.lostOk = true ∧
    W.trks.on F.TRK_SCRUB_CLEARING = false ∧ W.trks.fabric.scrubAt < 524288 ∧
    Nat.max 0 (look 0 W.trks.ecc (0xC000000 + W.trks.fabric.scrubAt)) = 0 := by decide +kernel

theorem witness_ContextStore_4 :
    W.clearing.inRun 1 = true ∧ W.clearing.heard 1 = true ∧ 0 < 4096 ∧ W.clearing.lostOk = true ∧
    W.clearing.on F.TRK_SCRUB_CLEARING = true := by decide +kernel

theorem look_absent (d : Byte) (a : Nat) : ∀ m : List (Nat × Byte), (∀ e ∈ m, e.1 ≠ a) → look d m a = d
  | [], _ => rfl
  | e :: m, h => by
    rw [show look d (e :: m) a = if e.1 = a then e.2 else look d m a from rfl, if_neg (h e (by simp)),
      look_absent d a m fun x hx => h x (by simp [hx])]

/-- CTRL of a track whose four bytes no write has listed enables nothing. -/
theorem trkEn_absent (s : State) (t : Nat) (hl : s.lost = []) (h : ∀ e ∈ s.mem, e.1 < ctxAddr t ∨ ctxAddr t + 3 < e.1) :
    s.trkEn t = false := by
  have a : ∀ k ≤ 3, s.byte (ctxAddr t + k) = 0 := fun k hk => by
    unfold State.byte
    rw [look_absent _ _ _ fun e he => by have := h e he; omega, hl]
    rfl
  have h1 : s.load (ctxAddr t) 4 = 0 := by
    have a0 := a 0 (by omega)
    have a1 := a 1 (by omega)
    have a2 := a 2 (by omega)
    have a3 := a 3 (by omega)
    simp only [Nat.add_zero] at a0
    simp only [State.load, Nat.add_assoc, Nat.reduceAdd, a0, a1, a2, a3]
    rfl
  simp only [State.trkEn, State.cx, State.ld32, Nat.add_zero, h1]
  rfl

/-- Where only the contexts of `l` are written, a search of the enabled tracks is one of `l`. -/
theorem any_enabled (s : State) (l : List Nat) (hl : s.lost = []) (h : ∀ e ∈ s.mem, ∃ t ∈ l, ctxAddr t ≤ e.1 ∧ e.1 < ctxAddr (t + 1))
    (hm : ∀ t ∈ l, t < 4096) (f : Nat → Bool) (hf : ∀ t, s.trkEn t = false → f t = false) : allTracks.any f = l.any f := by
  rw [Bool.eq_iff_iff, List.any_eq_true, List.any_eq_true]
  refine ⟨fun ⟨t, _, hc⟩ => ⟨t, ?_, hc⟩, fun ⟨t, ht, hc⟩ => ⟨t, List.mem_range.mpr (hm t ht), hc⟩⟩
  refine Decidable.byContradiction fun ht => ?_
  rw [hf t (trkEn_absent s t hl fun e he => ?_)] at hc
  · exact Bool.false_ne_true hc
  · obtain ⟨u, hu, h1, h2⟩ := h e he
    have : t ≠ u := fun c => ht (c ▸ hu)
    simp only [ctxAddr] at *
    omega

/-- Where no context from `n` on is written, the enabled tracks with a property lie below `n`. -/
theorem filter_enabled (s : State) (n : Nat) (hn : n ≤ 4096) (hl : s.lost = []) (h : ∀ e ∈ s.mem, e.1 < ctxAddr n ∨ ctxAddr 4096 ≤ e.1) (f : Nat → Bool)
    (hf : ∀ t, s.trkEn t = false → f t = false) : allTracks.filter f = (List.range n).filter f := by
  unfold allTracks
  have c : ((List.range (4096 - n)).map (n + ·)).filter f = [] := by
    rw [List.filter_eq_nil_iff]
    intro t ht
    obtain ⟨k, hk, rfl⟩ := List.mem_map.mp ht
    rw [hf _ (trkEn_absent s _ hl fun e he => by have := h e he; simp only [ctxAddr, List.mem_range] at *; omega)]
    decide
  have e : List.range 4096 = List.range n ++ (List.range (4096 - n)).map (n + ·) := by rw [← List.range_add]; congr 1; omega
  rw [e, List.filter_append, c, List.append_nil]

theorem candidates_near (p : Nat) : W.podsSweep5.candidates p = (List.range 24).flatMap fun n =>
    ((W.podsSweep5.stream n).blocks.filter fun b => decide (b.len / 16 + 64 ≤ W.podsSweep5.windowLeft n b) &&
      [0, 4095].any fun t => W.podsSweep5.eligible p t n b).map fun b => (W.podsSweep5.windowLeft n b, n, b) := by
  unfold State.candidates
  simp only [fun (n : Nat) (b : Block) => any_enabled W.podsSweep5 [0, 4095] rfl (by decide +kernel) (by decide) (fun t => W.podsSweep5.eligible p t n b)
    (fun t h => by simp only [State.eligible, h, Bool.false_and])]

theorem witness_PodsSweep_5 :
    5 < 6 ∧ W.podsSweep5.heard 1 = true ∧ W.podsSweep5.podSweeps 5 = true ∧
    (W.podsSweep5.pod 5).sweep = none ∧ (W.podsSweep5.pod 5).verdict = [] ∧
    (earliest (W.podsSweep5.candidates 5) = none ∨ earliest (W.podsSweep5.candidates 5) = some (983040, 23, W.podsSweep1) ∧
    (W.podsSweep5.selfCheckDue 5 (W.podsSweep1.len / 16) = true ∨ W.podsSweep5.retryBars 5 ((W.podsSweep5.lanesOk 5).zip (W.podsSweep5.laneTracks 5 23 W.podsSweep1)) = true)) := by
  rw [candidates_near]
  decide +kernel

/-! ### Track programs (07) -/

def W.arithmeticResults1 : State := W.eng 39 [(1, 0x80000000), (2, 0xFFFFFFFF), (3, 0x7FFFFFFF)]
def W.arithmeticResults2 : State := W.eng 32 [(1, 0x80000000), (2, 0xFFFFFFFF), (3, 0x7FFFFFFF)] 131071
def W.arithmeticResults3 : State := W.eng 0 [(1, 0x12345678), (2, 0x80000000), (3, 0x7FFFFFFF)]
def W.arithmeticResults4 : State := W.eng 0 [(1, 0), (2, 0x7FFFFFFF), (3, 0x80000000)]
def W.arithmeticResults5 : State := W.eng 0 [(1, 0x80000000), (2, 0x80000000), (3, 0x80000000)]
def W.arithmeticResults6 : State := W.eng 0 [(1, 0x7FFFFFFF), (2, 0x7FFFFFFF), (3, 0x7FFFFFFF)]
def W.satMagAtan1 : State := W.eng 39 [(1, 3), (2, 4)]
def W.satMagAtan2 : State := W.eng 39 [(1, 0x7FFFFFFF), (2, 0x7FFFFFFF)]
def W.satMagAtan3 : State := W.eng 39 [(1, 30000000), (2, 40000000)]
def W.satMagAtan4 : State := W.eng 0 [(1, 0x80000000), (2, 0)]
def W.satMagAtan5 : State := W.eng 0 [(1, 0xFFFFFFFE), (2, 2)]
def W.discriminatorResults1 : State := W.track [(1, 5), (2, 7)]
def W.discriminatorResults4 : State := W.track [(1, 0x80000000), (2, 0)]
def W.discriminatorResults5 : State := W.track []
def W.loopFilterUpdates1 : State := W.track [(1, 0x7FFFFFFF)]
def W.ncoEffectsHeld1 : State := W.track [(1, 0x7FFFFFFF), (2, 3)]
def W.ncoEffectsHeld2 : State := W.track [(1, 0x80000000), (2, 32)]
def W.ncoEffectsHeld3 : State := W.track [(1, 9), (2, 33)]

theorem witness_ArithmeticResults_1 :
    W.arithmeticResults1.issues 39 = true ∧
    State.fetchOk 39 (W.arithmeticResults1.eng 39).pc = true ∧ notDma (kindOf 39) = true ∧
    W.arithmeticResults1.badIn (W.arithmeticResults1.pcByte 39) 4 = false ∧ 3 < 32 ∧ 31 < 32 ∧ 65535 < 65536 ∧ 3 ≠ 0 := by decide +kernel

theorem witness_ArithmeticResults_2 :
    W.arithmeticResults2.issues 32 = true ∧
    State.fetchOk 32 (W.arithmeticResults2.eng 32).pc = true ∧ notDma (kindOf 32) = true ∧
    W.arithmeticResults2.badIn (W.arithmeticResults2.pcByte 32) 4 = false ∧ 0 < 32 ∧ 65535 < 65536 := by decide +kernel

theorem witness_ArithmeticResults_3 :
    W.arithmeticResults3.issues 0 = true ∧ State.fetchOk 0 (W.arithmeticResults3.eng 0).pc = true ∧
    notDma (kindOf 0) = true ∧ W.arithmeticResults3.badIn (W.arithmeticResults3.pcByte 0) 4 = false ∧ 1 < 32 ∧ 32768 < 65536 ∧ 1 ≠ 0 := by decide +kernel

theorem witness_ArithmeticResults_4 :
    W.arithmeticResults4.issues 0 = true ∧ State.fetchOk 0 (W.arithmeticResults4.eng 0).pc = true ∧
    notDma (kindOf 0) = true ∧ W.arithmeticResults4.badIn (W.arithmeticResults4.pcByte 0) 4 = false ∧ 3 < 32 ∧ 5 < 32 ∧ 32768 < 65536 ∧
    3 ≠ 0 := by decide +kernel

theorem witness_ArithmeticResults_5 :
    W.arithmeticResults5.issues 0 = true ∧ State.fetchOk 0 (W.arithmeticResults5.eng 0).pc = true ∧
    notDma (kindOf 0) = true ∧ W.arithmeticResults5.badIn (W.arithmeticResults5.pcByte 0) 4 = false ∧ 3 < 32 ∧ 5 < 32 ∧ 32768 < 65536 ∧
    3 ≠ 0 := by decide +kernel

theorem witness_ArithmeticResults_6 :
    W.arithmeticResults6.issues 0 = true ∧ State.fetchOk 0 (W.arithmeticResults6.eng 0).pc = true ∧
    notDma (kindOf 0) = true ∧ W.arithmeticResults6.badIn (W.arithmeticResults6.pcByte 0) 4 = false ∧ 31 < 32 ∧ 5 < 32 ∧ 32768 < 65536 ∧
    31 ≠ 0 := by decide +kernel

theorem witness_SatMagAtan_1 :
    W.satMagAtan1.issues 39 = true ∧ State.fetchOk 39 (W.satMagAtan1.eng 39).pc = true ∧
    notDma (kindOf 39) = true ∧ W.satMagAtan1.badIn (W.satMagAtan1.pcByte 39) 4 = false ∧ 3 < 32 ∧ 0 < 1 ∧ 1 < 32 ∧ 3 ≠ 0 ∧
    ¬(BitVec.toInt (W.satMagAtan1.g 39 1) = 0 ∧ BitVec.toInt (W.satMagAtan1.g 39 2) = 0) := by decide +kernel

theorem witness_SatMagAtan_2 :
    W.satMagAtan2.issues 39 = true ∧ State.fetchOk 39 (W.satMagAtan2.eng 39).pc = true ∧
    notDma (kindOf 39) = true ∧ W.satMagAtan2.badIn (W.satMagAtan2.pcByte 39) 4 = false ∧ 31 < 32 ∧ 0 < 31 ∧ 31 ≠ 0 ∧
    ¬(BitVec.toInt (W.satMagAtan2.g 39 1) = 0 ∧ BitVec.toInt (W.satMagAtan2.g 39 2) = 0) := by decide +kernel

theorem witness_SatMagAtan_3 :
    W.satMagAtan3.issues 39 = true ∧ State.fetchOk 39 (W.satMagAtan3.eng 39).pc = true ∧
    notDma (kindOf 39) = true ∧ W.satMagAtan3.badIn (W.satMagAtan3.pcByte 39) 4 = false ∧ 31 < 32 ∧ 0 < 31 ∧ 31 ≠ 0 ∧
    ¬(BitVec.toInt (W.satMagAtan3.g 39 1) = 0 ∧ BitVec.toInt (W.satMagAtan3.g 39 2) = 0) := by decide +kernel

theorem witness_SatMagAtan_4 :
    W.satMagAtan4.issues 0 = true ∧ State.fetchOk 0 (W.satMagAtan4.eng 0).pc = true ∧
    notDma (kindOf 0) = true ∧ W.satMagAtan4.badIn (W.satMagAtan4.pcByte 0) 4 = false ∧ 3 < 32 ∧ 0 < 5 ∧ 5 < 32 ∧ 3 ≠ 0 ∧
    ¬(BitVec.toInt (W.satMagAtan4.g 0 2) = 0 ∧ BitVec.toInt (W.satMagAtan4.g 0 1) = 0) := by decide +kernel

theorem witness_SatMagAtan_5 :
    W.satMagAtan4.issues 0 = true ∧ State.fetchOk 0 (W.satMagAtan4.eng 0).pc = true ∧
    notDma (kindOf 0) = true ∧ W.satMagAtan4.badIn (W.satMagAtan4.pcByte 0) 4 = false ∧ 3 < 32 ∧ BitVec.toInt (W.satMagAtan4.g 0 5) = 0 ∧
    BitVec.toInt (W.satMagAtan4.g 0 6) = 0 ∧ 3 ≠ 0 := by decide +kernel

theorem witness_SatMagAtan_6 :
    W.satMagAtan5.issues 0 = true ∧ State.fetchOk 0 (W.satMagAtan5.eng 0).pc = true ∧
    notDma (kindOf 0) = true ∧ W.satMagAtan5.badIn (W.satMagAtan5.pcByte 0) 4 = false ∧ 3 < 32 ∧ 0 < 1 ∧ 1 < 32 ∧ 3 ≠ 0 ∧
    ¬(BitVec.toInt (W.satMagAtan5.g 0 1) = 0 ∧ BitVec.toInt (W.satMagAtan5.g 0 2) = 0) := by decide +kernel

theorem witness_DiscriminatorResults_1 :
    W.discriminatorResults1.issues 23 = true ∧
    State.fetchOk 23 (W.discriminatorResults1.eng 23).pc = true ∧ onTrack (kindOf 23) = true ∧
    W.discriminatorResults1.badIn (W.discriminatorResults1.pcByte 23) 4 = false ∧ 3 < 32 ∧ 0 < 8 ∧ 1 < 8 ∧ 2 < 8 ∧ 31 < 32 ∧ 80 < 128 ∧
    W.discriminatorResults1.badIn (ctxAddr (W.discriminatorResults1.eng 23).track) 512 = false ∧ 3 ≠ 0 ∧
    (W.discriminatorResults1.tapIQ 23 2 false).fst = 0 ∧ (W.discriminatorResults1.tapIQ 23 2 false).snd ≠ 0 ∧
    W.discriminatorResults1.tapIQ 23 2 false ≠ (0, 0) ∧
    ((W.discriminatorResults1.gi 23 1, W.discriminatorResults1.gi 23 2).fst * (W.discriminatorResults1.gi 23 1, W.discriminatorResults1.gi 23 2).fst + (W.discriminatorResults1.gi 23 1, W.discriminatorResults1.gi 23 2).snd * (W.discriminatorResults1.gi 23 1, W.discriminatorResults1.gi 23 2).snd) * ((W.discriminatorResults1.tapIQ 23 2 false).fst * (W.discriminatorResults1.tapIQ 23 2 false).fst + (W.discriminatorResults1.tapIQ 23 2 false).snd * (W.discriminatorResults1.tapIQ 23 2 false).snd) ≠ 0 ∧
    ¬(W.discriminatorResults1.gi 23 1 * (W.discriminatorResults1.tapIQ 23 2 false).snd - W.discriminatorResults1.gi 23 2 * (W.discriminatorResults1.tapIQ 23 2 false).fst = 0 ∧
    W.discriminatorResults1.gi 23 1 * (W.discriminatorResults1.tapIQ 23 2 false).fst + W.discriminatorResults1.gi 23 2 * (W.discriminatorResults1.tapIQ 23 2 false).snd = 0) ∧
    0 ≤ W.discriminatorResults1.ki 23 80 := by decide +kernel

theorem witness_DiscriminatorResults_2 :
    W.discriminatorResults4.issues 23 = true ∧
    State.fetchOk 23 (W.discriminatorResults4.eng 23).pc = true ∧ onTrack (kindOf 23) = true ∧
    W.discriminatorResults4.badIn (W.discriminatorResults4.pcByte 23) 4 = false ∧ 0 < 32 ∧ 7 < 8 ∧ 6 < 8 ∧ 5 < 8 ∧ 5 < 32 ∧ 15 < 128 ∧
    W.discriminatorResults4.badIn (ctxAddr (W.discriminatorResults4.eng 23).track) 512 = false ∧
    W.discriminatorResults4.tapIQ 23 5 true = (0, 0) ∧
    ((W.discriminatorResults4.gi 23 1, W.discriminatorResults4.gi 23 2).fst * (W.discriminatorResults4.gi 23 1, W.discriminatorResults4.gi 23 2).fst + (W.discriminatorResults4.gi 23 1, W.discriminatorResults4.gi 23 2).snd * (W.discriminatorResults4.gi 23 1, W.discriminatorResults4.gi 23 2).snd) * ((W.discriminatorResults4.tapIQ 23 5 true).fst * (W.discriminatorResults4.tapIQ 23 5 true).fst + (W.discriminatorResults4.tapIQ 23 5 true).snd * (W.discriminatorResults4.tapIQ 23 5 true).snd) = 0 ∧
    W.discriminatorResults4.ki 23 15 < 0 := by decide +kernel

theorem witness_DiscriminatorResults_3 :
    W.discriminatorResults5.issues 23 = true ∧
    State.fetchOk 23 (W.discriminatorResults5.eng 23).pc = true ∧ onTrack (kindOf 23) = true ∧
    W.discriminatorResults5.badIn (W.discriminatorResults5.pcByte 23) 4 = false ∧ 31 < 32 ∧ 7 < 8 ∧ 2 < 8 ∧ 126 < 128 ∧
    W.discriminatorResults5.badIn (ctxAddr (W.discriminatorResults5.eng 23).track) 512 = false ∧
    W.discriminatorResults5.tapIQ 23 2 true = (0, 0) ∧ 31 ≠ 0 ∧
    ((W.discriminatorResults5.gi 23 1, W.discriminatorResults5.gi 23 2).fst * (W.discriminatorResults5.gi 23 1, W.discriminatorResults5.gi 23 2).fst + (W.discriminatorResults5.gi 23 1, W.discriminatorResults5.gi 23 2).snd * (W.discriminatorResults5.gi 23 1, W.discriminatorResults5.gi 23 2).snd) * ((W.discriminatorResults5.tapIQ 23 2 true).fst * (W.discriminatorResults5.tapIQ 23 2 true).fst + (W.discriminatorResults5.tapIQ 23 2 true).snd * (W.discriminatorResults5.tapIQ 23 2 true).snd) = 0 := by decide +kernel

theorem witness_LoopFilterUpdates_1 :
    W.loopFilterUpdates1.issues 23 = true ∧
    State.fetchOk 23 (W.loopFilterUpdates1.eng 23).pc = true ∧ onTrack (kindOf 23) = true ∧
    W.loopFilterUpdates1.badIn (W.loopFilterUpdates1.pcByte 23) 4 = false ∧ 3 < 32 ∧ (W.loopFilterUpdates1.eng 23).track < 4096 ∧
    W.loopFilterUpdates1.badIn (ctxAddr (W.loopFilterUpdates1.eng 23).track) 512 = false ∧ 80 ≤ 80 ∧ 80 + 3 ≤ 128 ∧ 3 ≠ 0 ∧ 80 + 5 ≤ 128 := by decide +kernel

theorem witness_LoopFilterUpdates_2 :
    W.loopFilterUpdates1.issues 23 = true ∧
    State.fetchOk 23 (W.loopFilterUpdates1.eng 23).pc = true ∧ onTrack (kindOf 23) = true ∧
    W.loopFilterUpdates1.badIn (W.loopFilterUpdates1.pcByte 23) 4 = false ∧ 1 < 32 ∧ (W.loopFilterUpdates1.eng 23).track < 4096 ∧
    W.loopFilterUpdates1.badIn (ctxAddr (W.loopFilterUpdates1.eng 23).track) 512 = false ∧
    (125 < 80 ∨ 128 < 125 + if true = true then 5 else 3) ∧ W.loopFilterUpdates1.on F.LYZ_CTRL_TRKEV_EN = false ∧
    W.loopFilterUpdates1.on F.LYZ_FLT_INFO_VALID = false := by decide +kernel

theorem witness_NcoEffectsHeld_1 :
    W.ncoEffectsHeld1.issues 23 = true ∧ State.fetchOk 23 (W.ncoEffectsHeld1.eng 23).pc = true ∧
    onTrack (kindOf 23) = true ∧ W.ncoEffectsHeld1.badIn (W.ncoEffectsHeld1.pcByte 23) 4 = false ∧ 3 < 32 ∧ 3 < 8 ∧ 3 ≠ 0 ∧
    (BitVec.toNat (W.ncoEffectsHeld1.g 23 1) % 8 = 0 ∨ BitVec.toNat (W.ncoEffectsHeld1.g 23 1) % 8 = 7) ∧
    (W.ncoEffectsHeld1.eng 23).track < 4096 ∧ W.ncoEffectsHeld1.on F.LYZ_CTRL_TRKEV_EN = false ∧
    1 ≤ BitVec.toNat (W.ncoEffectsHeld1.g 23 2) % 64 ∧ BitVec.toNat (W.ncoEffectsHeld1.g 23 2) % 64 ≤ 32 ∧ 8 < 9 := by decide +kernel

theorem witness_NcoEffectsHeld_2 :
    W.ncoEffectsHeld2.issues 23 = true ∧ State.fetchOk 23 (W.ncoEffectsHeld2.eng 23).pc = true ∧
    onTrack (kindOf 23) = true ∧ W.ncoEffectsHeld2.badIn (W.ncoEffectsHeld2.pcByte 23) 4 = false ∧ 0 < 32 ∧ 2 < 8 ∧ 0 ≤ 8 := by decide +kernel

theorem witness_NcoEffectsHeld_3 :
    W.ncoEffectsHeld3.issues 23 = true ∧ State.fetchOk 23 (W.ncoEffectsHeld3.eng 23).pc = true ∧
    onTrack (kindOf 23) = true ∧ W.ncoEffectsHeld3.badIn (W.ncoEffectsHeld3.pcByte 23) 4 = false ∧ 1 < 32 ∧ 7 < 8 ∧
    BitVec.toNat (W.ncoEffectsHeld3.g 23 1) % 8 ≠ 0 ∧ BitVec.toNat (W.ncoEffectsHeld3.g 23 1) % 8 ≠ 7 ∧ 1 ≠ 0 := by decide +kernel

theorem witness_ProgramsEnterAndRetire_1 :
    5 < 6 ∧ 3 < 4 ∧ 4095 < 4096 ∧ W.listed.inRun (8 + 5) = true ∧
    W.listed.on (F.POD_CTRL_EN 5) = true ∧ (W.listed.eng (4 * 5 + 3)).on = false ∧ (W.listed.rd (F.POD_CTRL_SEQ_EN 5)).testBit 3 = true ∧
    W.listed.bestListed (W.listed.pod 5).listed = some 4095 := by decide +kernel

theorem witness_ProgramsEnterAndRetire_2 :
    5 < 6 ∧ 3 < 4 ∧ 4095 < 4096 ∧ W.retire.issues (4 * 5 + 3) = true ∧
    State.fetchOk (4 * 5 + 3) (W.retire.eng (4 * 5 + 3)).pc = true ∧ onTrack (kindOf (4 * 5 + 3)) = true ∧
    W.retire.badIn (W.retire.pcByte (4 * 5 + 3)) 4 = false ∧ (W.retire.eng (4 * 5 + 3)).track = 4095 ∧
    (W.retire.eng (4 * 5 + 3)).effects = [NEffect.set 68 0 32 74565] ∧ (W.retire.eng (4 * 5 + 3)).carrStep = 0 ∧
    (W.retire.eng (4 * 5 + 3)).codeStep = 0 := by decide +kernel

/-! ### Engines (08) -/

def W.controlFlow1 : State := W.engine 32 { g := W.g12, pc := 131071 }
def W.controlFlow2 : State := W.engine 32 { g := W.g12, pc := 5, calls := [7, 8, 9, 10, 11, 12, 13] }
def W.controlFlow3 : State := W.engine 39 { g := [(1, 0x80000000)], pc := 5, calls := [7, 8, 9, 10, 11, 12, 13, 14], fl := 7 }
def W.controlFlow4 : State := W.engine 32 { g := W.g12, pc := 5, loops := [⟨5, 6, 7, 0⟩, ⟨5, 6, 7, 0⟩, ⟨5, 6, 7, 0⟩, ⟨5, 6, 7, 0⟩] }
def W.contextsRunCommands1 : State := W.queue [0x00050101, 77, 1, 2, 3, 4, 5, 6]
def W.contextsRunCommands2 : State := W.queue [0x00050002, 131071, 0x10005000, 0, 1] [(F.LYZ_PS_FW_FW_WORDS, 131071)]
def W.contextsRunCommands3 : State := W.queue [0x00050003]
def W.contextsRunCommands4 : State := W.queue [0x00050103]
def W.contextsRunCommands5 : State := W.queue [0x00050102, 131071, 0x10005000, 0, 2]
def W.contextsRunCommands6 : State := W.queue [0x00050004]
def W.contextsRunCommands8 : State := W.engine 39 { g := W.g12, pc := 5 }
def W.contextsRunCommands9 : State := { W.st [(F.LYZ_CTX_STAT_STATE 7, 4)] with txns := [(3, { state := .armed, owner := 15 })], claims := { owner := [(0x1000, 15)] } }
def W.enginesWait1 : State := W.awake <| W.engine 39 { g := W.g12, pc := 5 }
def W.enginesWait2 : State := W.awake <| W.engine 39 { g := W.g12, pc := 5 } (W.st [(⟨Reg.LYZ_SIG, 31, 1⟩, 1)])
def W.enginesWait3 : State := W.awake <| W.engine 39 { g := W.g12, pc := 5 } (W.off 15 W.run)
def W.enginesWait4 : State := W.awake <| W.time (W.engine 39 { g := W.g12, pc := 5 } (W.st [(F.TP_CFG_EN 3, 1)]))
def W.enginesWait7 : State := W.awake <| W.waits (.queue 63 3 none) [(⟨Reg.LYZ_SIG, 31, 1⟩, 1)]
def W.enginesWait8 : State := W.awake <| W.waits (.queue 63 3 (some 100))
def W.enginesWait9 : State := W.awake <| W.waits (.dtAbs (2 ^ 60) 3)
def W.enginesWait10 : State := W.awake <| W.waits (.rel (2 ^ 50) 3)
def W.enginesWait11 : State := W.awake <| W.waits (.tp 3 4 0)
def W.enginesWait12 : State := W.awake <| W.waits (.txn 3 31)
def W.enginesWait13 : State := W.awake <| W.waits (.vote 3 31)
def W.contextsCommandTheChip1 : State := W.engine 39 { g := [(1, 0x103F)], pc := 5, stampDt := 2 ^ 70, stampMono := 2 ^ 75 } (W.st [(F.LYZ_CTX_ECFG_HOSTMEM 7, 1)])
def W.contextsCommandTheChip2 : State := W.engine 39 { g := [(1, 0x103F)], pc := 5 } (W.claim 0x103F)
def W.contextsCommandTheChip3 : State := { W.engine 39 { g := [(1, 0x103F)], pc := 5 } (W.st [(F.TP_CFG_EN 0, 1)]) with txns := [(3, { state := .opened, owner := 15 })], claims := { owner := [(0x103F, 15)] } }
def W.contextsRunCommands10 : State := W.st [(F.LYZ_CTX_STAT_STATE 7, 5)]
def W.storeSignalsAndFaults1 : State := W.st [(F.LYZ_PS_FW_FW_WORDS, 2)] (W.engine 39 { pc := 5 })
def W.storeSignalsAndFaults2 : State := W.st [(F.LYZ_PS_FW_FW_WORDS, 2)] (W.engine 47 { pc := 0x4000005 })
def W.storeSignalsAndFaults4 : State := W.engine 23 { pc := 5, ran := 16384 }
def W.movesAndAccesses1 : State := W.engine 39 { g := W.g12, pc := 5, fl := 5 } (W.mem [(0x10001000, 0x12345678), (0x1000100C, 0x55)])
def W.movesAndAccesses2 : State := W.engine 23 { g := W.g12, pc := 5, fl := 5, track := 4095 }
def W.movesAndAccesses4 : State := W.engine 39 { g := W.g12, pc := 5, fl := 5 }
def W.contextsCommandTheChip4 : State := W.engine 39 { g := [(1, 0x103F)], pc := 5 } (W.off 15 W.run)
def W.contextsCommandTheChip5 : State := W.engine 39 { g := [(1, 0xFFFF)], pc := 5 } (W.off 15 W.run)
def W.contextsCommandTheChip6 : State := W.engine 39 { g := [(1, 0x103F)], pc := 5 } (W.txn .opened)
def W.contextsCommandTheChip7 : State := W.time (W.engine 39 { g := [(1, 5)], pc := 5 } { W.run with txns := [(3, { state := .opened, owner := 15 })] })
def W.contextsCommandTheChip8 : State := { W.engine 39 { g := [(1, 5)], pc := 5 } with txns := [(3, { state := .opened, owner := 15 })], time := { kyo := { valid := true, dt := 2 ^ 70 } } }

theorem witness_ControlFlow_1 :
    W.controlFlow1.issues 32 = true ∧ State.fetchOk 32 (W.controlFlow1.eng 32).pc = true ∧
    onAll (kindOf 32) = true ∧ W.controlFlow1.badIn (W.controlFlow1.pcByte 32) 4 = false ∧ notDma (kindOf 32) = true ∧ 1 ≠ 0 ∧
    (W.controlFlow1.eng 32).calls = [] ∧ (W.controlFlow1.eng 32).calls.length < 8 ∧ 0 < 5 ∧ W.controlFlow1.g 32 1 ≠ 0 ∧
    (W.controlFlow1.eng 32).loops.length < 4 ∧ (kindOf 32 = Kind.dma ∨ 0x10780000 ≤ 0x10780000 ∧ 0x10780000 < 0x10800000) := by decide +kernel

theorem witness_ControlFlow_2 :
    W.controlFlow2.issues 32 = true ∧ State.fetchOk 32 (W.controlFlow2.eng 32).pc = true ∧
    onAll (kindOf 32) = true ∧ W.controlFlow2.badIn (W.controlFlow2.pcByte 32) 4 = false ∧ notDma (kindOf 32) = true ∧ (7 = 7 ∨ 10 < 7) ∧
    (W.controlFlow2.eng 32).calls = [7, 8, 9, 10, 11, 12, 13] ∧ 0 < 65535 ∧ W.controlFlow2.g 32 4 = 0 := by decide +kernel

theorem witness_ControlFlow_3 :
    W.controlFlow3.issues 39 = true ∧ State.fetchOk 39 (W.controlFlow3.eng 39).pc = true ∧
    onAll (kindOf 39) = true ∧ W.controlFlow3.badIn (W.controlFlow3.pcByte 39) 4 = false ∧ notDma (kindOf 39) = true ∧
    8 ≤ (W.controlFlow3.eng 39).calls.length ∧ kindOf 39 ≠ Kind.dma ∧ (0x1077FFFC < 0x10780000 ∨ 0x10800000 ≤ 0x1077FFFC) := by decide +kernel

theorem witness_ControlFlow_4 :
    W.controlFlow4.issues 32 = true ∧ State.fetchOk 32 (W.controlFlow4.eng 32).pc = true ∧
    onAll (kindOf 32) = true ∧ W.controlFlow4.badIn (W.controlFlow4.pcByte 32) 4 = false ∧ 0 < 65535 ∧ W.controlFlow4.g 32 1 ≠ 0 ∧
    4 ≤ (W.controlFlow4.eng 32).loops.length := by decide +kernel

theorem witness_ContextsRunCommands_1 :
    7 < 8 ∧ (W.contextsRunCommands1.hasEntry 7 fun x => decide (x = 1)) = true ∧
    W.contextsRunCommands1.inRun 1 = true ∧ W.contextsRunCommands1.heard 1 = true ∧ W.contextsRunCommands1.inRun 18 = true ∧
    W.contextsRunCommands1.rd (F.LYZ_CTX_STAT_STATE 7) ≠ 0 := by decide +kernel

theorem witness_ContextsRunCommands_2 :
    7 < 8 ∧ (W.contextsRunCommands2.hasEntry 7 fun x => decide (x = 2)) = true ∧
    BitVec.toNat (W.contextsRunCommands2.entryWord 7 1) % 2 ^ 17 + BitVec.toNat (W.contextsRunCommands2.entryWord 7 4) ≤ 131072 ∧
    W.contextsRunCommands2.rd F.LYZ_PS_FW_FW_WORDS ≤ BitVec.toNat (W.contextsRunCommands2.entryWord 7 1) % 2 ^ 17 ∧
    if W.contextsRunCommands2.on (F.LYZ_CTX_QCFG_HOSTMEM 7) = true then W.contextsRunCommands2.inRun 17 = true ∧
    W.contextsRunCommands2.host.sel = 0 else W.contextsRunCommands2.readable (BitVec.toNat (W.contextsRunCommands2.entryWord 7 2) + if W.contextsRunCommands2.on (F.LYZ_CTX_QCFG_HOSTMEM 7) = true then 2 ^ 32 * BitVec.toNat (W.contextsRunCommands2.entryWord 7 3) else 0) (4 * BitVec.toNat (W.contextsRunCommands2.entryWord 7 4)) = true ∧
    W.contextsRunCommands2.entryIrq 7 = false ∧
    (W.contextsRunCommands2.on (F.LYZ_CTX_QCFG_HOSTMEM 7) = true ∨ ((BitVec.toNat (W.contextsRunCommands2.entryWord 7 2) + if W.contextsRunCommands2.on (F.LYZ_CTX_QCFG_HOSTMEM 7) = true then 2 ^ 32 * BitVec.toNat (W.contextsRunCommands2.entryWord 7 3) else 0) + 4 * BitVec.toNat (W.contextsRunCommands2.entryWord 7 4) ≤ 0x10780000 + 4 * (BitVec.toNat (W.contextsRunCommands2.entryWord 7 1) % 2 ^ 17) ∨ 0x10780000 + 4 * (BitVec.toNat (W.contextsRunCommands2.entryWord 7 1) % 2 ^ 17) + 4 * BitVec.toNat (W.contextsRunCommands2.entryWord 7 4) ≤ BitVec.toNat (W.contextsRunCommands2.entryWord 7 2) + if W.contextsRunCommands2.on (F.LYZ_CTX_QCFG_HOSTMEM 7) = true then 2 ^ 32 * BitVec.toNat (W.contextsRunCommands2.entryWord 7 3) else 0) ∧
    W.contextsRunCommands2.badIn (BitVec.toNat (W.contextsRunCommands2.entryWord 7 2) + if W.contextsRunCommands2.on (F.LYZ_CTX_QCFG_HOSTMEM 7) = true then 2 ^ 32 * BitVec.toNat (W.contextsRunCommands2.entryWord 7 3) else 0) (4 * BitVec.toNat (W.contextsRunCommands2.entryWord 7 4)) = false) := by decide +kernel

theorem witness_ContextsRunCommands_3 :
    7 < 8 ∧ (W.contextsRunCommands3.hasEntry 7 fun x => decide (x = 3)) = true ∧
    W.contextsRunCommands3.entryIrq 7 = false := by decide +kernel

theorem witness_ContextsRunCommands_4 :
    7 < 8 ∧ (W.contextsRunCommands4.hasEntry 7 fun x => decide (x = 3)) = true ∧
    W.contextsRunCommands4.entryIrq 7 = true ∧ W.contextsRunCommands4.ringFull 7 = false := by decide +kernel

theorem witness_ContextsRunCommands_5 :
    7 < 8 ∧ (W.contextsRunCommands5.hasEntry 7 fun x => decide (x = 2)) = true ∧
    (¬(BitVec.toNat (W.contextsRunCommands5.entryWord 7 1) % 2 ^ 17 + BitVec.toNat (W.contextsRunCommands5.entryWord 7 4) ≤ 131072 ∧
    W.contextsRunCommands5.rd F.LYZ_PS_FW_FW_WORDS ≤ BitVec.toNat (W.contextsRunCommands5.entryWord 7 1) % 2 ^ 17 ∧
    if W.contextsRunCommands5.on (F.LYZ_CTX_QCFG_HOSTMEM 7) = true then W.contextsRunCommands5.inRun 17 = true ∧
    W.contextsRunCommands5.host.sel = 0 else W.contextsRunCommands5.readable (BitVec.toNat (W.contextsRunCommands5.entryWord 7 2) + if W.contextsRunCommands5.on (F.LYZ_CTX_QCFG_HOSTMEM 7) = true then 2 ^ 32 * BitVec.toNat (W.contextsRunCommands5.entryWord 7 3) else 0) (4 * BitVec.toNat (W.contextsRunCommands5.entryWord 7 4)) = true) ∨ W.contextsRunCommands5.entryIrq 7 = true) ∧
    W.contextsRunCommands5.ringFull 7 = false := by decide +kernel

theorem witness_ContextsRunCommands_6 :
    7 < 8 ∧ (W.contextsRunCommands6.hasEntry 7 fun op => !([1, 2, 3].contains op)) = true ∧
    W.contextsRunCommands6.ringFull 7 = false := by decide +kernel

theorem witness_ContextsRunCommands_7 :
    7 < 8 ∧ W.contextsRunCommands8.issues (32 + 7) = true ∧
    State.fetchOk (32 + 7) (W.contextsRunCommands8.eng (32 + 7)).pc = true ∧ onCtx (kindOf (32 + 7)) = true ∧
    W.contextsRunCommands8.badIn (W.contextsRunCommands8.pcByte (32 + 7)) 4 = false := by decide +kernel

theorem witness_ContextsRunCommands_8 :
    7 < 8 ∧ W.contextsRunCommands9.inRun 1 = true ∧ W.contextsRunCommands9.inRun 18 = true ∧
    W.contextsRunCommands9.heard 1 = true ∧ W.contextsRunCommands9.rd (F.LYZ_CTX_STAT_STATE 7) = 4 := by decide +kernel

theorem witness_EnginesWait_1 :
    3 < 32 ∧ (W.enginesWait1.issues 39 = true ∧ State.fetchOk 39 (W.enginesWait1.eng 39).pc = true ∧
    notTrack (kindOf 39) = true ∧ W.enginesWait1.badIn (W.enginesWait1.pcByte 39) 4 = false) ∧ (W.enginesWait1.eng 39).wait = Wait.none ∧
    W.enginesWait1.runState 39 = runCode 39 ∧ 63 < 64 ∧ W.enginesWait1.sourceReady 63 = false ∧ W.enginesWait1.inRun 15 = true ∧
    W.enginesWait1.time.kyo.valid = false ∧ 3 < 4 ∧ kindOf 39 = Kind.ctx := by decide +kernel

theorem witness_EnginesWait_2 :
    3 < 32 ∧ (W.enginesWait2.issues 39 = true ∧ State.fetchOk 39 (W.enginesWait2.eng 39).pc = true ∧
    notTrack (kindOf 39) = true ∧ W.enginesWait2.badIn (W.enginesWait2.pcByte 39) 4 = false) ∧ (W.enginesWait2.eng 39).wait = Wait.none ∧
    W.enginesWait2.runState 39 = runCode 39 ∧ 63 < 64 ∧ W.enginesWait2.sourceReady 63 = true ∧ 3 ≠ 0 ∧ 32 ≤ 63 := by decide +kernel

theorem witness_EnginesWait_3 :
    3 < 32 ∧ (W.enginesWait3.issues 39 = true ∧ State.fetchOk 39 (W.enginesWait3.eng 39).pc = true ∧
    notTrack (kindOf 39) = true ∧ W.enginesWait3.badIn (W.enginesWait3.pcByte 39) 4 = false) ∧ (W.enginesWait3.eng 39).wait = Wait.none ∧
    W.enginesWait3.runState 39 = runCode 39 ∧ W.enginesWait3.inRun 15 = false ∧ 3 ≠ 0 ∧ 3 < 4 := by decide +kernel

theorem witness_EnginesWait_4 :
    3 < 32 ∧ (W.enginesWait4.issues 39 = true ∧ State.fetchOk 39 (W.enginesWait4.eng 39).pc = true ∧
    notTrack (kindOf 39) = true ∧ W.enginesWait4.badIn (W.enginesWait4.pcByte 39) 4 = false) ∧ (W.enginesWait4.eng 39).wait = Wait.none ∧
    W.enginesWait4.runState 39 = runCode 39 ∧ W.enginesWait4.dtOk = true := by decide +kernel

theorem witness_EnginesWait_5 :
    3 < 32 ∧ W.enginesWait7.waits 39 = true ∧ (W.enginesWait7.eng 39).wait = Wait.queue 63 3 none ∧
    W.enginesWait7.sourceReady 63 = true ∧ W.enginesWait7.waitsBefore 39 63 = false ∧ 3 ≠ 0 ∧ 32 ≤ 63 ∧ 63 < 64 := by decide +kernel

theorem witness_EnginesWait_6 :
    3 < 32 ∧ W.enginesWait8.waits 39 = true ∧ (W.enginesWait8.eng 39).wait = Wait.queue 63 3 (some 100) ∧
    W.enginesWait8.sourceReady 63 = false ∧ 100 ≤ W.enginesWait8.now ∧ 3 ≠ 0 := by decide +kernel

theorem witness_EnginesWait_7 :
    3 < 32 ∧ W.enginesWait9.dtOk = true ∧ W.enginesWait9.waits 39 = true ∧
    (W.enginesWait9.eng 39).wait = Wait.dtAbs (2 ^ 60) 3 ∧ 2 ^ 60 ≤ W.enginesWait9.time.kyo.dt ∧ 3 ≠ 0 := by decide +kernel

theorem witness_EnginesWait_8 :
    3 < 32 ∧ W.enginesWait10.dtOk = true ∧ W.enginesWait10.waits 39 = true ∧
    (W.enginesWait10.eng 39).wait = Wait.rel (2 ^ 50) 3 ∧ 2 ^ 50 ≤ W.enginesWait10.time.kyo.mono ∧ 3 ≠ 0 := by decide +kernel

theorem witness_EnginesWait_9 :
    0 < 32 ∧ W.enginesWait11.dtOk = true ∧ W.enginesWait11.waits 39 = true ∧
    (W.enginesWait11.eng 39).wait = Wait.tp 3 4 0 ∧ 4 < (W.enginesWait11.pulse 3).edges := by decide +kernel

theorem witness_EnginesWait_10 :
    31 < 32 ∧ W.enginesWait12.waits 39 = true ∧ (W.enginesWait12.eng 39).wait = Wait.txn 3 31 ∧
    W.enginesWait12.txnPending 39 3 = false ∧ 31 ≠ 0 := by decide +kernel

theorem witness_EnginesWait_11 :
    31 < 32 ∧ W.enginesWait13.waits 39 = true ∧ (W.enginesWait13.eng 39).wait = Wait.vote 3 31 ∧
    W.enginesWait13.dom 3 = 2 ∧ 31 ≠ 0 := by decide +kernel

theorem witness_ContextsCommandTheChip_1 :
    7 < 8 ∧ 3 < 32 ∧ W.contextsCommandTheChip1.issues (32 + 7) = true ∧
    State.fetchOk (32 + 7) (W.contextsCommandTheChip1.eng (32 + 7)).pc = true ∧ onCtx (kindOf (32 + 7)) = true ∧
    W.contextsCommandTheChip1.badIn (W.contextsCommandTheChip1.pcByte (32 + 7)) 4 = false ∧ W.contextsCommandTheChip1.inRun 15 = true ∧
    3 ≠ 0 ∧ (1 ≠ 0 ∨ 2 ≠ 0) ∧ 3 < 4 ∧ (W.contextsCommandTheChip1.txn 3).state = TxnState.idle ∧
    W.contextsCommandTheChip1.txnGate (8 + 7) 3 ≠ 0 ∧
    ¬((W.contextsCommandTheChip1.txn 3).held && decide ((W.contextsCommandTheChip1.txn 3).owner = 8 + 7)) = true ∧
    4159 = BitVec.toNat (W.contextsCommandTheChip1.g (32 + 7) 1) % 65536 ∧ validRes 4159 = true ∧
    (W.contextsCommandTheChip1.ownerOf 4159 = 0 ∨ W.contextsCommandTheChip1.ownerOf 4159 = 8 + 7) ∧
    ¬W.contextsCommandTheChip1.ownerOf 4159 = 8 + 7 ∧ 14 ≤ 18 ∧ 64 ≤ 255 ∧ 255 ≤ 255 ∧
    W.contextsCommandTheChip1.on (F.LYZ_CTX_ECFG_HOSTMEM 7) = true := by decide +kernel

theorem witness_ContextsCommandTheChip_2 :
    7 < 8 ∧ 31 < 32 ∧ W.contextsCommandTheChip2.issues (32 + 7) = true ∧
    State.fetchOk (32 + 7) (W.contextsCommandTheChip2.eng (32 + 7)).pc = true ∧ onCtx (kindOf (32 + 7)) = true ∧
    W.contextsCommandTheChip2.badIn (W.contextsCommandTheChip2.pcByte (32 + 7)) 4 = false ∧
    4159 = BitVec.toNat (W.contextsCommandTheChip2.g (32 + 7) 1) % 65536 ∧ validRes 4159 = true ∧
    W.contextsCommandTheChip2.ownerOf 4159 ≠ 0 ∧ W.contextsCommandTheChip2.ownerOf 4159 ≠ 8 + 7 ∧ 31 ≠ 0 := by decide +kernel

theorem witness_ContextsCommandTheChip_3 :
    7 < 8 ∧ 3 < 32 ∧ W.contextsCommandTheChip3.issues (32 + 7) = true ∧
    State.fetchOk (32 + 7) (W.contextsCommandTheChip3.eng (32 + 7)).pc = true ∧ onCtx (kindOf (32 + 7)) = true ∧
    W.contextsCommandTheChip3.badIn (W.contextsCommandTheChip3.pcByte (32 + 7)) 4 = false ∧ 3 < 4 ∧
    (W.contextsCommandTheChip3.txn 3).state ≠ TxnState.idle ∧ 3 ≠ 0 ∧
    ((W.contextsCommandTheChip3.txn 3).held && decide ((W.contextsCommandTheChip3.txn 3).owner = 8 + 7)) = true ∧
    (W.contextsCommandTheChip3.txn 3).state = TxnState.opened ∧ (W.contextsCommandTheChip3.txn 3).owner = 8 + 7 ∧
    W.contextsCommandTheChip3.inRun 15 = true ∧ W.contextsCommandTheChip3.on (F.TP_CFG_EN 0) = true ∧
    (W.contextsCommandTheChip3.dtOk = true → W.contextsCommandTheChip3.time.kyo.dt < dtOf (BitVec.toNat (W.contextsCommandTheChip3.g (32 + 7) 1) + 2 ^ 32 * (dtSec W.contextsCommandTheChip3.dtNow / 2 ^ 32 % 2 ^ (F.TXN_AT_SEC_HI_SEC_HI 3).w)) (BitVec.toNat (W.contextsCommandTheChip3.g (32 + 7) 2) % 2 ^ (F.TXN_AT_NS_NS 3).w)) ∧
    4159 = BitVec.toNat (W.contextsCommandTheChip3.g (32 + 7) 1) % 65536 ∧ validRes 4159 = true ∧
    W.contextsCommandTheChip3.ownerOf 4159 = 8 + 7 := by decide +kernel

theorem witness_ContextsRunCommands_9 :
    7 < 8 ∧ W.contextsRunCommands10.inRun 1 = true ∧ W.contextsRunCommands10.inRun 18 = true ∧
    W.contextsRunCommands10.heard 1 = true ∧ W.contextsRunCommands10.rd (F.LYZ_CTX_STAT_STATE 7) = 5 := by decide +kernel

theorem witness_StoreSignalsAndFaults_1 :
    W.storeSignalsAndFaults1.inRun 1 = true ∧ W.storeSignalsAndFaults1.heard 5 = true ∧
    4 < 524288 ∧ 4 / 4 < W.storeSignalsAndFaults1.rd F.LYZ_PS_FW_FW_WORDS ∧ ¬(1 ≤ 5 ∧ 5 ≤ 4) ∧
    W.storeSignalsAndFaults1.issues 39 = true ∧ State.fetchOk 39 (W.storeSignalsAndFaults1.eng 39).pc = true ∧
    notTrack (kindOf 39) = true ∧ W.storeSignalsAndFaults1.badIn (W.storeSignalsAndFaults1.pcByte 39) 4 = false ∧ 31 < 32 := by decide +kernel

theorem witness_StoreSignalsAndFaults_2 :
    W.storeSignalsAndFaults2.inRun 1 = true ∧ W.storeSignalsAndFaults2.heard 4 = true ∧
    4 < 524288 ∧ ¬(4 / 4 < W.storeSignalsAndFaults2.rd F.LYZ_PS_FW_FW_WORDS ∧ ¬(1 ≤ 4 ∧ 4 ≤ 4)) ∧
    W.storeSignalsAndFaults2.issues 47 = true ∧ State.fetchOk 47 (W.storeSignalsAndFaults2.eng 47).pc = true ∧ onAll (kindOf 47) = true ∧
    W.storeSignalsAndFaults2.badIn (W.storeSignalsAndFaults2.pcByte 47) 4 = false ∧
    ((lyzDecode 47 0xFFFFFFFF).isSome && mayExecute (kindOf 47) 0xFFFFFFFF) = false := by decide +kernel

theorem witness_StoreSignalsAndFaults_3 :
    W.storeSignalsAndFaults2.inRun 1 = true ∧ W.storeSignalsAndFaults2.issues 47 = true ∧
    State.fetchOk 47 (W.storeSignalsAndFaults2.eng 47).pc = true ∧ notTrack (kindOf 47) = true ∧
    W.storeSignalsAndFaults2.badIn (W.storeSignalsAndFaults2.pcByte 47) 4 = false ∧ ¬32 < 32 := by decide +kernel

theorem witness_StoreSignalsAndFaults_4 :
    W.storeSignalsAndFaults4.inRun 1 = true ∧ W.storeSignalsAndFaults4.issues 23 = true ∧
    W.storeSignalsAndFaults4.pausing 23 = false ∧ W.storeSignalsAndFaults4.runLimit 23 ≤ W.storeSignalsAndFaults4.runTime 23 := by decide +kernel

theorem witness_MovesAndAccesses_1 :
    W.movesAndAccesses1.issues 39 = true ∧ State.fetchOk 39 (W.movesAndAccesses1.eng 39).pc = true ∧
    onAll (kindOf 39) = true ∧ W.movesAndAccesses1.badIn (W.movesAndAccesses1.pcByte 39) 4 = false ∧ 3 < 32 ∧ 127 < 128 ∧ 3 ≠ 0 ∧
    W.movesAndAccesses1.kOk 39 = true ∧
    (kindOf 39 = Kind.ctx ∨ W.movesAndAccesses1.badIn (W.movesAndAccesses1.kBase 39 + 4 * 127) 4 = false) ∧
    (kindOf 39 = Kind.track → 80 ≤ 127) ∧
    (kindOf 39 = Kind.dma → W.movesAndAccesses1.isFw (W.movesAndAccesses1.kBase 39 + 4 * 127) = false) ∧ kindOf 39 = Kind.ctx ∧
    W.movesAndAccesses1.inRun 0 = true ∧ W.movesAndAccesses1.inRun 1 = true ∧ notTrack (kindOf 39) = true ∧
    ((W.movesAndAccesses1.gi 39 1 + -1024) % 2 ^ 32).toNat % 4 = 0 ∧ (2 ^ 28) ≤ ((W.movesAndAccesses1.gi 39 1 + -1024) % 2 ^ 32).toNat ∧
    ((W.movesAndAccesses1.gi 39 1 + -1024) % 2 ^ 32).toNat + 4 ≤ 0x10780000 ∧
    W.movesAndAccesses1.badIn ((W.movesAndAccesses1.gi 39 1 + -1024) % 2 ^ 32).toNat 4 = false ∧ 0 < 4 ∧ 1 ≠ 2 ∧
    0 < BitVec.toNat (W.movesAndAccesses1.g 39 3) ∧ BitVec.toNat (W.movesAndAccesses1.g 39 3) < 2 ^ 24 ∧
    BitVec.toNat (W.movesAndAccesses1.g 39 1) % 2 ^ 0 = 0 ∧ BitVec.toNat (W.movesAndAccesses1.g 39 2) % 2 ^ 0 = 0 ∧
    (BitVec.toNat (W.movesAndAccesses1.g 39 1) % if 0 = 1 then 2 else if 2 ≤ 0 then 4 else 1) = 0 ∧
    (BitVec.toNat (W.movesAndAccesses1.g 39 2) % if 0 = 1 then 2 else if 2 ≤ 0 then 4 else 1) = 0 ∧
    (BitVec.toNat (W.movesAndAccesses1.g 39 3) * 2 ^ 0 % if 0 = 1 then 2 else if 2 ≤ 0 then 4 else 1) = 0 ∧
    (2 ^ 28) ≤ BitVec.toNat (W.movesAndAccesses1.g 39 1) ∧
    (BitVec.toNat (W.movesAndAccesses1.g 39 1) + if false = true then 2 ^ 0 else BitVec.toNat (W.movesAndAccesses1.g 39 3) * 2 ^ 0) ≤ 0x10780000 ∧
    (2 ^ 28) ≤ BitVec.toNat (W.movesAndAccesses1.g 39 2) ∧
    (BitVec.toNat (W.movesAndAccesses1.g 39 2) + if false = true then 2 ^ 0 else BitVec.toNat (W.movesAndAccesses1.g 39 3) * 2 ^ 0) ≤ 0x10780000 ∧
    W.movesAndAccesses1.badIn (BitVec.toNat (W.movesAndAccesses1.g 39 1)) (if false = true then 2 ^ 0 else BitVec.toNat (W.movesAndAccesses1.g 39 3) * 2 ^ 0) = false ∧
    W.movesAndAccesses1.badIn (BitVec.toNat (W.movesAndAccesses1.g 39 2)) (if false = true then 2 ^ 0 else BitVec.toNat (W.movesAndAccesses1.g 39 3) * 2 ^ 0) = false ∧
    ((BitVec.toNat (W.movesAndAccesses1.g 39 1) + if false = true then 2 ^ 0 else BitVec.toNat (W.movesAndAccesses1.g 39 3) * 2 ^ 0) ≤ BitVec.toNat (W.movesAndAccesses1.g 39 2) ∨ (BitVec.toNat (W.movesAndAccesses1.g 39 2) + if false = true then 2 ^ 0 else BitVec.toNat (W.movesAndAccesses1.g 39 3) * 2 ^ 0) ≤ BitVec.toNat (W.movesAndAccesses1.g 39 1)) := by decide +kernel

theorem witness_MovesAndAccesses_2 :
    W.movesAndAccesses2.issues 23 = true ∧ State.fetchOk 23 (W.movesAndAccesses2.eng 23).pc = true ∧
    onAll (kindOf 23) = true ∧ W.movesAndAccesses2.badIn (W.movesAndAccesses2.pcByte 23) 4 = false ∧ 0 < 32 ∧ 80 < 128 ∧
    W.movesAndAccesses2.kOk 23 = true ∧ (kindOf 23 = Kind.track → 80 ≤ 80) ∧
    (kindOf 23 = Kind.dma → W.movesAndAccesses2.isFw (W.movesAndAccesses2.kBase 23 + 4 * 80) = false) ∧ kindOf 23 ≠ Kind.ctx := by decide +kernel

theorem witness_MovesAndAccesses_3 :
    W.movesAndAccesses2.issues 23 = true ∧ State.fetchOk 23 (W.movesAndAccesses2.eng 23).pc = true ∧
    onAll (kindOf 23) = true ∧ W.movesAndAccesses2.badIn (W.movesAndAccesses2.pcByte 23) 4 = false ∧ 0 < 32 ∧ 79 < 128 ∧
    kindOf 23 = Kind.track ∧ 79 < 80 := by decide +kernel

theorem witness_MovesAndAccesses_4 :
    W.movesAndAccesses4.issues 39 = true ∧ State.fetchOk 39 (W.movesAndAccesses4.eng 39).pc = true ∧
    onAll (kindOf 39) = true ∧ W.movesAndAccesses4.badIn (W.movesAndAccesses4.pcByte 39) 4 = false ∧ 3 < 32 ∧ 127 < 128 ∧
    notTrack (kindOf 39) = true ∧ ((W.movesAndAccesses4.gi 39 1 + -1023) % 2 ^ 32).toNat % 4 ≠ 0 := by decide +kernel

theorem witness_EnginesWait_12 :
    3 < 32 ∧ (W.enginesWait1.issues 39 = true ∧ State.fetchOk 39 (W.enginesWait1.eng 39).pc = true ∧
    notTrack (kindOf 39) = true ∧ W.enginesWait1.badIn (W.enginesWait1.pcByte 39) 4 = false) ∧ (W.enginesWait1.eng 39).wait = Wait.none ∧
    W.enginesWait1.runState 39 = runCode 39 ∧ 64 ≤ 64 ∧ 4 ≤ 4 := by decide +kernel

theorem witness_ContextsCommandTheChip_4 :
    7 < 8 ∧ 3 < 32 ∧ W.contextsCommandTheChip4.issues (32 + 7) = true ∧
    State.fetchOk (32 + 7) (W.contextsCommandTheChip4.eng (32 + 7)).pc = true ∧ onCtx (kindOf (32 + 7)) = true ∧
    W.contextsCommandTheChip4.badIn (W.contextsCommandTheChip4.pcByte (32 + 7)) 4 = false ∧ ¬W.contextsCommandTheChip4.inRun 15 = true ∧
    3 ≠ 0 ∧ (6 = 0 ∨ 5 < 6) ∧ 4 ≤ 4 := by decide +kernel

theorem witness_ContextsCommandTheChip_5 :
    7 < 8 ∧ 3 < 32 ∧ W.contextsCommandTheChip5.issues (32 + 7) = true ∧
    State.fetchOk (32 + 7) (W.contextsCommandTheChip5.eng (32 + 7)).pc = true ∧ onCtx (kindOf (32 + 7)) = true ∧
    W.contextsCommandTheChip5.badIn (W.contextsCommandTheChip5.pcByte (32 + 7)) 4 = false ∧ W.contextsCommandTheChip5.inRun 15 = false ∧
    1 ≤ 5 ∧ 5 ≤ 5 ∧ 3 ≠ 0 ∧ 65535 = BitVec.toNat (W.contextsCommandTheChip5.g (32 + 7) 1) % 65536 ∧ validRes 65535 = false := by decide +kernel

theorem witness_ContextsCommandTheChip_6 :
    7 < 8 ∧ 3 < 32 ∧ W.contextsCommandTheChip6.issues (32 + 7) = true ∧
    State.fetchOk (32 + 7) (W.contextsCommandTheChip6.eng (32 + 7)).pc = true ∧ onCtx (kindOf (32 + 7)) = true ∧
    W.contextsCommandTheChip6.badIn (W.contextsCommandTheChip6.pcByte (32 + 7)) 4 = false ∧ ¬(64 ≤ 64 ∧ 64 ≤ 255 ∧ 8 < 8) := by decide +kernel

theorem witness_ContextsCommandTheChip_7 :
    7 < 8 ∧ 3 < 32 ∧ W.contextsCommandTheChip7.issues (32 + 7) = true ∧
    State.fetchOk (32 + 7) (W.contextsCommandTheChip7.eng (32 + 7)).pc = true ∧ onCtx (kindOf (32 + 7)) = true ∧
    W.contextsCommandTheChip7.badIn (W.contextsCommandTheChip7.pcByte (32 + 7)) 4 = false ∧ 3 < 4 ∧
    (W.contextsCommandTheChip7.txn 3).state = TxnState.opened ∧ (W.contextsCommandTheChip7.txn 3).owner = 8 + 7 ∧
    ¬(W.contextsCommandTheChip7.inRun 15 = true ∧ W.contextsCommandTheChip7.on (F.TP_CFG_EN 0) = true) ∧ 3 ≠ 0 := by decide +kernel

theorem witness_ContextsCommandTheChip_8 :
    7 < 8 ∧ 3 < 32 ∧ W.contextsCommandTheChip8.issues (32 + 7) = true ∧
    State.fetchOk (32 + 7) (W.contextsCommandTheChip8.eng (32 + 7)).pc = true ∧ onCtx (kindOf (32 + 7)) = true ∧
    W.contextsCommandTheChip8.badIn (W.contextsCommandTheChip8.pcByte (32 + 7)) 4 = false ∧ 3 < 4 ∧
    (W.contextsCommandTheChip8.txn 3).state = TxnState.opened ∧ (W.contextsCommandTheChip8.txn 3).owner = 8 + 7 ∧
    W.contextsCommandTheChip8.dtOk = true ∧
    dtOf (BitVec.toNat (W.contextsCommandTheChip8.g (32 + 7) 2) + 2 ^ 32 * (dtSec W.contextsCommandTheChip8.dtNow / 2 ^ 32 % 2 ^ (F.TXN_AT_SEC_HI_SEC_HI 3).w)) (BitVec.toNat (W.contextsCommandTheChip8.g (32 + 7) 2) % 2 ^ (F.TXN_AT_NS_NS 3).w) ≤ W.contextsCommandTheChip8.time.kyo.dt ∧
    ¬(W.contextsCommandTheChip8.rd F.TXN_CTRL_LATE_POLICY).testBit 3 = true ∧ 3 ≠ 0 := by decide +kernel

/-! ### Acquisition (09) -/

def W.millCaptures1 : State := W.mill W.three
def W.millCaptures2 : State := W.mill W.three true
def W.millCaptures3 : MillEntry := { W.entry 2 .capturing with addr := 0 }
def W.millCaptures7 : State := W.off 7 (W.mill W.three)
def W.millCaptures8 : State := W.reusing
def W.millCaptures10 : State := W.pinned 0 (W.mill W.three)
def W.millCaptures11 : State := { W.pinned 0 (W.mill W.three) with now := 983000 }
def W.millSearches1 : State := W.mill W.three false [(F.MILL_CTRL_UNIT_EN, 15)]
def W.millSearches4 : State := W.mill ({ W.entry 1 .searching with binsDone := 1, sums := [(0, [5])] } :: W.three.tail)
def W.millSearches5 : MillEntry := { W.entry 1 .searching with binsDone := 1, sums := [(0, [5])] }

theorem witness_MillCaptures_1 :
    W.millCaptures1.inRun 14 = true ∧ W.millCaptures1.on F.MILL_CTRL_EN = true ∧
    W.millCaptures1.rd F.MILL_PLAN_HEAD_INDEX % 2 ^ Nat.max 2 (Nat.min 10 (W.millCaptures1.rd F.MILL_PLAN_CFG_LOG2SIZE)) ≠ W.millCaptures1.rd F.MILL_PLAN_TAIL_INDEX % 2 ^ Nat.max 2 (Nat.min 10 (W.millCaptures1.rd F.MILL_PLAN_CFG_LOG2SIZE)) ∧
    (BitVec.toNat (W.millCaptures1.reg Reg.MILL_PLAN_BASE) + 64 * (W.millCaptures1.rd F.MILL_PLAN_HEAD_INDEX % 2 ^ Nat.max 2 (Nat.min 10 (W.millCaptures1.rd F.MILL_PLAN_CFG_LOG2SIZE)))) % 64 = 0 ∧
    (2 ^ 28) ≤ BitVec.toNat (W.millCaptures1.reg Reg.MILL_PLAN_BASE) + 64 * (W.millCaptures1.rd F.MILL_PLAN_HEAD_INDEX % 2 ^ Nat.max 2 (Nat.min 10 (W.millCaptures1.rd F.MILL_PLAN_CFG_LOG2SIZE))) ∧
    BitVec.toNat (W.millCaptures1.reg Reg.MILL_PLAN_BASE) + 64 * (W.millCaptures1.rd F.MILL_PLAN_HEAD_INDEX % 2 ^ Nat.max 2 (Nat.min 10 (W.millCaptures1.rd F.MILL_PLAN_CFG_LOG2SIZE))) + 64 ≤ 0x10800000 ∧
    W.millCaptures1.badIn (BitVec.toNat (W.millCaptures1.reg Reg.MILL_PLAN_BASE) + 64 * (W.millCaptures1.rd F.MILL_PLAN_HEAD_INDEX % 2 ^ Nat.max 2 (Nat.min 10 (W.millCaptures1.rd F.MILL_PLAN_CFG_LOG2SIZE)))) 64 = false ∧
    W.millCaptures1.badIn (ctxAddr (bits ((W.millCaptures1.ldWords (BitVec.toNat (W.millCaptures1.reg Reg.MILL_PLAN_BASE) + 64 * (W.millCaptures1.rd F.MILL_PLAN_HEAD_INDEX % 2 ^ Nat.max 2 (Nat.min 10 (W.millCaptures1.rd F.MILL_PLAN_CFG_LOG2SIZE)))) 16).getD 11 0) 0 12) + 128) 88 = false ∧
    0 < 4 ∧ W.millCaptures1.millEntry 0 = none ∧
    bits ((W.millCaptures1.ldWords (BitVec.toNat (W.millCaptures1.reg Reg.MILL_PLAN_BASE) + 64 * (W.millCaptures1.rd F.MILL_PLAN_HEAD_INDEX % 2 ^ Nat.max 2 (Nat.min 10 (W.millCaptures1.rd F.MILL_PLAN_CFG_LOG2SIZE)))) 16).getD 0 0) 1 2 ≠ 3 ∧
    ¬(W.millCaptures1.streamIdle (bits ((W.millCaptures1.ldWords (BitVec.toNat (W.millCaptures1.reg Reg.MILL_PLAN_BASE) + 64 * (W.millCaptures1.rd F.MILL_PLAN_HEAD_INDEX % 2 ^ Nat.max 2 (Nat.min 10 (W.millCaptures1.rd F.MILL_PLAN_CFG_LOG2SIZE)))) 16).getD 0 0) 3 5) || { slot := (List.find? (fun j => (W.millCaptures1.millEntry j).isNone) (List.range 4)).getD 0, words := W.millCaptures1.ldWords (BitVec.toNat (W.millCaptures1.reg Reg.MILL_PLAN_BASE) + 64 * (W.millCaptures1.rd F.MILL_PLAN_HEAD_INDEX % 2 ^ Nat.max 2 (Nat.min 10 (W.millCaptures1.rd F.MILL_PLAN_CFG_LOG2SIZE)))) 16, gen := W.millCaptures1.ldWords (ctxAddr (bits ((W.millCaptures1.ldWords (BitVec.toNat (W.millCaptures1.reg Reg.MILL_PLAN_BASE) + 64 * (W.millCaptures1.rd F.MILL_PLAN_HEAD_INDEX % 2 ^ Nat.max 2 (Nat.min 10 (W.millCaptures1.rd F.MILL_PLAN_CFG_LOG2SIZE)))) 16).getD 11 0) 0 12) + 128) 22, phase := if bits ((W.millCaptures1.ldWords (BitVec.toNat (W.millCaptures1.reg Reg.MILL_PLAN_BASE) + 64 * (W.millCaptures1.rd F.MILL_PLAN_HEAD_INDEX % 2 ^ Nat.max 2 (Nat.min 10 (W.millCaptures1.rd F.MILL_PLAN_CFG_LOG2SIZE)))) 16).getD 0 0) 1 2 = 1 then MillPhase.capturing else if bits ((W.millCaptures1.ldWords (BitVec.toNat (W.millCaptures1.reg Reg.MILL_PLAN_BASE) + 64 * (W.millCaptures1.rd F.MILL_PLAN_HEAD_INDEX % 2 ^ Nat.max 2 (Nat.min 10 (W.millCaptures1.rd F.MILL_PLAN_CFG_LOG2SIZE)))) 16).getD 0 0) 1 2 = 2 then MillPhase.trigger else MillPhase.boundary, stream := bits ((W.millCaptures1.ldWords (BitVec.toNat (W.millCaptures1.reg Reg.MILL_PLAN_BASE) + 64 * (W.millCaptures1.rd F.MILL_PLAN_HEAD_INDEX % 2 ^ Nat.max 2 (Nat.min 10 (W.millCaptures1.rd F.MILL_PLAN_CFG_LOG2SIZE)))) 16).getD 0 0) 3 5, rate := if W.millCaptures1.streamRuns (bits ((W.millCaptures1.ldWords (BitVec.toNat (W.millCaptures1.reg Reg.MILL_PLAN_BASE) + 64 * (W.millCaptures1.rd F.MILL_PLAN_HEAD_INDEX % 2 ^ Nat.max 2 (Nat.min 10 (W.millCaptures1.rd F.MILL_PLAN_CFG_LOG2SIZE)))) 16).getD 0 0) 3 5) = true then (W.millCaptures1.stream (bits ((W.millCaptures1.ldWords (BitVec.toNat (W.millCaptures1.reg Reg.MILL_PLAN_BASE) + 64 * (W.millCaptures1.rd F.MILL_PLAN_HEAD_INDEX % 2 ^ Nat.max 2 (Nat.min 10 (W.millCaptures1.rd F.MILL_PLAN_CFG_LOG2SIZE)))) 16).getD 0 0) 3 5)).cfg.rate else W.millCaptures1.cfgRate (bits ((W.millCaptures1.ldWords (BitVec.toNat (W.millCaptures1.reg Reg.MILL_PLAN_BASE) + 64 * (W.millCaptures1.rd F.MILL_PLAN_HEAD_INDEX % 2 ^ Nat.max 2 (Nat.min 10 (W.millCaptures1.rd F.MILL_PLAN_CFG_LOG2SIZE)))) 16).getD 0 0) 3 5), addr := bits ((W.millCaptures1.ldWords (BitVec.toNat (W.millCaptures1.reg Reg.MILL_PLAN_BASE) + 64 * (W.millCaptures1.rd F.MILL_PLAN_HEAD_INDEX % 2 ^ Nat.max 2 (Nat.min 10 (W.millCaptures1.rd F.MILL_PLAN_CFG_LOG2SIZE)))) 16).getD 2 0) 0 20, blocks := bits ((W.millCaptures1.ldWords (BitVec.toNat (W.millCaptures1.reg Reg.MILL_PLAN_BASE) + 64 * (W.millCaptures1.rd F.MILL_PLAN_HEAD_INDEX % 2 ^ Nat.max 2 (Nat.min 10 (W.millCaptures1.rd F.MILL_PLAN_CFG_LOG2SIZE)))) 16).getD 3 0) 0 9, first := if bits ((W.millCaptures1.ldWords (BitVec.toNat (W.millCaptures1.reg Reg.MILL_PLAN_BASE) + 64 * (W.millCaptures1.rd F.MILL_PLAN_HEAD_INDEX % 2 ^ Nat.max 2 (Nat.min 10 (W.millCaptures1.rd F.MILL_PLAN_CFG_LOG2SIZE)))) 16).getD 0 0) 1 2 = 1 then BitVec.toNat ((W.millCaptures1.ldWords (BitVec.toNat (W.millCaptures1.reg Reg.MILL_PLAN_BASE) + 64 * (W.millCaptures1.rd F.MILL_PLAN_HEAD_INDEX % 2 ^ Nat.max 2 (Nat.min 10 (W.millCaptures1.rd F.MILL_PLAN_CFG_LOG2SIZE)))) 16).getD 4 0) else 0, starting := !W.millCaptures1.streamRuns (bits ((W.millCaptures1.ldWords (BitVec.toNat (W.millCaptures1.reg Reg.MILL_PLAN_BASE) + 64 * (W.millCaptures1.rd F.MILL_PLAN_HEAD_INDEX % 2 ^ Nat.max 2 (Nat.min 10 (W.millCaptures1.rd F.MILL_PLAN_CFG_LOG2SIZE)))) 16).getD 0 0) 3 5) : MillEntry }.bad) = true := by decide +kernel

theorem witness_MillCaptures_2 :
    W.millCaptures2.inRun 14 = true ∧ 0 < 2 ∧ W.millCaptures2.pinOf 0 = none ∧
    List.find? W.millCaptures2.asksPin W.millCaptures2.mill.entries = some W.millCaptures3 := by decide +kernel

theorem witness_MillCaptures_3 :
    W.millCaptures7.inRun 14 = true ∧ W.millCaptures7.heard 1 = true := by decide +kernel

theorem witness_MillCaptures_4 :
    W.millCaptures8.inRun 14 = true ∧ W.millCaptures8.on F.MILL_CTRL_EN = true ∧
    W.millCaptures8.rd F.MILL_PLAN_HEAD_INDEX % 2 ^ Nat.max 2 (Nat.min 10 (W.millCaptures8.rd F.MILL_PLAN_CFG_LOG2SIZE)) ≠ W.millCaptures8.rd F.MILL_PLAN_TAIL_INDEX % 2 ^ Nat.max 2 (Nat.min 10 (W.millCaptures8.rd F.MILL_PLAN_CFG_LOG2SIZE)) ∧
    (BitVec.toNat (W.millCaptures8.reg Reg.MILL_PLAN_BASE) + 64 * (W.millCaptures8.rd F.MILL_PLAN_HEAD_INDEX % 2 ^ Nat.max 2 (Nat.min 10 (W.millCaptures8.rd F.MILL_PLAN_CFG_LOG2SIZE)))) % 64 = 0 ∧
    (2 ^ 28) ≤ BitVec.toNat (W.millCaptures8.reg Reg.MILL_PLAN_BASE) + 64 * (W.millCaptures8.rd F.MILL_PLAN_HEAD_INDEX % 2 ^ Nat.max 2 (Nat.min 10 (W.millCaptures8.rd F.MILL_PLAN_CFG_LOG2SIZE))) ∧
    BitVec.toNat (W.millCaptures8.reg Reg.MILL_PLAN_BASE) + 64 * (W.millCaptures8.rd F.MILL_PLAN_HEAD_INDEX % 2 ^ Nat.max 2 (Nat.min 10 (W.millCaptures8.rd F.MILL_PLAN_CFG_LOG2SIZE))) + 64 ≤ 0x10800000 ∧
    W.millCaptures8.badIn (BitVec.toNat (W.millCaptures8.reg Reg.MILL_PLAN_BASE) + 64 * (W.millCaptures8.rd F.MILL_PLAN_HEAD_INDEX % 2 ^ Nat.max 2 (Nat.min 10 (W.millCaptures8.rd F.MILL_PLAN_CFG_LOG2SIZE)))) 64 = false ∧
    W.millCaptures8.badIn (ctxAddr (bits ((W.millCaptures8.ldWords (BitVec.toNat (W.millCaptures8.reg Reg.MILL_PLAN_BASE) + 64 * (W.millCaptures8.rd F.MILL_PLAN_HEAD_INDEX % 2 ^ Nat.max 2 (Nat.min 10 (W.millCaptures8.rd F.MILL_PLAN_CFG_LOG2SIZE)))) 16).getD 11 0) 0 12) + 128) 88 = false ∧
    0 < 4 ∧ W.millCaptures8.millEntry 0 = none ∧
    bits ((W.millCaptures8.ldWords (BitVec.toNat (W.millCaptures8.reg Reg.MILL_PLAN_BASE) + 64 * (W.millCaptures8.rd F.MILL_PLAN_HEAD_INDEX % 2 ^ Nat.max 2 (Nat.min 10 (W.millCaptures8.rd F.MILL_PLAN_CFG_LOG2SIZE)))) 16).getD 0 0) 1 2 = 3 ∧
    W.millCaptures8.captureAt { slot := (List.find? (fun j => (W.millCaptures8.millEntry j).isNone) (List.range 4)).getD 0, words := W.millCaptures8.ldWords (BitVec.toNat (W.millCaptures8.reg Reg.MILL_PLAN_BASE) + 64 * (W.millCaptures8.rd F.MILL_PLAN_HEAD_INDEX % 2 ^ Nat.max 2 (Nat.min 10 (W.millCaptures8.rd F.MILL_PLAN_CFG_LOG2SIZE)))) 16, gen := W.millCaptures8.ldWords (ctxAddr (bits ((W.millCaptures8.ldWords (BitVec.toNat (W.millCaptures8.reg Reg.MILL_PLAN_BASE) + 64 * (W.millCaptures8.rd F.MILL_PLAN_HEAD_INDEX % 2 ^ Nat.max 2 (Nat.min 10 (W.millCaptures8.rd F.MILL_PLAN_CFG_LOG2SIZE)))) 16).getD 11 0) 0 12) + 128) 22, phase := if bits ((W.millCaptures8.ldWords (BitVec.toNat (W.millCaptures8.reg Reg.MILL_PLAN_BASE) + 64 * (W.millCaptures8.rd F.MILL_PLAN_HEAD_INDEX % 2 ^ Nat.max 2 (Nat.min 10 (W.millCaptures8.rd F.MILL_PLAN_CFG_LOG2SIZE)))) 16).getD 0 0) 1 2 = 1 then MillPhase.capturing else if bits ((W.millCaptures8.ldWords (BitVec.toNat (W.millCaptures8.reg Reg.MILL_PLAN_BASE) + 64 * (W.millCaptures8.rd F.MILL_PLAN_HEAD_INDEX % 2 ^ Nat.max 2 (Nat.min 10 (W.millCaptures8.rd F.MILL_PLAN_CFG_LOG2SIZE)))) 16).getD 0 0) 1 2 = 2 then MillPhase.trigger else MillPhase.boundary, stream := bits ((W.millCaptures8.ldWords (BitVec.toNat (W.millCaptures8.reg Reg.MILL_PLAN_BASE) + 64 * (W.millCaptures8.rd F.MILL_PLAN_HEAD_INDEX % 2 ^ Nat.max 2 (Nat.min 10 (W.millCaptures8.rd F.MILL_PLAN_CFG_LOG2SIZE)))) 16).getD 0 0) 3 5, rate := if W.millCaptures8.streamRuns (bits ((W.millCaptures8.ldWords (BitVec.toNat (W.millCaptures8.reg Reg.MILL_PLAN_BASE) + 64 * (W.millCaptures8.rd F.MILL_PLAN_HEAD_INDEX % 2 ^ Nat.max 2 (Nat.min 10 (W.millCaptures8.rd F.MILL_PLAN_CFG_LOG2SIZE)))) 16).getD 0 0) 3 5) = true then (W.millCaptures8.stream (bits ((W.millCaptures8.ldWords (BitVec.toNat (W.millCaptures8.reg Reg.MILL_PLAN_BASE) + 64 * (W.millCaptures8.rd F.MILL_PLAN_HEAD_INDEX % 2 ^ Nat.max 2 (Nat.min 10 (W.millCaptures8.rd F.MILL_PLAN_CFG_LOG2SIZE)))) 16).getD 0 0) 3 5)).cfg.rate else W.millCaptures8.cfgRate (bits ((W.millCaptures8.ldWords (BitVec.toNat (W.millCaptures8.reg Reg.MILL_PLAN_BASE) + 64 * (W.millCaptures8.rd F.MILL_PLAN_HEAD_INDEX % 2 ^ Nat.max 2 (Nat.min 10 (W.millCaptures8.rd F.MILL_PLAN_CFG_LOG2SIZE)))) 16).getD 0 0) 3 5), addr := bits ((W.millCaptures8.ldWords (BitVec.toNat (W.millCaptures8.reg Reg.MILL_PLAN_BASE) + 64 * (W.millCaptures8.rd F.MILL_PLAN_HEAD_INDEX % 2 ^ Nat.max 2 (Nat.min 10 (W.millCaptures8.rd F.MILL_PLAN_CFG_LOG2SIZE)))) 16).getD 2 0) 0 20, blocks := bits ((W.millCaptures8.ldWords (BitVec.toNat (W.millCaptures8.reg Reg.MILL_PLAN_BASE) + 64 * (W.millCaptures8.rd F.MILL_PLAN_HEAD_INDEX % 2 ^ Nat.max 2 (Nat.min 10 (W.millCaptures8.rd F.MILL_PLAN_CFG_LOG2SIZE)))) 16).getD 3 0) 0 9, first := if bits ((W.millCaptures8.ldWords (BitVec.toNat (W.millCaptures8.reg Reg.MILL_PLAN_BASE) + 64 * (W.millCaptures8.rd F.MILL_PLAN_HEAD_INDEX % 2 ^ Nat.max 2 (Nat.min 10 (W.millCaptures8.rd F.MILL_PLAN_CFG_LOG2SIZE)))) 16).getD 0 0) 1 2 = 1 then BitVec.toNat ((W.millCaptures8.ldWords (BitVec.toNat (W.millCaptures8.reg Reg.MILL_PLAN_BASE) + 64 * (W.millCaptures8.rd F.MILL_PLAN_HEAD_INDEX % 2 ^ Nat.max 2 (Nat.min 10 (W.millCaptures8.rd F.MILL_PLAN_CFG_LOG2SIZE)))) 16).getD 4 0) else 0, starting := !W.millCaptures8.streamRuns (bits ((W.millCaptures8.ldWords (BitVec.toNat (W.millCaptures8.reg Reg.MILL_PLAN_BASE) + 64 * (W.millCaptures8.rd F.MILL_PLAN_HEAD_INDEX % 2 ^ Nat.max 2 (Nat.min 10 (W.millCaptures8.rd F.MILL_PLAN_CFG_LOG2SIZE)))) 16).getD 0 0) 3 5) : MillEntry }.addr = none ∧
    List.find? (fun c => decide (c.addr = { slot := (List.find? (fun j => (W.millCaptures8.millEntry j).isNone) (List.range 4)).getD 0, words := W.millCaptures8.ldWords (BitVec.toNat (W.millCaptures8.reg Reg.MILL_PLAN_BASE) + 64 * (W.millCaptures8.rd F.MILL_PLAN_HEAD_INDEX % 2 ^ Nat.max 2 (Nat.min 10 (W.millCaptures8.rd F.MILL_PLAN_CFG_LOG2SIZE)))) 16, gen := W.millCaptures8.ldWords (ctxAddr (bits ((W.millCaptures8.ldWords (BitVec.toNat (W.millCaptures8.reg Reg.MILL_PLAN_BASE) + 64 * (W.millCaptures8.rd F.MILL_PLAN_HEAD_INDEX % 2 ^ Nat.max 2 (Nat.min 10 (W.millCaptures8.rd F.MILL_PLAN_CFG_LOG2SIZE)))) 16).getD 11 0) 0 12) + 128) 22, phase := if bits ((W.millCaptures8.ldWords (BitVec.toNat (W.millCaptures8.reg Reg.MILL_PLAN_BASE) + 64 * (W.millCaptures8.rd F.MILL_PLAN_HEAD_INDEX % 2 ^ Nat.max 2 (Nat.min 10 (W.millCaptures8.rd F.MILL_PLAN_CFG_LOG2SIZE)))) 16).getD 0 0) 1 2 = 1 then MillPhase.capturing else if bits ((W.millCaptures8.ldWords (BitVec.toNat (W.millCaptures8.reg Reg.MILL_PLAN_BASE) + 64 * (W.millCaptures8.rd F.MILL_PLAN_HEAD_INDEX % 2 ^ Nat.max 2 (Nat.min 10 (W.millCaptures8.rd F.MILL_PLAN_CFG_LOG2SIZE)))) 16).getD 0 0) 1 2 = 2 then MillPhase.trigger else MillPhase.boundary, stream := bits ((W.millCaptures8.ldWords (BitVec.toNat (W.millCaptures8.reg Reg.MILL_PLAN_BASE) + 64 * (W.millCaptures8.rd F.MILL_PLAN_HEAD_INDEX % 2 ^ Nat.max 2 (Nat.min 10 (W.millCaptures8.rd F.MILL_PLAN_CFG_LOG2SIZE)))) 16).getD 0 0) 3 5, rate := if W.millCaptures8.streamRuns (bits ((W.millCaptures8.ldWords (BitVec.toNat (W.millCaptures8.reg Reg.MILL_PLAN_BASE) + 64 * (W.millCaptures8.rd F.MILL_PLAN_HEAD_INDEX % 2 ^ Nat.max 2 (Nat.min 10 (W.millCaptures8.rd F.MILL_PLAN_CFG_LOG2SIZE)))) 16).getD 0 0) 3 5) = true then (W.millCaptures8.stream (bits ((W.millCaptures8.ldWords (BitVec.toNat (W.millCaptures8.reg Reg.MILL_PLAN_BASE) + 64 * (W.millCaptures8.rd F.MILL_PLAN_HEAD_INDEX % 2 ^ Nat.max 2 (Nat.min 10 (W.millCaptures8.rd F.MILL_PLAN_CFG_LOG2SIZE)))) 16).getD 0 0) 3 5)).cfg.rate else W.millCaptures8.cfgRate (bits ((W.millCaptures8.ldWords (BitVec.toNat (W.millCaptures8.reg Reg.MILL_PLAN_BASE) + 64 * (W.millCaptures8.rd F.MILL_PLAN_HEAD_INDEX % 2 ^ Nat.max 2 (Nat.min 10 (W.millCaptures8.rd F.MILL_PLAN_CFG_LOG2SIZE)))) 16).getD 0 0) 3 5), addr := bits ((W.millCaptures8.ldWords (BitVec.toNat (W.millCaptures8.reg Reg.MILL_PLAN_BASE) + 64 * (W.millCaptures8.rd F.MILL_PLAN_HEAD_INDEX % 2 ^ Nat.max 2 (Nat.min 10 (W.millCaptures8.rd F.MILL_PLAN_CFG_LOG2SIZE)))) 16).getD 2 0) 0 20, blocks := bits ((W.millCaptures8.ldWords (BitVec.toNat (W.millCaptures8.reg Reg.MILL_PLAN_BASE) + 64 * (W.millCaptures8.rd F.MILL_PLAN_HEAD_INDEX % 2 ^ Nat.max 2 (Nat.min 10 (W.millCaptures8.rd F.MILL_PLAN_CFG_LOG2SIZE)))) 16).getD 3 0) 0 9, first := if bits ((W.millCaptures8.ldWords (BitVec.toNat (W.millCaptures8.reg Reg.MILL_PLAN_BASE) + 64 * (W.millCaptures8.rd F.MILL_PLAN_HEAD_INDEX % 2 ^ Nat.max 2 (Nat.min 10 (W.millCaptures8.rd F.MILL_PLAN_CFG_LOG2SIZE)))) 16).getD 0 0) 1 2 = 1 then BitVec.toNat ((W.millCaptures8.ldWords (BitVec.toNat (W.millCaptures8.reg Reg.MILL_PLAN_BASE) + 64 * (W.millCaptures8.rd F.MILL_PLAN_HEAD_INDEX % 2 ^ Nat.max 2 (Nat.min 10 (W.millCaptures8.rd F.MILL_PLAN_CFG_LOG2SIZE)))) 16).getD 4 0) else 0, starting := !W.millCaptures8.streamRuns (bits ((W.millCaptures8.ldWords (BitVec.toNat (W.millCaptures8.reg Reg.MILL_PLAN_BASE) + 64 * (W.millCaptures8.rd F.MILL_PLAN_HEAD_INDEX % 2 ^ Nat.max 2 (Nat.min 10 (W.millCaptures8.rd F.MILL_PLAN_CFG_LOG2SIZE)))) 16).getD 0 0) 3 5) : MillEntry }.addr)) W.millCaptures8.mill.captures = none := by decide +kernel

theorem witness_MillCaptures_5 :
    W.millCaptures10.inRun 14 = true ∧ W.millCaptures10.pinOf 0 = some (W.pin 2) ∧
    (W.millCaptures10.now - (W.pin 2).since) * 100 < Nat.max 1 (bits W.millCaptures10.sample.ringCtrl 8 8) * 49152 ∧
    (W.pin 2).block.addr + (W.pin 2).block.len ≤ 0x28000000 ∧ (W.pin 2).entry = some W.millCaptures3.slot ∧
    W.millCaptures10.millEntry W.millCaptures3.slot = some W.millCaptures3 ∧ (W.pin 2).block.valid = true := by decide +kernel

theorem witness_MillCaptures_6 :
    W.millCaptures11.inRun 14 = true ∧ W.millCaptures11.pinOf 0 = some (W.pin 2) ∧
    ¬(W.millCaptures11.now - (W.pin 2).since) * 100 < Nat.max 1 (bits W.millCaptures11.sample.ringCtrl 8 8) * 49152 := by decide +kernel

theorem witness_MillSearches_1 :
    0 < 4 ∧ W.millCaptures1.inRun 14 = true ∧ W.millCaptures1.unitBin 0 = some (1, 0) ∧
    look 0 W.millCaptures1.mill.owed 0 = 0 ∧ W.millCaptures1.millEntry 1 = some (W.entry 1 MillPhase.searching) ∧
    (W.entry 1 MillPhase.searching).binsDone + 1 ≠ (W.entry 1 MillPhase.searching).bins := by decide +kernel

theorem witness_MillSearches_2 :
    2 < 4 ∧ W.millSearches1.inRun 14 = true ∧ W.millSearches1.unitBin 2 = none ∧
    (W.millSearches1.rd F.MILL_CTRL_UNIT_EN).testBit 2 = true ∧ W.millSearches1.on F.MILL_STAT_HELD = false ∧
    List.find? (fun e => decide (e.phase = MillPhase.searching ∧
    e.nextBin < e.bins)) W.millSearches1.mill.entries = some (W.entry 1 MillPhase.searching) ∧ (W.entry 1 MillPhase.searching).slot < 4 ∧
    (W.entry 1 MillPhase.searching).nextBin < 255 := by decide +kernel

theorem witness_MillSearches_3 :
    3 < 4 ∧ W.millSearches4.inRun 14 = true ∧ W.millSearches4.unitBin 3 = some (1, 1) ∧
    look 0 W.millSearches4.mill.owed 3 = 0 ∧ W.millSearches4.millEntry 1 = some W.millSearches5 ∧
    W.millSearches5.binsDone + 1 = W.millSearches5.bins := by decide +kernel

/-! ### Firmware (10, 11) -/

def W.firmwarePublishes1 : State := W.fw [(F.TP_CFG_EN 0, 0)]
def W.firmwarePublishes2 : Edge := { time := 1000000000 }
def W.integrityAlarms2 : State := { W.clock with nav := { W.clock.nav with config := [] } }

theorem firmware_others (j : Nat) : j < 4096 → (j ≠ 4095 → ¬((W.firmwarePublishes1.trkEn j = true ∨ (W.firmwarePublishes1.trk j).unscanned = true) ∧
    look 0 W.firmwarePublishes1.nav.scanned j ≠ W.firmwarePublishes1.ld32 (ctxAddr j + 444))) ∧ W.firmwarePublishes1.coastDue j = none := by
  intro h1
  by_cases c : j = 4095
  · subst c
    exact ⟨fun h => absurd rfl h, by decide +kernel⟩
  · have h : ∀ e ∈ W.firmwarePublishes1.mem, e.1 < ctxAddr 0 ∨ ctxAddr 4095 ≤ e.1 := by decide +kernel
    have h4 := trkEn_absent W.firmwarePublishes1 j rfl fun e he => by have := h e he; simp only [ctxAddr] at *; omega
    refine ⟨fun _ h5 => h5.1.elim (fun h6 => absurd (h4.symm.trans h6) (by decide)) fun h6 =>
      Bool.false_ne_true ((rfl : (W.firmwarePublishes1.trk j).unscanned = false).symm.trans h6), ?_⟩
    simp only [State.coastDue, h4, Bool.and_false, Bool.false_and, Bool.false_eq_true, if_false]

theorem witness_FirmwarePublishes_1 :
    W.firmwarePublishes1.firmware = true ∧ 4095 < 4096 ∧
    (List.map (BitVec.ofNat 32) (List.range 14)).length = 14 ∧ W.firmwarePublishes1.on F.TRK_SCRUB_CLEARING = false ∧
    W.firmwarePublishes1.inRun 17 = true ∧ W.firmwarePublishes1.host.sel ≠ 3 ∧
    ((W.firmwarePublishes1.trkEn 4095 = true ∨ (W.firmwarePublishes1.trk 4095).unscanned = true) ∧
    look 0 W.firmwarePublishes1.nav.scanned 4095 ≠ W.firmwarePublishes1.ld32 (ctxAddr 4095 + 444)) ∧
    (∀ (j : Nat), j < 4096 → (j ≠ 4095 → ¬((W.firmwarePublishes1.trkEn j = true ∨ (W.firmwarePublishes1.trk j).unscanned = true) ∧
    look 0 W.firmwarePublishes1.nav.scanned j ≠ W.firmwarePublishes1.ld32 (ctxAddr j + 444))) ∧ W.firmwarePublishes1.coastDue j = none) ∧
    W.firmwarePublishes1.dtOk = true ∧ W.firmwarePublishes1.timeEdge = some W.firmwarePublishes2 ∧ W.firmwarePublishes1.inRun 7 = true ∧
    W.firmwarePublishes1.integ 0 10 1 = 1 := by
  refine ⟨?_, ?_, ?_, ?_, ?_, ?_, ?_, ?_, ?_, ?_, ?_, ?_⟩ <;> first | exact firmware_others | decide +kernel

theorem witness_FirmwarePublishes_2 :
    W.firmwarePublishes1.firmware = true ∧ 4095 < 4096 ∧
    (List.map (fun i => BitVec.ofNat 32 (8 * i + 15)) (List.range 14)).length = 14 ∧
    W.firmwarePublishes1.on F.TRK_SCRUB_CLEARING = false ∧
    (if W.firmwarePublishes1.cx 4095 0 12 2 = 0 then 4 else 10).min (bits ((List.map (fun i => BitVec.ofNat 32 (8 * i + 15)) (List.range 14)).getD 7 0) 3 4) ≠ 0 := by decide +kernel

theorem witness_IntegrityAlarms_1 :
    W.clock.firmware = true ∧ W.clock.dtOk = true ∧ 1000 ∈ periods ∧ 0 < 1000 ∧
    (1 * 1000 + 0) % 1000 = 0 ∧ W.clock.nav.lastEpoch ≤ 1 * 1000 + 0 ∧ (1 * 1000 + 0) * 1000000 ≤ inNs W.clock.dtNow ∧
    List.filter (fun j => decide ((j.check, j.key, j.common) = ((W.stat 2000).check, (W.stat 2000).key, (W.stat 2000).common))) (List.filter (fun i => (({ pending := W.clock.pending, regs := W.clock.regs, mem := W.clock.mem, hostMem := W.clock.hostMem, ecc := W.clock.ecc, lost := W.clock.lost, now := W.clock.now, ticks := W.clock.ticks, marks := W.clock.marks, free := W.clock.free, straps := W.clock.straps, answer := W.clock.answer, frames := W.clock.frames, host := W.clock.host, txns := W.clock.txns, txnResult := W.clock.txnResult, claims := W.clock.claims, power := W.clock.power, safety := W.clock.safety, crumb := W.clock.crumb, time := W.clock.time, rf := W.clock.rf, sample := W.clock.sample, fabric := W.clock.fabric, lyz := W.clock.lyz, mill := W.clock.mill, nav := { period := 1000, scanned := W.clock.nav.scanned, msgSeq := W.clock.nav.msgSeq, told := W.clock.nav.told, stepEdge := W.clock.nav.stepEdge, again := W.clock.nav.again, slipIn := W.clock.nav.slipIn, coasted := W.clock.nav.coasted, lastEpoch := 1 * 1000 + 0 + 1, nsv := W.clock.nav.nsv, baselines := W.clock.nav.baselines, wholes := W.clock.nav.wholes, learned := W.clock.nav.learned, slipped := W.clock.nav.slipped, anchor := W.clock.nav.anchor, lastBias := W.clock.nav.lastBias, lastSol := W.clock.nav.lastSol, wasLocked := W.clock.nav.wasLocked, checks := W.clock.nav.checks, jam := W.clock.nav.jam, alarms := W.clock.nav.alarms, logAt := W.clock.nav.logAt, evals := W.clock.nav.evals, noSolution := W.clock.nav.noSolution, osnma := W.clock.nav.osnma, config := W.clock.nav.config, saved := W.clock.nav.saved : NavSt }, net := W.clock.net, rtc := W.clock.rtc, ledger := W.clock.ledger, dma := W.clock.dma, boot := W.clock.boot, mon := W.clock.mon : State }.adoptConfig.authenticate (W.sky 2000).osnma).anchorBefore (1 * 1000 + 0) (W.sky 2000).clock).nav.checkOn i.check) ((({ pending := W.clock.pending, regs := W.clock.regs, mem := W.clock.mem, hostMem := W.clock.hostMem, ecc := W.clock.ecc, lost := W.clock.lost, now := W.clock.now, ticks := W.clock.ticks, marks := W.clock.marks, free := W.clock.free, straps := W.clock.straps, answer := W.clock.answer, frames := W.clock.frames, host := W.clock.host, txns := W.clock.txns, txnResult := W.clock.txnResult, claims := W.clock.claims, power := W.clock.power, safety := W.clock.safety, crumb := W.clock.crumb, time := W.clock.time, rf := W.clock.rf, sample := W.clock.sample, fabric := W.clock.fabric, lyz := W.clock.lyz, mill := W.clock.mill, nav := { period := 1000, scanned := W.clock.nav.scanned, msgSeq := W.clock.nav.msgSeq, told := W.clock.nav.told, stepEdge := W.clock.nav.stepEdge, again := W.clock.nav.again, slipIn := W.clock.nav.slipIn, coasted := W.clock.nav.coasted, lastEpoch := 1 * 1000 + 0 + 1, nsv := W.clock.nav.nsv, baselines := W.clock.nav.baselines, wholes := W.clock.nav.wholes, learned := W.clock.nav.learned, slipped := W.clock.nav.slipped, anchor := W.clock.nav.anchor, lastBias := W.clock.nav.lastBias, lastSol := W.clock.nav.lastSol, wasLocked := W.clock.nav.wasLocked, checks := W.clock.nav.checks, jam := W.clock.nav.jam, alarms := W.clock.nav.alarms, logAt := W.clock.nav.logAt, evals := W.clock.nav.evals, noSolution := W.clock.nav.noSolution, osnma := W.clock.nav.osnma, config := W.clock.nav.config, saved := W.clock.nav.saved : NavSt }, net := W.clock.net, rtc := W.clock.rtc, ledger := W.clock.ledger, dma := W.clock.dma, boot := W.clock.boot, mon := W.clock.mon : State }.adoptConfig.authenticate (W.sky 2000).osnma).anchorBefore (1 * 1000 + 0) (W.sky 2000).clock).stats (1 * 1000 + 0) (W.sky 2000))) = [W.stat 2000] ∧
    (List.filter (fun c => decide ((c.check, c.key, c.common) = ((W.stat 2000).check, (W.stat 2000).key, (W.stat 2000).common))) (({ pending := W.clock.pending, regs := W.clock.regs, mem := W.clock.mem, hostMem := W.clock.hostMem, ecc := W.clock.ecc, lost := W.clock.lost, now := W.clock.now, ticks := W.clock.ticks, marks := W.clock.marks, free := W.clock.free, straps := W.clock.straps, answer := W.clock.answer, frames := W.clock.frames, host := W.clock.host, txns := W.clock.txns, txnResult := W.clock.txnResult, claims := W.clock.claims, power := W.clock.power, safety := W.clock.safety, crumb := W.clock.crumb, time := W.clock.time, rf := W.clock.rf, sample := W.clock.sample, fabric := W.clock.fabric, lyz := W.clock.lyz, mill := W.clock.mill, nav := { period := 1000, scanned := W.clock.nav.scanned, msgSeq := W.clock.nav.msgSeq, told := W.clock.nav.told, stepEdge := W.clock.nav.stepEdge, again := W.clock.nav.again, slipIn := W.clock.nav.slipIn, coasted := W.clock.nav.coasted, lastEpoch := 1 * 1000 + 0 + 1, nsv := W.clock.nav.nsv, baselines := W.clock.nav.baselines, wholes := W.clock.nav.wholes, learned := W.clock.nav.learned, slipped := W.clock.nav.slipped, anchor := W.clock.nav.anchor, lastBias := W.clock.nav.lastBias, lastSol := W.clock.nav.lastSol, wasLocked := W.clock.nav.wasLocked, checks := W.clock.nav.checks, jam := W.clock.nav.jam, alarms := W.clock.nav.alarms, logAt := W.clock.nav.logAt, evals := W.clock.nav.evals, noSolution := W.clock.nav.noSolution, osnma := W.clock.nav.osnma, config := W.clock.nav.config, saved := W.clock.nav.saved : NavSt }, net := W.clock.net, rtc := W.clock.rtc, ledger := W.clock.ledger, dma := W.clock.dma, boot := W.clock.boot, mon := W.clock.mon : State }.adoptConfig.authenticate (W.sky 2000).osnma).anchorBefore (1 * 1000 + 0) (W.sky 2000).clock).nav.checks).length ≤ 1 ∧
    ¬((({ pending := W.clock.pending, regs := W.clock.regs, mem := W.clock.mem, hostMem := W.clock.hostMem, ecc := W.clock.ecc, lost := W.clock.lost, now := W.clock.now, ticks := W.clock.ticks, marks := W.clock.marks, free := W.clock.free, straps := W.clock.straps, answer := W.clock.answer, frames := W.clock.frames, host := W.clock.host, txns := W.clock.txns, txnResult := W.clock.txnResult, claims := W.clock.claims, power := W.clock.power, safety := W.clock.safety, crumb := W.clock.crumb, time := W.clock.time, rf := W.clock.rf, sample := W.clock.sample, fabric := W.clock.fabric, lyz := W.clock.lyz, mill := W.clock.mill, nav := { period := 1000, scanned := W.clock.nav.scanned, msgSeq := W.clock.nav.msgSeq, told := W.clock.nav.told, stepEdge := W.clock.nav.stepEdge, again := W.clock.nav.again, slipIn := W.clock.nav.slipIn, coasted := W.clock.nav.coasted, lastEpoch := 1 * 1000 + 0 + 1, nsv := W.clock.nav.nsv, baselines := W.clock.nav.baselines, wholes := W.clock.nav.wholes, learned := W.clock.nav.learned, slipped := W.clock.nav.slipped, anchor := W.clock.nav.anchor, lastBias := W.clock.nav.lastBias, lastSol := W.clock.nav.lastSol, wasLocked := W.clock.nav.wasLocked, checks := W.clock.nav.checks, jam := W.clock.nav.jam, alarms := W.clock.nav.alarms, logAt := W.clock.nav.logAt, evals := W.clock.nav.evals, noSolution := W.clock.nav.noSolution, osnma := W.clock.nav.osnma, config := W.clock.nav.config, saved := W.clock.nav.saved : NavSt }, net := W.clock.net, rtc := W.clock.rtc, ledger := W.clock.ledger, dma := W.clock.dma, boot := W.clock.boot, mon := W.clock.mon : State }.adoptConfig.authenticate (W.sky 2000).osnma).anchorBefore (1 * 1000 + 0) (W.sky 2000).clock).nav.checkOf (W.stat 2000)).inForce = true ∧
    (W.stat 2000).exceeds = true ∧
    persistence 1000 ≤ ((({ pending := W.clock.pending, regs := W.clock.regs, mem := W.clock.mem, hostMem := W.clock.hostMem, ecc := W.clock.ecc, lost := W.clock.lost, now := W.clock.now, ticks := W.clock.ticks, marks := W.clock.marks, free := W.clock.free, straps := W.clock.straps, answer := W.clock.answer, frames := W.clock.frames, host := W.clock.host, txns := W.clock.txns, txnResult := W.clock.txnResult, claims := W.clock.claims, power := W.clock.power, safety := W.clock.safety, crumb := W.clock.crumb, time := W.clock.time, rf := W.clock.rf, sample := W.clock.sample, fabric := W.clock.fabric, lyz := W.clock.lyz, mill := W.clock.mill, nav := { period := 1000, scanned := W.clock.nav.scanned, msgSeq := W.clock.nav.msgSeq, told := W.clock.nav.told, stepEdge := W.clock.nav.stepEdge, again := W.clock.nav.again, slipIn := W.clock.nav.slipIn, coasted := W.clock.nav.coasted, lastEpoch := 1 * 1000 + 0 + 1, nsv := W.clock.nav.nsv, baselines := W.clock.nav.baselines, wholes := W.clock.nav.wholes, learned := W.clock.nav.learned, slipped := W.clock.nav.slipped, anchor := W.clock.nav.anchor, lastBias := W.clock.nav.lastBias, lastSol := W.clock.nav.lastSol, wasLocked := W.clock.nav.wasLocked, checks := W.clock.nav.checks, jam := W.clock.nav.jam, alarms := W.clock.nav.alarms, logAt := W.clock.nav.logAt, evals := W.clock.nav.evals, noSolution := W.clock.nav.noSolution, osnma := W.clock.nav.osnma, config := W.clock.nav.config, saved := W.clock.nav.saved : NavSt }, net := W.clock.net, rtc := W.clock.rtc, ledger := W.clock.ledger, dma := W.clock.dma, boot := W.clock.boot, mon := W.clock.mon : State }.adoptConfig.authenticate (W.sky 2000).osnma).anchorBefore (1 * 1000 + 0) (W.sky 2000).clock).nav.checkOf (W.stat 2000)).run + 1 := by decide +kernel

theorem witness_IntegrityAlarms_2 :
    W.clock.firmware = true ∧ W.clock.dtOk = true ∧ 10 ∈ periods ∧ 0 < 1000 ∧
    (1 * 1000 + 0) % 10 = 0 ∧ W.clock.nav.lastEpoch ≤ 1 * 1000 + 0 ∧ (1 * 1000 + 0) * 1000000 ≤ inNs W.clock.dtNow ∧
    List.filter (fun j => decide ((j.check, j.key, j.common) = ((W.stat 2000).check, (W.stat 2000).key, (W.stat 2000).common))) (List.filter (fun i => (({ pending := W.clock.pending, regs := W.clock.regs, mem := W.clock.mem, hostMem := W.clock.hostMem, ecc := W.clock.ecc, lost := W.clock.lost, now := W.clock.now, ticks := W.clock.ticks, marks := W.clock.marks, free := W.clock.free, straps := W.clock.straps, answer := W.clock.answer, frames := W.clock.frames, host := W.clock.host, txns := W.clock.txns, txnResult := W.clock.txnResult, claims := W.clock.claims, power := W.clock.power, safety := W.clock.safety, crumb := W.clock.crumb, time := W.clock.time, rf := W.clock.rf, sample := W.clock.sample, fabric := W.clock.fabric, lyz := W.clock.lyz, mill := W.clock.mill, nav := { period := 10, scanned := W.clock.nav.scanned, msgSeq := W.clock.nav.msgSeq, told := W.clock.nav.told, stepEdge := W.clock.nav.stepEdge, again := W.clock.nav.again, slipIn := W.clock.nav.slipIn, coasted := W.clock.nav.coasted, lastEpoch := 1 * 1000 + 0 + 1, nsv := W.clock.nav.nsv, baselines := W.clock.nav.baselines, wholes := W.clock.nav.wholes, learned := W.clock.nav.learned, slipped := W.clock.nav.slipped, anchor := W.clock.nav.anchor, lastBias := W.clock.nav.lastBias, lastSol := W.clock.nav.lastSol, wasLocked := W.clock.nav.wasLocked, checks := W.clock.nav.checks, jam := W.clock.nav.jam, alarms := W.clock.nav.alarms, logAt := W.clock.nav.logAt, evals := W.clock.nav.evals, noSolution := W.clock.nav.noSolution, osnma := W.clock.nav.osnma, config := W.clock.nav.config, saved := W.clock.nav.saved : NavSt }, net := W.clock.net, rtc := W.clock.rtc, ledger := W.clock.ledger, dma := W.clock.dma, boot := W.clock.boot, mon := W.clock.mon : State }.adoptConfig.authenticate (W.sky 2000).osnma).anchorBefore (1 * 1000 + 0) (W.sky 2000).clock).nav.checkOn i.check) ((({ pending := W.clock.pending, regs := W.clock.regs, mem := W.clock.mem, hostMem := W.clock.hostMem, ecc := W.clock.ecc, lost := W.clock.lost, now := W.clock.now, ticks := W.clock.ticks, marks := W.clock.marks, free := W.clock.free, straps := W.clock.straps, answer := W.clock.answer, frames := W.clock.frames, host := W.clock.host, txns := W.clock.txns, txnResult := W.clock.txnResult, claims := W.clock.claims, power := W.clock.power, safety := W.clock.safety, crumb := W.clock.crumb, time := W.clock.time, rf := W.clock.rf, sample := W.clock.sample, fabric := W.clock.fabric, lyz := W.clock.lyz, mill := W.clock.mill, nav := { period := 10, scanned := W.clock.nav.scanned, msgSeq := W.clock.nav.msgSeq, told := W.clock.nav.told, stepEdge := W.clock.nav.stepEdge, again := W.clock.nav.again, slipIn := W.clock.nav.slipIn, coasted := W.clock.nav.coasted, lastEpoch := 1 * 1000 + 0 + 1, nsv := W.clock.nav.nsv, baselines := W.clock.nav.baselines, wholes := W.clock.nav.wholes, learned := W.clock.nav.learned, slipped := W.clock.nav.slipped, anchor := W.clock.nav.anchor, lastBias := W.clock.nav.lastBias, lastSol := W.clock.nav.lastSol, wasLocked := W.clock.nav.wasLocked, checks := W.clock.nav.checks, jam := W.clock.nav.jam, alarms := W.clock.nav.alarms, logAt := W.clock.nav.logAt, evals := W.clock.nav.evals, noSolution := W.clock.nav.noSolution, osnma := W.clock.nav.osnma, config := W.clock.nav.config, saved := W.clock.nav.saved : NavSt }, net := W.clock.net, rtc := W.clock.rtc, ledger := W.clock.ledger, dma := W.clock.dma, boot := W.clock.boot, mon := W.clock.mon : State }.adoptConfig.authenticate (W.sky 2000).osnma).anchorBefore (1 * 1000 + 0) (W.sky 2000).clock).stats (1 * 1000 + 0) (W.sky 2000))) = [W.stat 2000] ∧
    (List.filter (fun c => decide ((c.check, c.key, c.common) = ((W.stat 2000).check, (W.stat 2000).key, (W.stat 2000).common))) (({ pending := W.clock.pending, regs := W.clock.regs, mem := W.clock.mem, hostMem := W.clock.hostMem, ecc := W.clock.ecc, lost := W.clock.lost, now := W.clock.now, ticks := W.clock.ticks, marks := W.clock.marks, free := W.clock.free, straps := W.clock.straps, answer := W.clock.answer, frames := W.clock.frames, host := W.clock.host, txns := W.clock.txns, txnResult := W.clock.txnResult, claims := W.clock.claims, power := W.clock.power, safety := W.clock.safety, crumb := W.clock.crumb, time := W.clock.time, rf := W.clock.rf, sample := W.clock.sample, fabric := W.clock.fabric, lyz := W.clock.lyz, mill := W.clock.mill, nav := { period := 10, scanned := W.clock.nav.scanned, msgSeq := W.clock.nav.msgSeq, told := W.clock.nav.told, stepEdge := W.clock.nav.stepEdge, again := W.clock.nav.again, slipIn := W.clock.nav.slipIn, coasted := W.clock.nav.coasted, lastEpoch := 1 * 1000 + 0 + 1, nsv := W.clock.nav.nsv, baselines := W.clock.nav.baselines, wholes := W.clock.nav.wholes, learned := W.clock.nav.learned, slipped := W.clock.nav.slipped, anchor := W.clock.nav.anchor, lastBias := W.clock.nav.lastBias, lastSol := W.clock.nav.lastSol, wasLocked := W.clock.nav.wasLocked, checks := W.clock.nav.checks, jam := W.clock.nav.jam, alarms := W.clock.nav.alarms, logAt := W.clock.nav.logAt, evals := W.clock.nav.evals, noSolution := W.clock.nav.noSolution, osnma := W.clock.nav.osnma, config := W.clock.nav.config, saved := W.clock.nav.saved : NavSt }, net := W.clock.net, rtc := W.clock.rtc, ledger := W.clock.ledger, dma := W.clock.dma, boot := W.clock.boot, mon := W.clock.mon : State }.adoptConfig.authenticate (W.sky 2000).osnma).anchorBefore (1 * 1000 + 0) (W.sky 2000).clock).nav.checks).length ≤ 1 ∧
    ¬((({ pending := W.clock.pending, regs := W.clock.regs, mem := W.clock.mem, hostMem := W.clock.hostMem, ecc := W.clock.ecc, lost := W.clock.lost, now := W.clock.now, ticks := W.clock.ticks, marks := W.clock.marks, free := W.clock.free, straps := W.clock.straps, answer := W.clock.answer, frames := W.clock.frames, host := W.clock.host, txns := W.clock.txns, txnResult := W.clock.txnResult, claims := W.clock.claims, power := W.clock.power, safety := W.clock.safety, crumb := W.clock.crumb, time := W.clock.time, rf := W.clock.rf, sample := W.clock.sample, fabric := W.clock.fabric, lyz := W.clock.lyz, mill := W.clock.mill, nav := { period := 10, scanned := W.clock.nav.scanned, msgSeq := W.clock.nav.msgSeq, told := W.clock.nav.told, stepEdge := W.clock.nav.stepEdge, again := W.clock.nav.again, slipIn := W.clock.nav.slipIn, coasted := W.clock.nav.coasted, lastEpoch := 1 * 1000 + 0 + 1, nsv := W.clock.nav.nsv, baselines := W.clock.nav.baselines, wholes := W.clock.nav.wholes, learned := W.clock.nav.learned, slipped := W.clock.nav.slipped, anchor := W.clock.nav.anchor, lastBias := W.clock.nav.lastBias, lastSol := W.clock.nav.lastSol, wasLocked := W.clock.nav.wasLocked, checks := W.clock.nav.checks, jam := W.clock.nav.jam, alarms := W.clock.nav.alarms, logAt := W.clock.nav.logAt, evals := W.clock.nav.evals, noSolution := W.clock.nav.noSolution, osnma := W.clock.nav.osnma, config := W.clock.nav.config, saved := W.clock.nav.saved : NavSt }, net := W.clock.net, rtc := W.clock.rtc, ledger := W.clock.ledger, dma := W.clock.dma, boot := W.clock.boot, mon := W.clock.mon : State }.adoptConfig.authenticate (W.sky 2000).osnma).anchorBefore (1 * 1000 + 0) (W.sky 2000).clock).nav.checkOf (W.stat 2000)).inForce = true ∧
    ¬((W.stat 2000).exceeds = true ∧
    persistence 10 ≤ ((({ pending := W.clock.pending, regs := W.clock.regs, mem := W.clock.mem, hostMem := W.clock.hostMem, ecc := W.clock.ecc, lost := W.clock.lost, now := W.clock.now, ticks := W.clock.ticks, marks := W.clock.marks, free := W.clock.free, straps := W.clock.straps, answer := W.clock.answer, frames := W.clock.frames, host := W.clock.host, txns := W.clock.txns, txnResult := W.clock.txnResult, claims := W.clock.claims, power := W.clock.power, safety := W.clock.safety, crumb := W.clock.crumb, time := W.clock.time, rf := W.clock.rf, sample := W.clock.sample, fabric := W.clock.fabric, lyz := W.clock.lyz, mill := W.clock.mill, nav := { period := 10, scanned := W.clock.nav.scanned, msgSeq := W.clock.nav.msgSeq, told := W.clock.nav.told, stepEdge := W.clock.nav.stepEdge, again := W.clock.nav.again, slipIn := W.clock.nav.slipIn, coasted := W.clock.nav.coasted, lastEpoch := 1 * 1000 + 0 + 1, nsv := W.clock.nav.nsv, baselines := W.clock.nav.baselines, wholes := W.clock.nav.wholes, learned := W.clock.nav.learned, slipped := W.clock.nav.slipped, anchor := W.clock.nav.anchor, lastBias := W.clock.nav.lastBias, lastSol := W.clock.nav.lastSol, wasLocked := W.clock.nav.wasLocked, checks := W.clock.nav.checks, jam := W.clock.nav.jam, alarms := W.clock.nav.alarms, logAt := W.clock.nav.logAt, evals := W.clock.nav.evals, noSolution := W.clock.nav.noSolution, osnma := W.clock.nav.osnma, config := W.clock.nav.config, saved := W.clock.nav.saved : NavSt }, net := W.clock.net, rtc := W.clock.rtc, ledger := W.clock.ledger, dma := W.clock.dma, boot := W.clock.boot, mon := W.clock.mon : State }.adoptConfig.authenticate (W.sky 2000).osnma).anchorBefore (1 * 1000 + 0) (W.sky 2000).clock).nav.checkOf (W.stat 2000)).run + 1) := by decide +kernel

theorem witness_IntegrityAlarms_3 :
    W.integrityAlarms2.firmware = true ∧ W.integrityAlarms2.dtOk = true ∧ 500 ∈ periods ∧ 0 < 1000 ∧
    (1 * 1000 + 0) % 500 = 0 ∧ W.integrityAlarms2.nav.lastEpoch ≤ 1 * 1000 + 0 ∧
    (1 * 1000 + 0) * 1000000 ≤ inNs W.integrityAlarms2.dtNow ∧
    W.integrityAlarms2.integ 0 16 16 ≠ bits (W.integrityAlarms2.nav.config.getD 0 0) 16 16 := by decide +kernel

/-! ### Time (12) -/

def W.timeStates1 : State := W.kyo 0
def W.timeStates2 : State := W.kyo 1
def W.timeStates6 : State := W.kyo 3
def W.timeStates7 : State := W.kyo 4 [(F.KYO_STATE_SPLL_BYP, 1)]
def W.timeCorrections1 : State := W.kyo 0 [(⟨Reg.KYO_STEP_SEC, 0, 32⟩, 7), (⟨Reg.KYO_STEP_NS, 0, 32⟩, 999999999)]
def W.timeCorrections2 : State := W.kyo 0 [(⟨Reg.KYO_STEP_SEC, 0, 32⟩, 7), (⟨Reg.KYO_STEP_NS, 0, 32⟩, 1000000000)]
def W.timeCorrections5 : State := W.kyo 0 [(F.KYO_STATE_SUSPECT, 1)] { step := some (-10000) }
def W.timeCorrections6 : State := W.kyo 0 [(F.KYO_STATE_SUSPECT, 1)] { step := some 10, slew := 3 }
def W.timeCorrections7 : State := W.kyo 3 [(F.KYO_STATE_SUSPECT, 1), (F.KYO_CTRL_STEP_BACK_ALLOW, 1)] { }
def W.timeCorrections9 : State := { W.kyo 4 with time := { (W.kyo 4).time with kyo := { valid := true, dt := 10 ^ 9 * 2 ^ 32, step := some 5 } } }
def W.timeKept1 : State := W.kyo 1 [] { holdMs := 999 }
def W.pulsesPlaced1 : State := W.tp 3
def W.pulsesPlaced2 : State := W.tp 3 [] { placed := true, edgeNow := 59999999, lastPeriod := 5 }
def W.pulsesPlaced3 : State := W.tp 0 [] { active := true, expect := true, riseAt := 5, fallAt := 1001000 * 2 ^ 32 }
def W.pulsesPlaced5 : State := W.tp 0 [(F.KYO_STATE_STATE, 2), (F.KYO_EST_ERR_EST_ERR, 0xFFFFFFFF)]
def W.capturesAndTriggers1 : State := W.capt 7 []
def W.capturesAndTriggers3 : State := W.capt 1 ((List.range 16).map fun i => ⟨i, false, true⟩)
def W.capturesAndTriggers4 : Capture := ⟨0, false, true⟩
def W.capturesAndTriggers9 : State := W.claim 0x200F (W.trig 15 500000000 0 0 0)
def W.capturesAndTriggers10 : State := W.claim 0x200F (W.trig 15 1000 0 0 0)
def W.capturesAndTriggers11 : State := W.claim 0x200F (W.trig 15 1000 1 1000 0)
def W.capturesAndTriggers12 : State := W.trig 0 1000 1 0 0

theorem witness_TimeStates_1 :
    W.timeStates1.inRun 15 = true ∧ W.timeStates1.heard 1 = true ∧
    W.timeStates1.on F.KYO_STATE_SPLL_BYP = false ∧ 3 < 8 ∧
    (W.timeStates1.rd F.KYO_STATE_STATE = 0 ∨ W.timeStates1.rd F.KYO_STATE_STATE = 3) ∧
    (W.timeStates1.rd F.KYO_STATE_STATE ≠ 3 ∨ W.timeStates1.correcting = true) := by decide +kernel

theorem witness_TimeStates_2 :
    W.timeStates2.inRun 15 = true ∧ W.timeStates2.heard 1 = true ∧
    W.timeStates2.rd F.KYO_STATE_STATE ≠ 0 ∧ W.timeStates2.rd F.KYO_STATE_STATE ≠ 3 := by decide +kernel

theorem witness_TimeStates_3 :
    W.timeStates6.inRun 15 = true ∧ W.timeStates6.heard 1 = true ∧ W.timeStates6.dtOk = true ∧
    W.timeStates6.rd F.KYO_STATE_STATE = 3 ∧ W.timeStates6.correcting = false := by decide +kernel

theorem witness_TimeStates_4 :
    W.timeStates7.inRun 15 = true ∧ W.timeStates7.heard 1 = true ∧
    W.timeStates7.on F.KYO_STATE_SPLL_BYP = true := by decide +kernel

theorem witness_TimeCorrections_1 :
    W.timeCorrections1.inRun 15 = true ∧ W.timeCorrections1.heard 1 = true ∧
    W.timeCorrections1.stepValue = some 0x1DCD64FFF ∧ W.timeCorrections1.stepAllowed 0x1DCD64FFF = true ∧
    W.timeCorrections1.rd F.KYO_STATE_STATE ≠ 3 := by decide +kernel

theorem witness_TimeCorrections_2 :
    W.timeCorrections2.inRun 15 = true ∧ W.timeCorrections2.heard 1 = true ∧
    (W.timeCorrections2.stepValue = none ∨ W.timeCorrections2.stepValue = some 0 ∧ W.timeCorrections2.stepAllowed 0 = false) := by decide +kernel

theorem witness_TimeCorrections_3 :
    W.timeCorrections5.inRun 15 = true ∧ W.timeCorrections5.heard 1 = true ∧
    W.timeCorrections5.dtOk = true ∧ W.timeCorrections5.firmware = true ∧ W.timeCorrections5.on F.KYO_STATE_SUSPECT = true ∧
    - -999 < (↑(W.timeCorrections5.rd F.KYO_STEP_THRESH_THRESH) : Int) := by decide +kernel

theorem witness_TimeCorrections_4 :
    W.timeCorrections6.inRun 15 = true ∧ W.timeCorrections6.heard 1 = true ∧
    W.timeCorrections6.dtOk = true ∧ W.timeCorrections6.firmware = true ∧ W.timeCorrections6.on F.KYO_STATE_SUSPECT = true ∧
    (↑(W.timeCorrections6.rd F.KYO_STEP_THRESH_THRESH) : Int) ≤ - -0x1A13B8605 ∧
    W.timeCorrections6.on F.KYO_CTRL_STEP_BACK_ALLOW = false ∧ W.timeCorrections6.rd F.KYO_STATE_STATE = 0 := by decide +kernel

theorem witness_TimeCorrections_5 :
    W.timeCorrections7.inRun 15 = true ∧ W.timeCorrections7.heard 1 = true ∧
    W.timeCorrections7.rd F.KYO_STATE_STATE = 3 ∧ W.timeCorrections7.dtOk = true ∧ W.timeCorrections7.firmware = true ∧
    W.timeCorrections7.on F.KYO_STATE_SUSPECT = true ∧ (↑(W.timeCorrections7.rd F.KYO_STEP_THRESH_THRESH) : Int) ≤ - -0x1A13B8605 ∧
    W.timeCorrections7.on F.KYO_CTRL_STEP_BACK_ALLOW = true := by decide +kernel

theorem witness_TimeCorrections_6 :
    W.timeCorrections9.inRun 15 = true ∧ W.timeCorrections9.heard 1 = true ∧
    W.timeCorrections9.stepDue = true ∧ W.timeCorrections9.time.kyo.step = some 5 ∧
    ((∀ (n : Nat), n < 4 → (W.timeCorrections9.txn n).state ≠ TxnState.armed) ∧
    ∀ (k : Nat), k < 16 → W.timeCorrections9.rd (F.TRG_STAT_STATE k) ≠ 1) := by decide +kernel

theorem witness_TimeKept_1 :
    W.timeKept1.inRun 15 = true ∧ W.timeKept1.heard 1 = true ∧ W.timeKept1.dtOk = true ∧
    (W.timeKept1.rd F.KYO_STATE_STATE = 1 ∨ W.timeKept1.rd F.KYO_STATE_STATE = 2 ∨ W.timeKept1.rd F.KYO_STATE_STATE = 4) := by decide +kernel

theorem witness_TimeKept_2 :
    W.run.inRun 15 = true ∧ W.run.heard 1 = true ∧ W.run.time.kyo.valid = false ∧
    ((∀ (n : Nat), n < 4 → (W.run.txn n).state ≠ TxnState.armed) ∧ ∀ (k : Nat), k < 16 → W.run.rd (F.TRG_STAT_STATE k) ≠ 1) ∧
    W.run.on F.RTC_STAT_SET = false := by decide +kernel

theorem witness_PulsesPlaced_1 :
    3 < 4 ∧ W.pulsesPlaced1.tpRuns 3 = true ∧ W.pulsesPlaced1.gridNow 3 = some 1001000 ∧
    W.pulsesPlaced1.squelched = false ∧
    W.pulsesPlaced1.spacingOk 3 (W.pulsesPlaced1.now + (W.pulsesPlaced1.placement 3 (W.pulsesPlaced1.launch 3 1001000)).fst) (W.pulsesPlaced1.placement 3 (W.pulsesPlaced1.launch 3 1001000)).snd.fst = true ∧
    W.pulsesPlaced1.on F.TP_LBCFG_LB_EN = true ∧ W.pulsesPlaced1.on F.KYO_STATE_SPLL_BYP = false ∧
    (2 = 2 ∨ (W.pulsesPlaced1.pulse 3).expect = true) ∧ ¬(2 = 0 ∧
    (W.pulsesPlaced1.loopbackError 3 50).natAbs ≤ W.pulsesPlaced1.rd F.TP_LBCFG_TOL) ∧ W.pulsesPlaced1.inRun 2 = true ∧
    look 0 W.pulsesPlaced1.safety.level (38 + 3) = 0 ∧ W.pulsesPlaced1.inRun 15 = true ∧ W.pulsesPlaced1.heard 1 = true ∧
    W.pulsesPlaced1.on F.TP_CAL_STAT_BUSY = true ∧ W.pulsesPlaced1.rd (F.PLL_STAT_STATE 3) = 2 ∧
    W.pulsesPlaced1.time.newTables = some [{ code := [1], dOut := 2 : TpTable }, { dOut := 70000 : TpTable }] ∧
    (∀ (m : Nat), m < 4 → (W.pulsesPlaced1.pulse m).freeFrom ≤ W.pulsesPlaced1.now) := by decide +kernel

theorem witness_PulsesPlaced_2 :
    3 < 4 ∧ W.pulsesPlaced2.tpRuns 3 = true ∧ W.pulsesPlaced2.gridNow 3 = some 1001000 ∧
    W.pulsesPlaced2.squelched = false ∧
    W.pulsesPlaced2.spacingOk 3 (W.pulsesPlaced2.now + (W.pulsesPlaced2.placement 3 (W.pulsesPlaced2.launch 3 1001000)).fst) (W.pulsesPlaced2.placement 3 (W.pulsesPlaced2.launch 3 1001000)).snd.fst = false := by decide +kernel

theorem witness_PulsesPlaced_3 :
    0 < 4 ∧ W.pulsesPlaced3.dtOk = true ∧ (W.pulsesPlaced3.pulse 0).active = true ∧
    W.pulsesPlaced3.fallLaunch 0 < W.pulsesPlaced3.window.snd ∧ W.pulsesPlaced3.tpRuns 0 = true ∧
    W.pulsesPlaced3.on F.TP_LBCFG_LB_EN = true ∧ W.pulsesPlaced3.squelched = false ∧ W.pulsesPlaced3.on F.KYO_STATE_SPLL_BYP = false ∧
    (0 = 2 ∨ (W.pulsesPlaced3.pulse 0).expect = true) ∧ 0 = 0 ∧ 0 ≠ 2 := by decide +kernel

theorem witness_PulsesPlaced_4 :
    0 < 4 ∧ W.pulsesPlaced5.tpRuns 0 = true ∧ W.pulsesPlaced5.gridNow 0 = some 1001000 ∧
    W.pulsesPlaced5.squelched = true := by decide +kernel

theorem witness_CapturesAndTriggers_1 :
    W.capturesAndTriggers1.inRun 15 = true ∧ W.capturesAndTriggers1.heard 1 = true ∧
    W.capturesAndTriggers1.dtOk = true ∧ 7 < 8 ∧ W.capturesAndTriggers1.inputOn (20 + 7) 0 = true ∧
    W.capturesAndTriggers1.on (F.CAP_CFG_EN 7) = true ∧ W.capturesAndTriggers1.edgeSelected 7 true = true ∧
    Option.any (fun t => decide (W.capturesAndTriggers1.now * 390625 + (W.capturesAndTriggers1.time.ladders.getD 7 []).getD 1 0 * 192 < t + 0x177000)) (W.capturesAndTriggers1.cap 7).lastNow = false ∧
    (W.capturesAndTriggers1.cap 7).fifo.length < 16 ∧ 7 < 9 ∧ (W.capturesAndTriggers1.cap 7).fifo = [] := by decide +kernel

theorem witness_CapturesAndTriggers_2 :
    W.capturesAndTriggers3.inRun 15 = true ∧ W.capturesAndTriggers3.heard 1 = true ∧
    W.capturesAndTriggers3.dtOk = true ∧ 1 < 8 ∧ W.capturesAndTriggers3.inputOn (20 + 1) 0 = true ∧
    W.capturesAndTriggers3.on (F.CAP_CFG_EN 1) = true ∧ W.capturesAndTriggers3.edgeSelected 1 true = true ∧
    ¬(Option.any (fun t => decide (W.capturesAndTriggers3.now * 390625 + (W.capturesAndTriggers3.time.ladders.getD 1 []).getD 2 0 * 192 < t + 0x177000)) (W.capturesAndTriggers3.cap 1).lastNow = false ∧
    (W.capturesAndTriggers3.cap 1).fifo.length < 16) ∧ 1 < 9 ∧
    (W.capturesAndTriggers3.cap 1).fifo = W.capturesAndTriggers4 :: List.map (fun i => { dt := i + 1, rising := false, byp := true : Capture }) (List.range 15) := by decide +kernel

theorem witness_CapturesAndTriggers_3 :
    W.capturesAndTriggers9.inRun 15 = true ∧ W.capturesAndTriggers9.heard 1 = true ∧ 15 < 16 ∧
    tdOf (Reg.TRG_CFG 15) = some 2 ∧ (W.capturesAndTriggers9.txn 2).state = TxnState.idle ∧
    W.capturesAndTriggers9.rwtCode 1 2 (Reg.TRG_CFG 15) 1 = 0 ∧ BitVec.getLsbD (1 : Word) 0 = true ∧ W.capturesAndTriggers9.dtOk = true ∧
    W.capturesAndTriggers9.time.kyo.dt < W.capturesAndTriggers9.trgAt 15 := by decide +kernel

theorem witness_CapturesAndTriggers_4 :
    W.capturesAndTriggers10.inRun 15 = true ∧ W.capturesAndTriggers10.heard 1 = true ∧ 15 < 16 ∧
    tdOf (Reg.TRG_CFG 15) = some 2 ∧ (W.capturesAndTriggers10.txn 2).state = TxnState.idle ∧
    W.capturesAndTriggers10.rwtCode 1 2 (Reg.TRG_CFG 15) 1 = 0 ∧ BitVec.getLsbD (1 : Word) 0 = true ∧
    W.capturesAndTriggers10.dtOk = true ∧ W.capturesAndTriggers10.trgAt 15 ≤ W.capturesAndTriggers10.time.kyo.dt ∧
    BitVec.getLsbD (1 : Word) 1 = false ∧ W.capturesAndTriggers10.trgPeriod 15 = 0 := by decide +kernel

theorem witness_CapturesAndTriggers_5 :
    W.capturesAndTriggers11.inRun 15 = true ∧ W.capturesAndTriggers11.heard 1 = true ∧
    W.capturesAndTriggers11.trgDue 15 = true ∧ ¬W.capturesAndTriggers11.trgPeriod 15 = 0 ∧
    W.capturesAndTriggers11.on (F.TRG_CFG_DMA 15) = false ∧ W.capturesAndTriggers11.on (F.TRG_CFG_CTX 15) = false ∧
    W.capturesAndTriggers11.on (F.TRG_CFG_WAKE 15) = false := by decide +kernel

theorem witness_CapturesAndTriggers_6 :
    W.capturesAndTriggers12.inRun 15 = true ∧ W.capturesAndTriggers12.heard 1 = true ∧
    W.capturesAndTriggers12.trgDue 0 = true ∧ W.capturesAndTriggers12.trgPeriod 0 = 0 ∧
    W.capturesAndTriggers12.on (F.TRG_CFG_DMA 0) = false ∧ W.capturesAndTriggers12.on (F.TRG_CFG_CTX 0) = false ∧
    W.capturesAndTriggers12.on (F.TRG_CFG_WAKE 0) = false := by decide +kernel

/-! ### Network (13) -/

def W.switchCarriesFrames1 : State := W.net [] [(0, [{ W.framed 2 with prio := 3 }, W.framed 1]), (4, [W.framed 3])]
def W.switchCarriesFrames2 : TxFrame := ⟨W.sync 9, 2, 0, none⟩
def W.switchCarriesFrames3 : List Frame := [{ W.framed 2 with prio := 3 }]
def W.switchCarriesFrames5 : State := W.net [(F.PTPA_CTRL_TC_EN, 0), (F.PTPA_CTRL_EN, 0), (F.NET_CTRL_LEARN, 0)] [(3, [W.framed 1])] { txts := W.stamps 1 }
def W.switchCarriesFrames6 : TxStamp := ⟨0, 2, 0, 2 ^ 62⟩
def W.switchCarriesFrames7 : State := W.net [(F.NP_CFG_PVID 1, 7), (F.PTPA_CTRL_EN, 1)] [(1, [W.framed 1 (2 ^ 63 - 1)])] { txts := W.stamps 63 }
def W.linksAndWakeFrames1 : State := W.net [(F.KYO_STATE_SOL, 3), (F.PLL_STAT_STATE 5, 2), (F.NET_CTRL_AGE_S, 300)] [(2, [W.framed 1]), (1, [W.framed 2])] { macs := [(5, 2), (9, 1)] }
def W.linksAndWakeFrames2 : State := W.net [(F.KYO_STATE_SOL, 3), (F.PLL_STAT_STATE 5, 3), (F.NET_CTRL_AGE_S, 300)] [(2, [W.framed 1]), (1, [W.framed 2])] { macs := [(5, 2), (9, 1)] }
def W.linksAndWakeFrames3 : State := W.np3 [] (some (W.framed 3))
def W.linksAndWakeFrames4 : State := W.np3 [(F.NP3_WAKE_CFG_PAT_EN, 8), (⟨Reg.NP3_WAKE_PAT_VAL 3, 0, 32⟩, 0xFF), (⟨Reg.NP3_WAKE_PAT_MASK 3, 0, 32⟩, 0xFF)] (some (W.framed 3))
def W.networkServices1 : State := W.net [(F.PLL_STAT_STATE 5, 2), (F.KYO_STATE_SOL, 3)] [] { asks := [(W.ask 3 4 6 (2 ^ 64 - 1))] }
def W.networkServices2 : State := W.net [(F.PLL_STAT_STATE 5, 3), (F.KYO_STATE_SOL, 2), (F.KYO_STATE_STATE, 4)] [] { asks := [(W.ask 3 3 6 5)], ntpSec := 1, ntpCount := 19999, unicast := [(7, 65535, 2 ^ 90)] }
def W.networkServices3 : State := W.net [(F.PLL_STAT_STATE 5, 3), (F.KYO_STATE_SOL, 0), (F.KYO_STATE_STATE, 2)] [] { asks := [(W.ask 3 3 6 5)], ntpSec := 1, ntpCount := 20000, unicast := [(8, 65535, 2 ^ 90)] }
def W.networkServices4 : State := W.net [(F.PLL_STAT_STATE 5, 3), (F.KYO_STATE_SOL, 0), (F.KYO_STATE_STATE, 2)] [] { asks := [(W.ask 3 3 6 5)], ntpSec := 1, ntpCount := 20001, unicast := [(8, 65535, 2 ^ 90)] }
def W.networkServices6 : State := W.net [] [] { asks := [(W.ask 4 3 6 5 true)] }
def W.networkServices7 : State := { W.net [] [] { asks := [(W.ask 4 3 6 5 true)] } with now := 10 ^ 12 }
def W.linksAndWakeFrames5 : State := { W.net [(F.NET_CTRL_AGE_S, 300)] [] { macs := [(5, 2), (9, 1)] } with now := 10 ^ 12 }
def W.peersReported1 : State := W.peers 31
def W.peersReported2 : State := W.peers 32
def W.peersReported3 : State := W.peers 2
def W.peersReported4 : State := W.peers 2 { conflict := true }
def W.switchCarriesFrames9 : State := W.net [] [(4, [W.framed 3])]
def W.networkServices9 : State := W.net [(F.PLL_STAT_STATE 5, 3)] [] { asks := [W.ask 3 4 5 6 true] }
def W.switchCarriesFrames10 : State := W.net [] [(2, [{ W.framed 4 with prio := 7 }])]
def W.switchCarriesFrames11 : Frame := { W.framed 4 with prio := 7 }
def W.switchCarriesFrames12 : TxFrame := ⟨W.sync 9, 2, 9, none⟩

theorem witness_SwitchCarriesFrames_1 :
    W.switchCarriesFrames1.inRun 16 = true ∧ 0 < 4 ∧
    W.switchCarriesFrames1.on (F.NP_STAT_LINK 0) = true ∧ W.switchCarriesFrames1.on F.NET_CTRL_EN = true ∧ (W.sync 5).length ≤ 1996 ∧
    W.switchCarriesFrames1.vlanOf (if tagged (W.sync 5) = true ∧
    beAt (W.sync 5) 14 2 % 4096 ≠ 0 then beAt (W.sync 5) 14 2 % 4096 else W.switchCarriesFrames1.rd (F.NP_CFG_PVID 0)) = some 63 ∧
    beAt (W.sync 5) 0 6 ≠ beAt (W.sync 5) 6 6 ∧ W.switchCarriesFrames1.on F.NET_CTRL_LEARN = true ∧
    beAt (W.sync 5) 6 6 / 2 ^ 40 % 2 = 0 ∧ List.length W.switchCarriesFrames1.net.macs < 2048 ∧
    nextFrame (W.switchCarriesFrames1.netQueue 0) = some (W.framed 1, W.switchCarriesFrames3) ∧
    ptpEvent (W.framed 1).bytes = some (14, 0, none) ∧ 14 + 16 ≤ (W.framed 1).bytes.length ∧ (W.framed 1).port < 4 ∧
    W.switchCarriesFrames1.on F.PTPA_CTRL_EN = true ∧ W.switchCarriesFrames1.on F.PTPA_CTRL_TC_EN = true ∧
    W.switchCarriesFrames1.on F.PTPA_CTRL_TC_P2P = false ∧
    (W.switchCarriesFrames1.rd F.PTPA_CTRL_TC_PORTS).testBit (W.framed 1).port = true ∧
    (W.switchCarriesFrames1.rd F.PTPA_CTRL_TC_PORTS).testBit 0 = true ∧
    W.switchCarriesFrames1.tcDomain (beAt (W.framed 1).bytes (14 + 4) 1) = true := by decide +kernel

theorem witness_SwitchCarriesFrames_2 :
    W.switchCarriesFrames5.inRun 16 = true ∧ 3 < 4 ∧
    W.switchCarriesFrames5.on (F.NP_STAT_LINK 3) = true ∧ nextFrame (W.switchCarriesFrames5.netQueue 3) = some (W.framed 1, []) ∧
    if (W.framed 1).port = 4 then (W.framed 1).flag = 0 else W.switchCarriesFrames5.on F.PTPA_CTRL_TC_EN = false ∧
    W.switchCarriesFrames5.net.txts = [W.switchCarriesFrames6] ∧ W.switchCarriesFrames5.heard 1 = true ∧
    W.switchCarriesFrames5.answers Reg.PTPA_TXTS_INFO = true := by decide +kernel

theorem witness_SwitchCarriesFrames_3 :
    W.switchCarriesFrames7.inRun 16 = true ∧ 1 < 4 ∧
    W.switchCarriesFrames7.on (F.NP_STAT_LINK 1) = true ∧ W.switchCarriesFrames7.on F.NET_CTRL_EN = true ∧ (W.sync 5).length ≤ 1996 ∧
    W.switchCarriesFrames7.vlanOf (if tagged (W.sync 5) = true ∧
    beAt (W.sync 5) 14 2 % 4096 ≠ 0 then beAt (W.sync 5) 14 2 % 4096 else W.switchCarriesFrames7.rd (F.NP_CFG_PVID 1)) = none := by decide +kernel

theorem witness_LinksAndWakeFrames_1 :
    2 < 4 ∧ W.linksAndWakeFrames1.on (F.NP_STAT_LINK 2) = true ∧ true = true ∧
    W.linksAndWakeFrames1.dtOk = true ∧ W.linksAndWakeFrames1.rd F.KYO_STATE_SOL = 3 ∧ W.linksAndWakeFrames1.rd F.KYO_STATE_STATE = 0 := by decide +kernel

theorem witness_LinksAndWakeFrames_2 :
    W.linksAndWakeFrames2.linkCan 0 = true ∧ 0 < 4 ∧
    W.linksAndWakeFrames2.on (F.NP_STAT_LINK 0) = true ∧ false = false := by decide +kernel

theorem witness_LinksAndWakeFrames_3 :
    W.np3.inRun 0 = true ∧ W.np3.inRun 16 = false ∧ W.np3.on F.NP3_STAT_LINK = true ∧
    (¬(beAt (W.sync 3) 12 2 = 34997 ∧ (beAt (W.sync 3) 0 6 = Config.np3Mac ∨ beAt (W.sync 3) 0 6 = 2 ^ 48 - 1))) ∧
    W.np3.wakeMatch (W.sync 3) = true ∧ W.np3.net.wakeFrame = none := by decide +kernel

theorem witness_LinksAndWakeFrames_4 :
    W.linksAndWakeFrames3.inRun 0 = true ∧ W.linksAndWakeFrames3.inRun 16 = false ∧
    W.linksAndWakeFrames3.on F.NP3_STAT_LINK = true ∧ (¬(beAt (W.sync 3) 12 2 = 34997 ∧
    (beAt (W.sync 3) 0 6 = Config.np3Mac ∨ beAt (W.sync 3) 0 6 = 2 ^ 48 - 1))) ∧ W.linksAndWakeFrames3.wakeMatch (W.sync 3) = true ∧
    ¬W.linksAndWakeFrames3.net.wakeFrame = none := by decide +kernel

theorem witness_LinksAndWakeFrames_5 :
    W.linksAndWakeFrames4.inRun 0 = true ∧ W.linksAndWakeFrames4.inRun 16 = false ∧
    W.linksAndWakeFrames4.on F.NP3_STAT_LINK = true ∧ (¬(beAt (W.sync 3) 12 2 = 34997 ∧
    (beAt (W.sync 3) 0 6 = Config.np3Mac ∨ beAt (W.sync 3) 0 6 = 2 ^ 48 - 1))) ∧ W.linksAndWakeFrames4.wakeMatch (W.sync 3) = false := by decide +kernel

theorem witness_NetworkServices_1 :
    W.networkServices1.inRun 16 = true ∧ W.networkServices1.firmware = true ∧
    W.networkServices1.net.asks[0]? = some (W.ask 3 4 6 (2 ^ 64 - 1)) ∧ udpAt (W.ask 3 4 6 (2 ^ 64 - 1)).bytes = some (34, 4) ∧
    ntpFields (W.ask 3 4 6 (2 ^ 64 - 1)).bytes 34 = (3, 4, 6, 2 ^ 64 - 1) ∧ 3 = 3 ∧
    beAt (W.ask 3 4 6 (2 ^ 64 - 1)).bytes (34 + 4) 2 = 56 ∧ 34 + 56 ≤ (W.ask 3 4 6 (2 ^ 64 - 1)).bytes.length ∧
    tagged (W.ask 3 4 6 (2 ^ 64 - 1)).bytes = false ∧ 3 < 4 ∧ W.networkServices1.on (F.NP_STAT_LINK 3) = true ∧
    W.networkServices1.netQueue 3 = [] ∧
    (W.networkServices1.net.ntpSec ≠ dtSec W.networkServices1.dtNow ∨ W.networkServices1.net.ntpCount < 20000) ∧ 4 = 4 ∧
    (List.filter (fun e => decide (e.fst ≠ 7 ∧
    W.networkServices1.time.kyo.mono < e.snd.snd)) W.networkServices1.net.unicast).length < 1024 ∧
    List.foldl (fun x1 x2 => x1 + x2) 0 (List.map (fun x => x.snd.fst) (List.filter (fun e => decide (e.fst ≠ 7 ∧
    W.networkServices1.time.kyo.mono < e.snd.snd)) W.networkServices1.net.unicast)) + 65536 ≤ 65536 ∧ W.networkServices1.dtOk = true ∧
    W.networkServices1.rd F.KYO_STATE_SOL = 3 ∧ W.networkServices1.rd F.KYO_STATE_STATE = 0 ∧
    (W.networkServices1.rd (F.PLL_STAT_STATE 5) = 2 ∨ W.networkServices1.rd (F.PLL_STAT_STATE 5) = 3) := by decide +kernel

theorem witness_NetworkServices_2 :
    W.networkServices2.inRun 16 = true ∧ W.networkServices2.firmware = true ∧
    W.networkServices2.net.asks[0]? = some (W.ask 3 3 6 5) ∧ udpAt (W.ask 3 3 6 5).bytes = some (34, 4) ∧
    ntpFields (W.ask 3 3 6 5).bytes 34 = (3, 3, 6, 5) ∧ 3 = 3 ∧ beAt (W.ask 3 3 6 5).bytes (34 + 4) 2 = 56 ∧
    34 + 56 ≤ (W.ask 3 3 6 5).bytes.length ∧ tagged (W.ask 3 3 6 5).bytes = false ∧ 0 < 4 ∧
    W.networkServices2.on (F.NP_STAT_LINK 0) = true ∧ W.networkServices2.netQueue 0 = [] ∧
    (W.networkServices2.net.ntpSec ≠ dtSec W.networkServices2.dtNow ∨ W.networkServices2.net.ntpCount < 20000) ∧
    (W.networkServices2.on F.OCQ_STAT_SAFE = true ∨ W.networkServices2.rd F.KYO_STATE_STATE = 2 ∨ W.networkServices2.rd F.KYO_STATE_STATE = 4) ∧
    (W.networkServices2.rd F.KYO_STATE_SOL = 1 ∨ W.networkServices2.rd F.KYO_STATE_SOL = 2) := by decide +kernel

theorem witness_NetworkServices_3 :
    W.networkServices3.inRun 16 = true ∧ W.networkServices3.firmware = true ∧
    W.networkServices3.net.asks[0]? = some (W.ask 3 3 6 5) ∧ udpAt (W.ask 3 3 6 5).bytes = some (34, 4) ∧
    ntpFields (W.ask 3 3 6 5).bytes 34 = (3, 3, 6, 5) ∧ 3 = 3 ∧ beAt (W.ask 3 3 6 5).bytes (34 + 4) 2 = 56 ∧ 0 < 4 ∧
    W.networkServices3.net.ntpSec = dtSec W.networkServices3.dtNow ∧ 20000 ≤ W.networkServices3.net.ntpCount := by decide +kernel

theorem witness_NetworkServices_4 :
    W.networkServices4.inRun 16 = true ∧ W.networkServices4.firmware = true ∧
    (1024 ≤ (List.filter (fun e => decide (e.fst ≠ 7 ∧
    W.networkServices4.time.kyo.mono < e.snd.snd)) W.networkServices4.net.unicast).length ∨ 65536 < List.foldl (fun x1 x2 => x1 + x2) 0 (List.map (fun x => x.snd.fst) (List.filter (fun e => decide (e.fst ≠ 7 ∧
    W.networkServices4.time.kyo.mono < e.snd.snd)) W.networkServices4.net.unicast)) + 2) := by decide +kernel

theorem witness_NetworkServices_5 :
    W.networkServices6.inRun 16 = true ∧ W.networkServices6.firmware = true ∧
    W.networkServices6.net.asks[0]? = some (W.ask 4 3 6 5 true) ∧ udpAt (W.ask 4 3 6 5 true).bytes = some (54, 6) ∧
    ntpFields (W.ask 4 3 6 5 true).bytes 54 = (4, 3, 6, 5) ∧ 2 < 4 ∧ (4 ≠ 3 ∨ beAt (W.ask 4 3 6 5 true).bytes (54 + 4) 2 ≠ 56) := by decide +kernel

theorem witness_NetworkServices_6 :
    W.networkServices7.inRun 16 = true ∧ W.networkServices7.firmware = true ∧ 2 < 3 ∧
    W.networkServices7.ranMs (Timer.esmc 2) 5000 = true := by decide +kernel

theorem witness_LinksAndWakeFrames_6 :
    W.linksAndWakeFrames5.inRun 16 = true ∧ W.linksAndWakeFrames5.rd F.NET_CTRL_AGE_S ≠ 0 ∧
    W.linksAndWakeFrames5.rd F.NET_CTRL_AGE_S * Config.fclkHz ≤ W.linksAndWakeFrames5.now - look 0 W.linksAndWakeFrames5.net.macSeen 5 := by decide +kernel

theorem witness_PeersReported_1 :
    W.peersReported1.inRun 16 = true ∧ W.peersReported1.firmware = true ∧
    leNum (List.take 2 (W.report 5)) = W.peersReported1.net.config.tdom ∧
    leNum (List.take 2 (List.drop 2 (W.report 5))) % 16384 ≠ W.peersReported1.net.config.nodeId ∧
    ¬(reportEpoch (W.report 5) + 300) * 1000000 < inNs W.peersReported1.dtNow ∧
    (List.filter (fun y => decide (y.node ≠ leNum (List.take 2 (List.drop 2 (W.report 5))) % 16384)) W.peersReported1.net.peers).length < 32 ∧
    W.peersReported1.net.conflict = false ∧ W.peersReported1.net.config.reportTo = [(false, 0xE0000000 + 5 % 2 ^ 28)] ∧
    W.peersReported1.vlanOf W.peersReported1.net.config.vid = some 63 := by decide +kernel

theorem witness_PeersReported_2 :
    W.peersReported2.inRun 16 = true ∧ W.peersReported2.firmware = true ∧
    leNum (List.take 2 (W.report 5)) = W.peersReported2.net.config.tdom ∧
    leNum (List.take 2 (List.drop 2 (W.report 5))) % 16384 ≠ W.peersReported2.net.config.nodeId ∧
    ¬(reportEpoch (W.report 5) + 300) * 1000000 < inNs W.peersReported2.dtNow ∧
    32 ≤ (List.filter (fun y => decide (y.node ≠ leNum (List.take 2 (List.drop 2 (W.report 5))) % 16384)) W.peersReported2.net.peers).length ∧
    reportDist (W.report 5) 1000 5 (-6) < farthest (List.filter (fun y => decide (y.node ≠ leNum (List.take 2 (List.drop 2 (W.report 5))) % 16384)) W.peersReported2.net.peers) := by decide +kernel

theorem witness_PeersReported_3 :
    W.peersReported2.inRun 16 = true ∧ W.peersReported2.firmware = true ∧
    (leNum (List.take 2 (W.report 103 0 773)) ≠ W.peersReported2.net.config.tdom ∨ leNum (List.take 2 (List.drop 2 (W.report 103 0 773))) % 16384 ≠ W.peersReported2.net.config.nodeId ∧
    (reportEpoch (W.report 103 0 773) + 300) * 1000000 < inNs W.peersReported2.dtNow) := by decide +kernel

theorem witness_PeersReported_4 :
    W.peersReported3.inRun 16 = true ∧ W.peersReported3.firmware = true ∧
    leNum (List.take 2 (W.report 772)) = W.peersReported3.net.config.tdom ∧
    leNum (List.take 2 (List.drop 2 (W.report 772))) % 16384 = W.peersReported3.net.config.nodeId ∧ W.peersReported3.net.conflict = false := by decide +kernel

theorem witness_PeersReported_5 :
    W.peersReported4.inRun 16 = true ∧ W.peersReported4.firmware = true ∧
    leNum (List.take 2 (W.report 772)) = W.peersReported4.net.config.tdom ∧
    leNum (List.take 2 (List.drop 2 (W.report 772))) % 16384 = W.peersReported4.net.config.nodeId ∧
    (true = true ∨ W.peersReported4.net.conflict = true) ∧ W.peersReported4.net.conflict = true := by decide +kernel

theorem witness_SwitchCarriesFrames_4 :
    W.switchCarriesFrames9.inRun 16 = true ∧ 2 < 4 ∧
    W.switchCarriesFrames9.on (F.NP_STAT_LINK 2) = true ∧ W.switchCarriesFrames9.on F.NET_CTRL_EN = true ∧
    1996 < (List.replicate 1997 5).length ∧ ptpAt W.switchCarriesFrames2.bytes = some (14, none) ∧
    tagged W.switchCarriesFrames2.bytes = false ∧ W.switchCarriesFrames2.config = none ∧ W.switchCarriesFrames9.netQueue 2 = [] ∧
    W.switchCarriesFrames9.on F.PTPA_CTRL_EN = true ∧ W.switchCarriesFrames2.flag = 2 ∧ W.switchCarriesFrames9.net.txts.length < 64 ∧
    nextFrame (W.switchCarriesFrames9.netQueue 4) = some (W.framed 3, []) := by decide +kernel

theorem witness_PeersReported_6 :
    W.peersReported2.inRun 16 = true ∧ W.peersReported2.firmware = true ∧
    leNum (List.take 2 (W.report 5)) = W.peersReported2.net.config.tdom ∧
    leNum (List.take 2 (List.drop 2 (W.report 5))) % 16384 ≠ W.peersReported2.net.config.nodeId ∧
    ¬(reportEpoch (W.report 5) + 300) * 1000000 < inNs W.peersReported2.dtNow ∧
    32 ≤ (List.filter (fun y => decide (y.node ≠ leNum (List.take 2 (List.drop 2 (W.report 5))) % 16384)) W.peersReported2.net.peers).length ∧
    farthest (List.filter (fun y => decide (y.node ≠ leNum (List.take 2 (List.drop 2 (W.report 5))) % 16384)) W.peersReported2.net.peers) ≤ reportDist (W.report 5) 2000 5 (-6) := by decide +kernel

theorem witness_NetworkServices_7 :
    W.networkServices9.inRun 16 = true ∧ W.networkServices9.firmware = true ∧
    W.networkServices9.net.asks[1]? = none := by decide +kernel

theorem witness_SwitchCarriesFrames_5 :
    W.switchCarriesFrames10.inRun 16 = true ∧ 2 < 4 ∧
    W.switchCarriesFrames10.on (F.NP_STAT_LINK 2) = true ∧ tagged W.switchCarriesFrames12.bytes = false ∧
    W.switchCarriesFrames12.config = none ∧ nextFrame (W.switchCarriesFrames10.netQueue 2) = some (W.switchCarriesFrames11, []) ∧
    W.switchCarriesFrames11.port = 4 ∧ W.switchCarriesFrames11.flag = 0 ∧
    prioOf (W.switchCarriesFrames10.announce W.switchCarriesFrames12.bytes) ≤ W.switchCarriesFrames11.prio := by decide +kernel

/-! ### Power (14) -/

def W.powerVotes1 : State := W.doms [(3, 0)] [(3, 1)]
def W.powerVotes2 : State := W.doms [(3, 2)] [(3, 1)]
def W.powerVotes6 : State := W.st [(F.PWR_WAKE_CFG_PIN, 1), (F.PWR_WAKE_CFG_HOST, 1), (F.PWR_WAKE_DOM_DOMAINS 0, 0x40002), (F.PWR_WAKE_DOM_DOMAINS 2, 0x40000)] (W.doms [(18, 0)] [(18, 3)])
def W.domainsRunAndStop1 : State := W.doms [(1, 1)] [(1, 0)]
def W.domainsRunAndStop4 : State := W.doms [(18, 1)]
def W.domainsRunAndStop7 : State := W.doms [(15, 1)] [(15, 0)]
def W.domainsRunAndStop9 : State := W.doms [(8, 1)] [(8, 0)]
def W.domainsRunAndStop11 : State := W.banks (W.doms [(1, 3)] [])
def W.domainsRunAndStop13 : State := W.banks (W.doms [(3, 3)] [(3, 1)])
def W.domainsRunAndStop19 : State := W.doms [(16, 3)] [] (W.net [] [(0, [W.framed 1])])
def W.prooferAdmits1 : State := W.prf (W.podVotes 3)
def W.prooferAdmits2 : State := W.prf ((F.PRF_CTRL_EN, 0) :: W.podVotes 2)
def W.prooferAdmits3 : State := W.prf ((F.PRF_POD_PACK_HI, 0) :: (F.PRF_CAP_MW, 1001) :: W.podVotes 5)
def W.domainsRunAndStop23 : State := W.allVoted 15

theorem witness_PowerVotes_1 :
    W.powerVotes1.inRun 0 = true ∧ 1 ≤ 3 ∧ 3 ≤ 18 ∧ clientOf 1 = some 0 ∧ W.powerVotes1.heard 1 = true ∧
    Nat.testBit 8 3 = true ∧ W.powerVotes1.dom 3 = 0 ∧ W.powerVotes1.power.stopUpdate = false ∧
    (∀ (e : Nat), e ∈ implies 3 → W.powerVotes1.inRun e = true) ∧ W.powerVotes1.on F.PWR_WAKE_CFG_HOST = true ∧
    W.powerVotes1.host.sel ≠ 3 := by decide +kernel

theorem witness_PowerVotes_2 :
    W.powerVotes2.inRun 0 = true ∧ 1 ≤ 3 ∧ 3 ≤ 18 ∧ clientOf 2 = some 1 ∧ W.powerVotes2.heard 2 = true ∧
    Nat.testBit 8 3 = true ∧ 3 ∈ [3, 4, 5, 6, 16, 17, 18] ∧ W.powerVotes2.dom 3 = 2 ∧ W.powerVotes2.rd (F.PWR_DOM_VOTE_VOTES 3) = 2 ^ 1 ∧
    W.powerVotes2.landingOn 3 = false := by decide +kernel

theorem witness_PowerVotes_3 :
    W.powerVotes6.inRun 0 = true ∧ 1 ≤ 18 ∧ 18 ≤ 18 ∧ clientOf 6 = none ∧
    W.powerVotes6.on F.PWR_WAKE_CFG_PIN = true ∧ (W.powerVotes6.rd (F.PWR_WAKE_DOM_DOMAINS 0)).testBit 18 = true ∧
    W.powerVotes6.on F.PWR_WAKE_CFG_HOST = true ∧ W.powerVotes6.host.sel ≠ 3 ∧
    (W.powerVotes6.rd (F.PWR_WAKE_DOM_DOMAINS 2)).testBit 18 = true := by decide +kernel

theorem witness_DomainsRunAndStop_1 :
    1 ≤ 1 ∧ 1 ≤ 18 ∧ W.domainsRunAndStop1.dom 1 = 1 ∧
    (1 ≤ 2 ∨ W.domainsRunAndStop1.inRun 2 = true) ∧ W.domainsRunAndStop1.rd { addr := Reg.PWR_DOM_VOTE 1, lo := 0, w := 1 : Fld } = 1 ∧
    1 = 1 := by decide +kernel

theorem witness_DomainsRunAndStop_2 :
    1 ≤ 18 ∧ 18 ≤ 18 ∧ W.domainsRunAndStop4.dom 18 = 1 ∧
    (18 ≤ 2 ∨ W.domainsRunAndStop4.inRun 2 = true) ∧ 18 = 18 := by decide +kernel

theorem witness_DomainsRunAndStop_3 :
    1 ≤ 15 ∧ 15 ≤ 18 ∧ W.domainsRunAndStop7.dom 15 = 1 ∧
    (15 ≤ 2 ∨ W.domainsRunAndStop7.inRun 2 = true) ∧ 15 = 15 := by decide +kernel

theorem witness_DomainsRunAndStop_4 :
    1 ≤ 8 ∧ 8 ≤ 18 ∧ W.domainsRunAndStop9.dom 8 = 1 ∧
    (8 ≤ 2 ∨ W.domainsRunAndStop9.inRun 2 = true) ∧ 8 ≤ 8 ∧ 8 ≤ 13 := by decide +kernel

theorem witness_DomainsRunAndStop_5 :
    1 ≤ 1 ∧ 1 ≤ 18 ∧ W.domainsRunAndStop11.dom 1 = 3 ∧ W.domainsRunAndStop11.drained 1 = true ∧
    1 = 1 ∧ 0 < 8 := by decide +kernel

theorem witness_DomainsRunAndStop_6 :
    1 ≤ 3 ∧ 3 ≤ 18 ∧ W.domainsRunAndStop13.dom 3 = 3 ∧ W.domainsRunAndStop13.drained 3 = true ∧
    3 ∈ [3, 4, 5, 6, 15, 17] := by decide +kernel

theorem witness_DomainsRunAndStop_7 :
    1 ≤ 16 ∧ 16 ≤ 18 ∧ W.domainsRunAndStop19.dom 16 = 3 ∧ 2 ≤ 16 ∧
    W.domainsRunAndStop19.drainOver 16 = true := by decide +kernel

theorem no_tracks_on_pod2 : W.prooferAdmits1.podTracks 2 = [] := by
  unfold State.podTracks
  rw [filter_enabled W.prooferAdmits1 7 (by decide) rfl (by decide +kernel) _ fun t h => by simp only [h, Bool.false_and]]
  decide +kernel

theorem witness_ProoferAdmits_1 :
    W.prooferAdmits1.inRun 1 = true ∧ W.prooferAdmits1.on F.PRF_CTRL_EN = true ∧
    W.prooferAdmits1.on F.PRF_CTRL_PACK_EN = true ∧ W.prooferAdmits1.power.packTo = none ∧
    W.prooferAdmits1.ranMs Timer.packing (W.prooferAdmits1.rd F.PRF_PACK_PERIOD_MS) = true ∧
    (∀ (p : Nat), p < 6 → W.prooferAdmits1.podVoted p = true → W.prooferAdmits1.podOver p = false) ∧
    (List.filter W.prooferAdmits1.podVoted (List.range 6)).reverse = [2, 1, 0] ∧ List.filter W.prooferAdmits1.podTakes [1, 0] ≠ [] ∧
    W.prooferAdmits1.placeAll (List.filter W.prooferAdmits1.podTakes [1, 0]) (W.prooferAdmits1.rd F.PRF_POD_PACK_LO) (W.prooferAdmits1.podTracks 2) [] = some [] ∧
    [100, 101, 102, 103, 104, 105, 106, -400].length = 8 := by
  rw [no_tracks_on_pod2]
  decide +kernel

theorem one_track_on_pod1 : W.prooferAdmits2.podTracks 1 = [5] := by
  unfold State.podTracks
  rw [filter_enabled W.prooferAdmits2 7 (by decide) rfl (by decide +kernel) _ fun t h => by simp only [h, Bool.false_and]]
  decide +kernel

theorem witness_ProoferAdmits_2 :
    W.prooferAdmits2.inRun 1 = true ∧ W.prooferAdmits2.on F.PRF_CTRL_EN = false ∧
    W.prooferAdmits2.on F.PRF_CTRL_PACK_EN = true ∧ W.prooferAdmits2.power.packTo = none ∧
    W.prooferAdmits2.ranMs Timer.packing (W.prooferAdmits2.rd F.PRF_PACK_PERIOD_MS) = true ∧
    (∀ (p : Nat), p < 6 → W.prooferAdmits2.podVoted p = true → W.prooferAdmits2.podOver p = false) ∧
    (List.filter W.prooferAdmits2.podVoted (List.range 6)).reverse = [1, 0] ∧ List.filter W.prooferAdmits2.podTakes [0] ≠ [] ∧
    W.prooferAdmits2.placeAll (List.filter W.prooferAdmits2.podTakes [0]) (W.prooferAdmits2.rd F.PRF_POD_PACK_LO) (W.prooferAdmits2.podTracks 1) [] = some [(5, 0)] ∧
    (W.prooferAdmits2.trk 5).stopping = false ∧ (W.prooferAdmits2.trk 5).moveTo = none := by
  rw [one_track_on_pod1]
  decide +kernel

theorem witness_ProoferAdmits_3 :
    W.prooferAdmits3.inRun 1 = true ∧ W.prooferAdmits3.on F.PRF_CTRL_PACK_EN = true ∧
    W.prooferAdmits3.power.packTo = none ∧ W.prooferAdmits3.ranMs Timer.packing (W.prooferAdmits3.rd F.PRF_PACK_PERIOD_MS) = true ∧
    (∃ p, p < 6 ∧ W.prooferAdmits3.podVoted p = true ∧ W.prooferAdmits3.podOver p = true) ∧ 5 < 6 ∧ W.prooferAdmits3.podVoted 5 = false ∧
    (∀ (p : Nat), p < 5 → W.prooferAdmits3.podVoted p = true) := by decide +kernel

theorem witness_DomainsRunAndStop_8 :
    1 ≤ 15 ∧ 15 ≤ 18 ∧ W.domainsRunAndStop23.dom 15 = 3 ∧ W.domainsRunAndStop23.drained 15 = true ∧
    15 = 15 ∧ 2 ≤ 15 ∧ W.domainsRunAndStop23.drainOver 15 = true ∧ 15 ∈ [3, 4, 5, 6, 15, 17] := by decide +kernel

/-! ### RTC, calendar, Ledger (15) -/

def W.rtcKeepsTime1 : State := W.rtc { count := 2 ^ 80 - 2 ^ 17 }
def W.rtcKeepsTime2 : State := W.rtc { count := 2 ^ 40 + 5, window := 0, snap := true } [(F.RTC_TRIM_N, 1), (F.RTC_TRIM_DIR, 0), (F.RTC_ALARM_HI_ARM, 1), (F.RTC_ALARM_LO_SEC_LO, 256)]
def W.rtcKeepsTime3 : State := W.rtc { count := 2 ^ 40 + 5, window := 0, snap := true, alarmLate := true } [(F.RTC_TRIM_N, 1), (F.RTC_TRIM_DIR, 1), (F.RTC_ALARM_HI_ARM, 1), (F.RTC_ALARM_LO_SEC_LO, 255), (F.PWR_WAKE_CFG_RTC, 1), (F.RTC_STAT_OSC_FAIL, 1)]
def W.rtcKeepsTime4 : State := W.rtc { count := 2 ^ 40 + 5, window := 3, snap := true, apply := some (2 ^ 80 + 5) } [(F.RTC_ALARM_HI_ARM, 1), (F.RTC_ALARM_HI_SEC_HI, 1)]
def W.rtcKeepsTime5 : State := W.rtc { count := 2 ^ 40 + 5, window := 3, align := true }
def W.rtcKeepsTime6 : State := W.rtc { count := 2 ^ 40 + 5, window := 3, align := true, apply := some 7 } [] W.run
def W.calendarAndLedger1 : State := W.rtc { count := 2 ^ 40 + 5 }
def W.calendarAndLedger2 : State := W.conv { calOp := 1, calBct := 32 }
def W.calendarAndLedger3 : State := W.conv { calOp := 1, calBct := 31 }
def W.calendarAndLedger6 : State := W.conv { calOp := 2, calDate := 0x07D00102, calTime := 0x00010203 }
def W.calendarAndLedger7 : State := W.conv { calOp := 2, calDate := 0x07D00100, calTime := 0x00010203 }
def W.calendarAndLedger9 : State := { W.run with ledger := { work := [(0x18, 7), (0xFFFF, 255)], changed := true, since := 600 } }
def W.calendarAndLedger11 : State := W.leaps [(1000, 33)] (W.sub [1001, 0x220000, 5, 0x80000000])
def W.calendarAndLedger15 : State := W.leaps [] (W.sub [0, 0x200000, 5, 0x80000000])
def W.calendarAndLedger16 : State := W.leaps ((List.range 64).map fun i => (i + 1, 33)) (W.sub [1000, 0x220000, 5, 0x80000000])

theorem witness_RtcKeepsTime_1 :
    W.rtcKeepsTime1.inRun 0 = true ∧ W.rtcKeepsTime1.heard 1 = true ∧
    W.rtcKeepsTime1.rd F.RTC_TRIM_N = 0 ∧ W.rtcKeepsTime1.rtc.apply = none ∧ W.rtcKeepsTime1.rtc.align = false ∧
    W.rtcKeepsTime1.on F.RTC_STAT_OSC_FAIL = false := by decide +kernel

theorem witness_RtcKeepsTime_2 :
    W.rtcKeepsTime2.inRun 0 = true ∧ W.rtcKeepsTime2.heard 1 = true ∧ W.rtcKeepsTime2.rtc.snap = true ∧
    W.rtcKeepsTime2.on F.RTC_ALARM_HI_ARM = true ∧ W.rtcKeepsTime2.alarmAt ≤ rtcSec W.rtcKeepsTime2.rtc.count ∧
    W.rtcKeepsTime2.on F.PWR_WAKE_CFG_RTC = false := by decide +kernel

theorem witness_RtcKeepsTime_3 :
    W.rtcKeepsTime3.inRun 0 = true ∧ W.rtcKeepsTime3.heard 1 = true ∧
    W.rtcKeepsTime3.on F.RTC_ALARM_HI_ARM = true ∧ W.rtcKeepsTime3.alarmAt ≤ rtcSec W.rtcKeepsTime3.rtc.count ∧
    W.rtcKeepsTime3.rtc.alarmLate = true ∧ W.rtcKeepsTime3.on F.PWR_WAKE_CFG_RTC = true ∧ W.rtcKeepsTime3.on F.RTC_STAT_OSC_FAIL = true := by decide +kernel

theorem witness_RtcKeepsTime_4 :
    W.rtcKeepsTime4.inRun 0 = true ∧ W.rtcKeepsTime4.heard 1 = true ∧
    W.rtcKeepsTime4.rtc.apply = some (2 ^ 80 + 5) ∧ W.rtcKeepsTime4.rtc.align = false := by decide +kernel

theorem witness_RtcKeepsTime_5 :
    W.rtcKeepsTime5.inRun 0 = true ∧ W.rtcKeepsTime5.heard 1 = true ∧ W.rtcKeepsTime5.rtc.align = true ∧
    W.rtcKeepsTime5.dtOk = true := by decide +kernel

theorem witness_RtcKeepsTime_6 :
    W.rtcKeepsTime6.inRun 0 = true ∧ W.rtcKeepsTime6.heard 1 = true ∧ W.rtcKeepsTime6.rtc.align = true ∧
    W.rtcKeepsTime6.dtOk = false := by decide +kernel

theorem witness_CalendarAndLedger_1 :
    W.calendarAndLedger1.inRun 0 = true ∧ W.calendarAndLedger1.heard 1 = true ∧
    W.calendarAndLedger1.on F.CAL_STATUS_BUSY = false ∧ isCore 1 = true ∧ W.calendarAndLedger1.leapTable.length < 64 ∧
    (¬((W.calendarAndLedger1.leapTable = [] ∨ (W.calendarAndLedger1.leapTable.getLast?.getD (0, 32)).fst < W.calendarAndLedger1.subValue % 2 ^ 48) ∧
    (signed 8 (W.calendarAndLedger1.subValue / 2 ^ 48) - (W.calendarAndLedger1.leapTable.getLast?.getD (0, 32)).snd = 1 ∨ signed 8 (W.calendarAndLedger1.subValue / 2 ^ 48) - (W.calendarAndLedger1.leapTable.getLast?.getD (0, 32)).snd = -1))) := by decide +kernel

theorem witness_CalendarAndLedger_2 :
    W.calendarAndLedger2.inRun 0 = true ∧ W.calendarAndLedger2.heard 1 = true ∧
    W.calendarAndLedger2.on F.CAL_STATUS_BUSY = true ∧ W.calendarAndLedger2.rtc.calOp ≠ 2 ∧
    bctToUtc W.calendarAndLedger2.rtc.calLeaps W.calendarAndLedger2.rtc.calBct = Except.ok (0, 0, 32, false) ∧ ¬false = true := by
  refine ⟨?_, ?_, ?_, ?_, ?_, ?_⟩ <;> first | decide | rfl

theorem witness_CalendarAndLedger_3 :
    W.calendarAndLedger3.inRun 0 = true ∧ W.calendarAndLedger3.heard 1 = true ∧
    W.calendarAndLedger3.on F.CAL_STATUS_BUSY = true ∧ W.calendarAndLedger3.rtc.calOp ≠ 2 ∧
    bctToUtc W.calendarAndLedger3.rtc.calLeaps W.calendarAndLedger3.rtc.calBct = Except.error 6 := by
  refine ⟨?_, ?_, ?_, ?_, ?_⟩ <;> first | decide | rfl

theorem witness_CalendarAndLedger_4 :
    W.calendarAndLedger6.inRun 0 = true ∧ W.calendarAndLedger6.heard 1 = true ∧
    W.calendarAndLedger6.on F.CAL_STATUS_BUSY = true ∧ W.calendarAndLedger6.rtc.calOp = 2 ∧
    utcToBct W.calendarAndLedger6.rtc.calLeaps (bits W.calendarAndLedger6.rtc.calDate 16 12) (bits W.calendarAndLedger6.rtc.calDate 8 4) (bits W.calendarAndLedger6.rtc.calDate 0 5) (bits W.calendarAndLedger6.rtc.calTime 16 5) (bits W.calendarAndLedger6.rtc.calTime 8 6) (bits W.calendarAndLedger6.rtc.calTime 0 6) = Except.ok (1, 86400 + 3600 + 123 + 32, 32) ∧
    ¬bits W.calendarAndLedger6.rtc.calTime 0 6 = 60 := by
  refine ⟨?_, ?_, ?_, ?_, ?_, ?_⟩ <;> first | decide | rfl

theorem witness_CalendarAndLedger_5 :
    W.calendarAndLedger7.inRun 0 = true ∧ W.calendarAndLedger7.heard 1 = true ∧
    W.calendarAndLedger7.on F.CAL_STATUS_BUSY = true ∧ W.calendarAndLedger7.rtc.calOp = 2 ∧
    utcToBct W.calendarAndLedger7.rtc.calLeaps (bits W.calendarAndLedger7.rtc.calDate 16 12) (bits W.calendarAndLedger7.rtc.calDate 8 4) (bits W.calendarAndLedger7.rtc.calDate 0 5) (bits W.calendarAndLedger7.rtc.calTime 16 5) (bits W.calendarAndLedger7.rtc.calTime 8 6) (bits W.calendarAndLedger7.rtc.calTime 0 6) = Except.error 1 := by
  refine ⟨?_, ?_, ?_, ?_, ?_⟩ <;> first | decide | rfl

theorem witness_CalendarAndLedger_6 :
    W.calendarAndLedger9.inRun 0 = true ∧ W.calendarAndLedger9.heard 1 = true ∧
    (∀ (x : Host.Cell), x ∈ W.calendarAndLedger9.ledger.work → x.fst < 65536) ∧
    (W.calendarAndLedger9.power.stopUpdate = true ∨ W.calendarAndLedger9.ledger.changed = true ∧ 600 ≤ W.calendarAndLedger9.ledger.since) := by decide +kernel

theorem witness_CalendarAndLedger_7 :
    W.calendarAndLedger11.inRun 0 = true ∧ W.calendarAndLedger11.heard 4 = true ∧ isCore 4 = true ∧
    W.calendarAndLedger11.leapTable.length < 64 ∧
    ((W.calendarAndLedger11.leapTable = [] ∨ (W.calendarAndLedger11.leapTable.getLast?.getD (0, 32)).fst < W.calendarAndLedger11.subValue % 2 ^ 48) ∧
    (signed 8 (W.calendarAndLedger11.subValue / 2 ^ 48) - (W.calendarAndLedger11.leapTable.getLast?.getD (0, 32)).snd = 1 ∨ signed 8 (W.calendarAndLedger11.subValue / 2 ^ 48) - (W.calendarAndLedger11.leapTable.getLast?.getD (0, 32)).snd = -1)) := by decide +kernel

theorem witness_CalendarAndLedger_8 :
    W.calendarAndLedger15.inRun 0 = true ∧ W.calendarAndLedger15.heard 5 = true ∧ isCore 5 = false := by decide +kernel

theorem witness_CalendarAndLedger_9 :
    W.calendarAndLedger16.inRun 0 = true ∧ W.calendarAndLedger16.heard 1 = true ∧ isCore 1 = true ∧
    64 ≤ W.calendarAndLedger16.leapTable.length := by decide +kernel

/-! ### Island and crumbs (16) -/

def W.safeStateHolds1 : State := W.active (W.ocq [(F.OCQ_STEST_STAT_BUSY, 1)])
def W.safeStateHolds3 : State := W.safe
def W.safeStateHolds5 : State := W.safe [] { lastRise := 2 ^ 20 - 32767 }
def W.safeStateHolds7 : State := W.safe [] { level := [(67, 1)] }
def W.faultsAndCrumbs1 : State := W.ocq
def W.faultsAndCrumbs3 : State := W.ocq [] { level := [(191, 1)], count := [(66, 0xFFFF)] }
def W.faultsAndCrumbs4 : State := W.ocq [] { count := [(66, 0xFFFF)] }
def W.faultsAndCrumbs5 : State := W.ocq [] {}
def W.faultsAndCrumbs6 : State := W.ocq [(F.FLT_CTRL_LOCK, 1)] {}
def W.faultsAndCrumbs7 : State := W.crumbs 1
def W.faultsAndCrumbs8 : Crumb := { type := 0x80, payload := [0] }
def W.faultsAndCrumbs9 : State := W.crumbs 32
def W.faultsAndCrumbs11 : State := W.crumbs 2 {} [(F.CRUMB_STAT_SCAN, 1)]
def W.safeStateHolds9 : State := { W.safe with now := 10 ^ 16 }
def W.faultsAndCrumbs13 : State := W.ocq [(bitFld (Reg.FLT_CLASS 0) 0, 0)] {}
def W.faultsAndCrumbs14 : State := W.ocq [(F.OCQ_STEST_STAT_BUSY, 1)]
def W.faultsAndCrumbs15 : State := W.ocq [] { banksOut := [1], level := [(61, 1)] }
def W.faultsAndCrumbs16 : State := W.ocq [] { banks := [0, 18], banksOut := [0], level := [(61, 1)] }
def W.faultsAndCrumbs17 : State := W.crumbs 2 { abandoned := some 1022 }
def W.faultsAndCrumbs18 : List Crumb := [{ type := 0x81, payload := [1] }]

theorem witness_SafeStateHolds_1 :
    W.safeStateHolds1.inRun 2 = true ∧ W.safeStateHolds1.heard 1 = true ∧ safeReqOk 1 23294 = true ∧
    W.safeStateHolds1.on F.OCQ_STAT_SAFE = false ∧ W.safeStateHolds1.on F.OCQ_STAT_RUN = true ∧
    W.safeStateHolds1.ranMs Timer.heartbeat W.safeStateHolds1.heartbeatMs = true ∧ isCore 1 = true ∧
    W.safeStateHolds1.reg Reg.OCQ_HB ≠ 77 ∧ W.safeStateHolds1.on F.OCQ_STEST_STAT_BUSY = true ∧ W.safeStateHolds1.safety.retest = [] := by decide +kernel

theorem witness_SafeStateHolds_2 :
    W.safeStateHolds3.inRun 2 = true ∧ W.safeStateHolds3.heard 3 = true ∧ safeReqOk 3 23294 = true ∧
    W.safeStateHolds3.on F.OCQ_STAT_SAFE = true ∧ W.safeStateHolds3.exitRes = 0 ∧ W.safeStateHolds3.on F.OCQ_SAFE_CFG_AUTO_EXIT = true := by decide +kernel

theorem witness_SafeStateHolds_3 :
    W.safeStateHolds5.inRun 2 = true ∧ W.safeStateHolds5.heard 3 = true ∧ safeReqOk 3 23294 = true ∧
    W.safeStateHolds5.on F.OCQ_STAT_SAFE = true ∧ W.safeStateHolds5.exitRes ≠ 0 := by decide +kernel

theorem witness_SafeStateHolds_4 :
    W.safeStateHolds7.inRun 2 = true ∧ W.safeStateHolds7.heard 5 = true ∧ safeReqOk 5 23294 = false ∧
    isCore 5 = false := by decide +kernel

theorem witness_FaultsAndCrumbs_1 :
    W.faultsAndCrumbs1.inRun 0 = true ∧ W.faultsAndCrumbs1.heard 5 = true ∧
    W.faultsAndCrumbs1.inRun 2 = true ∧ fltWriter 5 = true ∧ 128 ≤ 128 ∧ 128 < 192 ∧ look 0 W.faultsAndCrumbs1.safety.level 128 = 0 ∧
    0 < 13 ∧ bankOf 0 = none ∧ 0 ≠ 2 ∧ W.faultsAndCrumbs1.on F.CRUMB_STAT_SCAN = false ∧ W.faultsAndCrumbs1.crumb.powerLoss = none ∧
    W.faultsAndCrumbs1.crumb.queue = [] ∧ 128 < 256 ∧ W.faultsAndCrumbs1.crumbRoom = true := by decide +kernel

theorem witness_FaultsAndCrumbs_2 :
    W.faultsAndCrumbs3.inRun 0 = true ∧ W.faultsAndCrumbs3.heard 1 = true ∧
    W.faultsAndCrumbs3.inRun 2 = true ∧ fltWriter 1 = true ∧ 128 ≤ 191 ∧ 191 < 192 ∧ look 0 W.faultsAndCrumbs3.safety.level 191 ≠ 0 := by decide +kernel

theorem witness_FaultsAndCrumbs_3 :
    W.faultsAndCrumbs4.inRun 0 = true ∧ W.faultsAndCrumbs4.heard 32 = true ∧
    W.faultsAndCrumbs4.inRun 2 = true ∧ fltWriter 32 = false ∧ 66 = 66 ∧ W.faultsAndCrumbs4.inRun 15 = true ∧
    W.faultsAndCrumbs4.on F.OCQ_STAT_RUN = true ∧ look 0 W.faultsAndCrumbs4.safety.level 66 = 0 ∧ W.faultsAndCrumbs4.fltClass 66 = 0 ∧
    127 < 128 := by decide +kernel

theorem witness_FaultsAndCrumbs_4 :
    W.faultsAndCrumbs5.inRun 0 = true ∧ W.faultsAndCrumbs5.heard 1 = true ∧
    W.faultsAndCrumbs5.inRun 2 = true ∧ fltWriter 1 = true ∧ W.faultsAndCrumbs5.on F.FLT_CTRL_LOCK = false ∧ 68 < 70 ∧
    look 0 W.faultsAndCrumbs5.safety.level 68 = 0 ∧ (decide (1 = 5 ∧ 68 ≤ 66) && W.faultsAndCrumbs5.on F.OCQ_STEST_STAT_BUSY) = false ∧
    68 = 68 := by decide +kernel

theorem witness_FaultsAndCrumbs_5 :
    W.faultsAndCrumbs6.inRun 0 = true ∧ W.faultsAndCrumbs6.heard 1 = true ∧
    W.faultsAndCrumbs6.inRun 2 = true ∧ fltWriter 1 = true ∧ W.faultsAndCrumbs6.on F.FLT_CTRL_LOCK = true ∧ 1 ≠ 5 := by decide +kernel

theorem witness_FaultsAndCrumbs_6 :
    W.faultsAndCrumbs7.inRun 0 = true ∧ W.faultsAndCrumbs7.heard 32 = true ∧
    W.faultsAndCrumbs7.on F.CRUMB_STAT_SCAN = false ∧ W.faultsAndCrumbs7.crumb.powerLoss = none ∧
    W.faultsAndCrumbs7.crumb.queue = [W.faultsAndCrumbs8] ∧ W.faultsAndCrumbs7.crumb.lostSince = 0 ∧
    W.faultsAndCrumbs7.crumb.abandoned = none ∧ ¬W.faultsAndCrumbs7.crumb.queue = [] := by decide +kernel

theorem witness_FaultsAndCrumbs_7 :
    W.faultsAndCrumbs9.inRun 0 = true ∧ W.faultsAndCrumbs9.heard 3 = true ∧ 128 ≤ 128 ∧ 128 < 256 ∧
    W.faultsAndCrumbs9.crumbRoom = false := by decide +kernel

theorem witness_FaultsAndCrumbs_8 :
    W.scanned.inRun 0 = true ∧ W.scanned.heard 3 = true ∧ W.scanned.on F.CRUMB_STAT_SCAN = true ∧
    W.scanned.crumb.powerLoss = none ∧ W.scanned.lastSeq = some (2 ^ 32 - 1) := by decide +kernel

theorem witness_FaultsAndCrumbs_9 :
    W.faultsAndCrumbs11.inRun 0 = true ∧ W.faultsAndCrumbs11.heard 3 = true ∧
    W.faultsAndCrumbs11.on F.CRUMB_STAT_SCAN = true ∧ W.faultsAndCrumbs11.crumb.powerLoss = none ∧ W.faultsAndCrumbs11.lastSeq = none := by decide +kernel

theorem witness_SafeStateHolds_5 :
    W.safeStateHolds9.inRun 2 = true ∧ W.safeStateHolds9.heard 32 = true ∧
    W.safeStateHolds9.on F.OCQ_STAT_RUN = true ∧ W.safeStateHolds9.ranMs Timer.selfTest W.safeStateHolds9.selfTestMs = true := by decide +kernel

theorem witness_FaultsAndCrumbs_10 :
    W.faultsAndCrumbs13.inRun 0 = true ∧ W.faultsAndCrumbs13.heard 1 = true ∧ 2 < 13 ∧
    bankOf 2 = none ∧ 2 = 2 ∧ W.faultsAndCrumbs13.on F.CRUMB_STAT_SCAN = false ∧ W.faultsAndCrumbs13.crumb.powerLoss = none := by decide +kernel

theorem witness_FaultsAndCrumbs_11 :
    W.faultsAndCrumbs14.inRun 0 = true ∧ W.faultsAndCrumbs14.heard 5 = true ∧
    W.faultsAndCrumbs14.inRun 2 = true ∧ fltWriter 5 = true ∧ (decide (5 = 5 ∧
    66 ≤ 66) && W.faultsAndCrumbs14.on F.OCQ_STEST_STAT_BUSY) = true := by decide +kernel

theorem witness_FaultsAndCrumbs_12 :
    W.faultsAndCrumbs15.inRun 0 = true ∧ W.faultsAndCrumbs15.heard 1 = true ∧
    W.faultsAndCrumbs15.inRun 2 = true ∧ fltWriter 1 = true ∧ W.faultsAndCrumbs15.on F.FLT_CTRL_LOCK = false ∧ 66 < 70 ∧
    look 0 W.faultsAndCrumbs15.safety.level 66 = 0 ∧ (decide (1 = 5 ∧ 66 ≤ 66) && W.faultsAndCrumbs15.on F.OCQ_STEST_STAT_BUSY) = false ∧
    W.faultsAndCrumbs15.fltClass 66 = 0 ∧ 9 < 13 ∧ bankOf 9 = some 0 ∧ W.faultsAndCrumbs15.safety.banks[0]?.getD 0 ≠ 0 := by decide +kernel

theorem witness_FaultsAndCrumbs_13 :
    W.faultsAndCrumbs16.inRun 0 = true ∧ W.faultsAndCrumbs16.heard 1 = true ∧ 9 < 13 ∧
    bankOf 9 = some 0 ∧ W.faultsAndCrumbs16.safety.banks[0]?.getD 0 = 0 := by decide +kernel

theorem witness_FaultsAndCrumbs_14 :
    W.faultsAndCrumbs17.inRun 0 = true ∧ W.faultsAndCrumbs17.heard 3 = true ∧
    W.faultsAndCrumbs17.on F.CRUMB_STAT_SCAN = false ∧ W.faultsAndCrumbs17.crumb.powerLoss = none ∧
    W.faultsAndCrumbs17.crumb.queue = W.faultsAndCrumbs8 :: W.faultsAndCrumbs18 ∧ W.faultsAndCrumbs17.crumb.lostSince = 0 ∧
    ¬W.faultsAndCrumbs17.crumb.abandoned = none := by decide +kernel

/-! ### DMA (17) -/

def W.channelsObey1 : State := W.bch 15 0 0x10001000 0x10002000 64
def W.channelsObey3 : State := W.bch 0 1 0x10001000 0x10002000 64
def W.channelsObey6 : State := W.bch 0 4 0x10001000 0x10002000 64
def W.channelsObey7 : State := W.pch 7 0 [] 0x90000000
def W.channelsObey8 : State := W.pch 7 1 [] 0x90000000 [] 256
def W.channelsObey10 : State := W.pch 0 3 [] 0x90000000
def W.channelsObey11 : State := W.pch 0 3 [] 0x8C000800
def W.burstsCarry1 : State := W.bch 15 1 0x10001080 0x10002000 70
def W.burstsCarry2 : State := W.bch 15 1 0x10001080 0x10002000 32 [(F.DMA_BCH_CFG_SWAP 15, 3)]
def W.burstsCarry3 : State := W.bch 15 1 0x10001080 0x10002000 64 [(F.DMA_RGN_LIMIT_LIMIT 7, 0x10001), (F.DMA_RGN_ATTR_VALID 0, 0), (F.DMA_RGN_ATTR_VALID 1, 0), (F.DMA_RGN_ATTR_VALID 2, 0)]
def W.burstsCarry4 : State := W.bch 5 1 0x10001080 0x10002000 64 [(F.DMA_BCH_CFG_PACE_EN 5, 1), (F.DMA_BCH_CFG_PACE_SRC 5, 5)]
def W.burstsCarry5 : State := W.bch 5 2 0x10001080 0x10002000 64
def W.burstsCarry7 : State := W.pch 7 1 [(1, 64), (2, 0x10001000), (3, 0x10002000)] 0x90000000
def W.burstsCarry8 : State := W.pch 7 1 [(1, 64), (2, 0x10001004), (3, 0x10002000)] 0x90000000
def W.burstsCarry10 : State := W.pch 7 1 [(1, 0x1000000), (2, 0x10001004), (3, 0x10002000)] 0x90000000
def W.burstsCarry12 : State := W.bch 5 1 0x10001080 0x10002000 64 [(F.DMA_BCH_STAT_STATE 4, 1), (F.DMA_BCH_CUR_COUNT_COUNT 4, 4), (F.DMA_BCH_CFG_PRIO 4, 1)]
def W.burstsCarry13 : State := W.bch 5 1 0x10001080 0x10002000 64 [(F.DMA_BCH_STAT_STATE 4, 1), (F.DMA_BCH_CUR_COUNT_COUNT 4, 4)]

theorem witness_ChannelsObey_1 :
    W.channelsObey1.inRun 18 = true ∧ W.channelsObey1.heard 1 = true ∧ 15 < 16 ∧ 7 < 8 ∧
    Nat.testBit 255 7 = true ∧ W.channelsObey1.mayConfigure 1 (12288 + 15) = true ∧
    (W.channelsObey1.rd (F.DMA_BCH_STAT_STATE 15) = 0 ∨ W.channelsObey1.rd (F.DMA_BCH_STAT_STATE 15) = 5) ∧
    W.channelsObey1.on F.DMA_STAT_HALT_BUSERR = false ∧ W.channelsObey1.mayConfigure 1 (16384 + 7) = false := by decide +kernel

theorem witness_ChannelsObey_2 :
    W.channelsObey3.inRun 18 = true ∧ W.channelsObey3.heard 1 = true ∧ 0 < 16 ∧ 7 < 8 ∧
    Nat.testBit 255 7 = true ∧ W.channelsObey3.mayConfigure 1 (12288 + 0) = true ∧ (W.channelsObey3.rd (F.DMA_BCH_STAT_STATE 0) ≠ 0 ∧
    W.channelsObey3.rd (F.DMA_BCH_STAT_STATE 0) ≠ 5 ∨ W.channelsObey3.on F.DMA_STAT_HALT_BUSERR = true) ∧
    (W.channelsObey3.rd (F.DMA_BCH_STAT_STATE 0) = 1 ∨ W.channelsObey3.rd (F.DMA_BCH_STAT_STATE 0) = 2) := by decide +kernel

theorem witness_ChannelsObey_3 :
    W.channelsObey6.inRun 18 = true ∧ W.channelsObey6.heard 2 = true ∧ 0 < 16 ∧ 7 < 8 ∧
    Nat.testBit 255 7 = true ∧ W.channelsObey6.mayConfigure 2 (12288 + 0) = false := by decide +kernel

theorem witness_ChannelsObey_4 :
    W.channelsObey7.inRun 18 = true ∧ W.channelsObey7.heard 1 = true ∧ 0 < 16 ∧ 7 < 8 ∧
    Nat.testBit 255 7 = true ∧ W.channelsObey7.mayConfigure 1 (16384 + 7) = true ∧
    W.channelsObey7.rd (F.DMA_PCH_STAT_STATE 7) ∈ [0, 3, 7, 8] ∧
    (W.channelsObey7.rd (F.DMA_PCH_STAT_STATE 7) ≠ 3 ∨ W.channelsObey7.on F.DMA_STAT_HALT_BUSERR = true) := by decide +kernel

theorem witness_ChannelsObey_5 :
    W.channelsObey8.inRun 18 = true ∧ W.channelsObey8.heard 1 = true ∧ 0 < 16 ∧ 7 < 8 ∧
    Nat.testBit 255 7 = true ∧ W.channelsObey8.mayConfigure 1 (16384 + 7) = true ∧
    ¬W.channelsObey8.rd (F.DMA_PCH_STAT_STATE 7) ∈ [0, 3, 7, 8] := by decide +kernel

theorem witness_ChannelsObey_6 :
    W.channelsObey10.inRun 18 = true ∧ W.channelsObey10.heard 1 = true ∧ 0 < 16 ∧ 0 < 8 ∧
    Nat.testBit 255 0 = true ∧ W.channelsObey10.mayConfigure 1 (16384 + 0) = true ∧ W.channelsObey10.rd (F.DMA_PCH_STAT_STATE 0) = 3 ∧
    W.channelsObey10.on F.DMA_STAT_HALT_BUSERR = false ∧
    lyzDecode (40 + 0) (W.channelsObey10.ld32 (W.channelsObey10.pcByte (40 + 0))) = some (Instr.end_ (40 + 0)) := by decide +kernel

theorem witness_ChannelsObey_7 :
    W.channelsObey11.inRun 18 = true ∧ W.channelsObey11.heard 1 = true ∧ 0 < 16 ∧ 0 < 8 ∧
    Nat.testBit 255 0 = true ∧ W.channelsObey11.mayConfigure 1 (16384 + 0) = true ∧ W.channelsObey11.rd (F.DMA_PCH_STAT_STATE 0) = 3 ∧
    W.channelsObey11.on F.DMA_STAT_HALT_BUSERR = false ∧
    lyzDecode (40 + 0) (W.channelsObey11.ld32 (W.channelsObey11.pcByte (40 + 0))) = some (Instr.link (40 + 0) 0x10002000) := by decide +kernel

theorem witness_BurstsCarry_1 :
    W.burstsCarry1.inRun 18 = true ∧ W.burstsCarry1.heard 1 = true ∧ 15 < 16 ∧ 0 < 8 ∧
    W.burstsCarry1.rd (F.DMA_BCH_STAT_STATE 15) = 1 ∧ W.burstsCarry1.on F.DMA_STAT_HALT_BUSERR = false ∧
    W.burstsCarry1.on (F.DMA_BCH_CFG_PACE_EN 15) = false ∧ (W.burstsCarry1.bchXfer 15).alignErr = false ∧
    (W.burstsCarry1.bchXfer 15).srcFix = false ∧ (W.burstsCarry1.bchXfer 15).dstFix = false ∧ W.burstsCarry1.inTurn 15 = true ∧
    W.burstsCarry1.regionErr (W.burstsCarry1.bchXfer 15) = false ∧ (W.burstsCarry1.bchXfer 15).srcPcie = false ∧
    (W.burstsCarry1.bchXfer 15).dstPcie = false ∧ W.burstsCarry1.inRun 0 = true ∧ W.burstsCarry1.inRun 1 = true ∧
    ((2 ^ 28) ≤ (W.burstsCarry1.bchXfer 15).src ∧
    (W.burstsCarry1.bchXfer 15).src + ((256 - (W.burstsCarry1.bchXfer 15).src % 256).min (256 - (W.burstsCarry1.bchXfer 15).dst % 256)).min ((W.burstsCarry1.bchXfer 15).count * (W.burstsCarry1.bchXfer 15).elem) ≤ 0x10780000) ∧
    ((2 ^ 28) ≤ (W.burstsCarry1.bchXfer 15).dst ∧
    (W.burstsCarry1.bchXfer 15).dst + ((256 - (W.burstsCarry1.bchXfer 15).src % 256).min (256 - (W.burstsCarry1.bchXfer 15).dst % 256)).min ((W.burstsCarry1.bchXfer 15).count * (W.burstsCarry1.bchXfer 15).elem) ≤ 0x10780000) ∧
    W.burstsCarry1.badIn (W.burstsCarry1.bchXfer 15).src (((256 - (W.burstsCarry1.bchXfer 15).src % 256).min (256 - (W.burstsCarry1.bchXfer 15).dst % 256)).min ((W.burstsCarry1.bchXfer 15).count * (W.burstsCarry1.bchXfer 15).elem)) = false ∧
    W.burstsCarry1.badIn (W.burstsCarry1.bchXfer 15).dst (((256 - (W.burstsCarry1.bchXfer 15).src % 256).min (256 - (W.burstsCarry1.bchXfer 15).dst % 256)).min ((W.burstsCarry1.bchXfer 15).count * (W.burstsCarry1.bchXfer 15).elem)) = false ∧
    (2 ^ 23) < 2 ^ 24 := by decide +kernel

theorem witness_BurstsCarry_2 :
    W.burstsCarry2.inRun 18 = true ∧ W.burstsCarry2.heard 1 = true ∧ 15 < 16 ∧ 0 < 8 ∧
    W.burstsCarry2.rd (F.DMA_BCH_STAT_STATE 15) = 1 ∧ W.burstsCarry2.on F.DMA_STAT_HALT_BUSERR = false ∧
    W.burstsCarry2.on (F.DMA_BCH_CFG_PACE_EN 15) = false ∧ (W.burstsCarry2.bchXfer 15).alignErr = false ∧
    (W.burstsCarry2.bchXfer 15).srcFix = false ∧ (W.burstsCarry2.bchXfer 15).dstFix = false ∧ W.burstsCarry2.inTurn 15 = true ∧
    W.burstsCarry2.regionErr (W.burstsCarry2.bchXfer 15) = false ∧ (W.burstsCarry2.bchXfer 15).srcPcie = false ∧
    (W.burstsCarry2.bchXfer 15).dstPcie = false ∧ W.burstsCarry2.inRun 0 = true ∧ W.burstsCarry2.inRun 1 = true ∧
    ((2 ^ 28) ≤ (W.burstsCarry2.bchXfer 15).src ∧
    (W.burstsCarry2.bchXfer 15).src + ((256 - (W.burstsCarry2.bchXfer 15).src % 256).min (256 - (W.burstsCarry2.bchXfer 15).dst % 256)).min ((W.burstsCarry2.bchXfer 15).count * (W.burstsCarry2.bchXfer 15).elem) ≤ 0x10780000) ∧
    ((2 ^ 28) ≤ (W.burstsCarry2.bchXfer 15).dst ∧
    (W.burstsCarry2.bchXfer 15).dst + ((256 - (W.burstsCarry2.bchXfer 15).src % 256).min (256 - (W.burstsCarry2.bchXfer 15).dst % 256)).min ((W.burstsCarry2.bchXfer 15).count * (W.burstsCarry2.bchXfer 15).elem) ≤ 0x10780000) ∧
    W.burstsCarry2.badIn (W.burstsCarry2.bchXfer 15).src (((256 - (W.burstsCarry2.bchXfer 15).src % 256).min (256 - (W.burstsCarry2.bchXfer 15).dst % 256)).min ((W.burstsCarry2.bchXfer 15).count * (W.burstsCarry2.bchXfer 15).elem)) = false ∧
    W.burstsCarry2.badIn (W.burstsCarry2.bchXfer 15).dst (((256 - (W.burstsCarry2.bchXfer 15).src % 256).min (256 - (W.burstsCarry2.bchXfer 15).dst % 256)).min ((W.burstsCarry2.bchXfer 15).count * (W.burstsCarry2.bchXfer 15).elem)) = false ∧
    (W.burstsCarry2.bchXfer 15).count * (W.burstsCarry2.bchXfer 15).elem = ((256 - (W.burstsCarry2.bchXfer 15).src % 256).min (256 - (W.burstsCarry2.bchXfer 15).dst % 256)).min ((W.burstsCarry2.bchXfer 15).count * (W.burstsCarry2.bchXfer 15).elem) := by decide +kernel

theorem witness_BurstsCarry_3 :
    W.burstsCarry3.inRun 18 = true ∧ W.burstsCarry3.heard 1 = true ∧ 15 < 16 ∧ 0 < 8 ∧
    W.burstsCarry3.rd (F.DMA_BCH_STAT_STATE 15) = 1 ∧ W.burstsCarry3.on F.DMA_STAT_HALT_BUSERR = false ∧
    W.burstsCarry3.on (F.DMA_BCH_CFG_PACE_EN 15) = false ∧ (W.burstsCarry3.bchXfer 15).alignErr = false ∧
    (W.burstsCarry3.bchXfer 15).srcFix = false ∧ (W.burstsCarry3.bchXfer 15).dstFix = false ∧ W.burstsCarry3.inTurn 15 = true ∧
    W.burstsCarry3.regionErr (W.burstsCarry3.bchXfer 15) = true := by decide +kernel

theorem witness_BurstsCarry_4 :
    W.burstsCarry4.inRun 18 = true ∧ W.burstsCarry4.heard 1 = true ∧ 5 < 16 ∧ 0 < 8 ∧
    W.burstsCarry4.rd (F.DMA_BCH_STAT_STATE 5) = 1 ∧ W.burstsCarry4.bchPace 5 = some 5 ∧ W.burstsCarry4.paceReady 5 = false := by decide +kernel

theorem witness_BurstsCarry_5 :
    W.burstsCarry5.inRun 18 = true ∧ W.burstsCarry5.heard 1 = true ∧ 5 < 16 ∧ 0 < 8 ∧
    W.burstsCarry5.rd (F.DMA_BCH_STAT_STATE 5) = 2 := by decide +kernel

theorem witness_BurstsCarry_6 :
    W.burstsCarry7.inRun 18 = true ∧ W.burstsCarry7.heard 1 = true ∧ 5 < 16 ∧ 7 < 8 ∧
    W.burstsCarry7.issues (40 + 7) = true ∧ State.fetchOk (40 + 7) (W.burstsCarry7.eng (40 + 7)).pc = true ∧
    notTrack (kindOf (40 + 7)) = true ∧ W.burstsCarry7.badIn (W.burstsCarry7.pcByte (40 + 7)) 4 = false ∧
    W.burstsCarry7.on (F.DMA_PCH_CFG_PACE_EN 7) = false ∧ (W.burstsCarry7.eng (40 + 7)).moved = 0 ∧
    (W.burstsCarry7.moveXfer (40 + 7) 1 2 3 2 2 false false 0).count ≤ 0xFFFFFF ∧
    W.burstsCarry7.xferErr (W.burstsCarry7.moveXfer (40 + 7) 1 2 3 2 2 false false 0) = 0 ∧ W.burstsCarry7.inRun 0 = true ∧
    W.burstsCarry7.inRun 1 = true ∧ ((2 ^ 28) ≤ (W.burstsCarry7.moveXfer (40 + 7) 1 2 3 2 2 false false 0).src ∧
    (W.burstsCarry7.moveXfer (40 + 7) 1 2 3 2 2 false false 0).src + ((256 - (W.burstsCarry7.moveXfer (40 + 7) 1 2 3 2 2 false false 0).src % 256).min (256 - (W.burstsCarry7.moveXfer (40 + 7) 1 2 3 2 2 false false 0).dst % 256)).min ((W.burstsCarry7.moveXfer (40 + 7) 1 2 3 2 2 false false 0).count * (W.burstsCarry7.moveXfer (40 + 7) 1 2 3 2 2 false false 0).elem) ≤ 0x10780000) ∧
    ((2 ^ 28) ≤ (W.burstsCarry7.moveXfer (40 + 7) 1 2 3 2 2 false false 0).dst ∧
    (W.burstsCarry7.moveXfer (40 + 7) 1 2 3 2 2 false false 0).dst + ((256 - (W.burstsCarry7.moveXfer (40 + 7) 1 2 3 2 2 false false 0).src % 256).min (256 - (W.burstsCarry7.moveXfer (40 + 7) 1 2 3 2 2 false false 0).dst % 256)).min ((W.burstsCarry7.moveXfer (40 + 7) 1 2 3 2 2 false false 0).count * (W.burstsCarry7.moveXfer (40 + 7) 1 2 3 2 2 false false 0).elem) ≤ 0x10780000) ∧
    W.burstsCarry7.badIn (W.burstsCarry7.moveXfer (40 + 7) 1 2 3 2 2 false false 0).src (((256 - (W.burstsCarry7.moveXfer (40 + 7) 1 2 3 2 2 false false 0).src % 256).min (256 - (W.burstsCarry7.moveXfer (40 + 7) 1 2 3 2 2 false false 0).dst % 256)).min ((W.burstsCarry7.moveXfer (40 + 7) 1 2 3 2 2 false false 0).count * (W.burstsCarry7.moveXfer (40 + 7) 1 2 3 2 2 false false 0).elem)) = false ∧
    W.burstsCarry7.badIn (W.burstsCarry7.moveXfer (40 + 7) 1 2 3 2 2 false false 0).dst (((256 - (W.burstsCarry7.moveXfer (40 + 7) 1 2 3 2 2 false false 0).src % 256).min (256 - (W.burstsCarry7.moveXfer (40 + 7) 1 2 3 2 2 false false 0).dst % 256)).min ((W.burstsCarry7.moveXfer (40 + 7) 1 2 3 2 2 false false 0).count * (W.burstsCarry7.moveXfer (40 + 7) 1 2 3 2 2 false false 0).elem)) = false ∧
    W.burstsCarry7.inTurn (16 + 7) = true ∧ 2 ≠ 0 ∧ 3 ≠ 0 ∧ 2 ≠ 3 ∧
    (W.burstsCarry7.moveXfer (40 + 7) 1 2 3 2 2 false false 0).count * (W.burstsCarry7.moveXfer (40 + 7) 1 2 3 2 2 false false 0).elem = ((256 - (W.burstsCarry7.moveXfer (40 + 7) 1 2 3 2 2 false false 0).src % 256).min (256 - (W.burstsCarry7.moveXfer (40 + 7) 1 2 3 2 2 false false 0).dst % 256)).min ((W.burstsCarry7.moveXfer (40 + 7) 1 2 3 2 2 false false 0).count * (W.burstsCarry7.moveXfer (40 + 7) 1 2 3 2 2 false false 0).elem) := by decide +kernel

theorem witness_BurstsCarry_7 :
    W.burstsCarry8.inRun 18 = true ∧ W.burstsCarry8.heard 1 = true ∧ 5 < 16 ∧ 7 < 8 ∧
    W.burstsCarry8.issues (40 + 7) = true ∧ State.fetchOk (40 + 7) (W.burstsCarry8.eng (40 + 7)).pc = true ∧
    notTrack (kindOf (40 + 7)) = true ∧ W.burstsCarry8.badIn (W.burstsCarry8.pcByte (40 + 7)) 4 = false ∧
    W.burstsCarry8.on (F.DMA_PCH_CFG_PACE_EN 7) = false ∧ (W.burstsCarry8.eng (40 + 7)).moved = 0 ∧
    (W.burstsCarry8.moveXfer (40 + 7) 1 2 3 2 0 false false 0).count ≤ 0xFFFFFF ∧
    W.burstsCarry8.xferErr (W.burstsCarry8.moveXfer (40 + 7) 1 2 3 2 0 false false 0) = 0 ∧ W.burstsCarry8.inRun 0 = true ∧
    W.burstsCarry8.inRun 1 = true ∧ ((2 ^ 28) ≤ (W.burstsCarry8.moveXfer (40 + 7) 1 2 3 2 0 false false 0).src ∧
    (W.burstsCarry8.moveXfer (40 + 7) 1 2 3 2 0 false false 0).src + ((256 - (W.burstsCarry8.moveXfer (40 + 7) 1 2 3 2 0 false false 0).src % 256).min (256 - (W.burstsCarry8.moveXfer (40 + 7) 1 2 3 2 0 false false 0).dst % 256)).min ((W.burstsCarry8.moveXfer (40 + 7) 1 2 3 2 0 false false 0).count * (W.burstsCarry8.moveXfer (40 + 7) 1 2 3 2 0 false false 0).elem) ≤ 0x10780000) ∧
    ((2 ^ 28) ≤ (W.burstsCarry8.moveXfer (40 + 7) 1 2 3 2 0 false false 0).dst ∧
    (W.burstsCarry8.moveXfer (40 + 7) 1 2 3 2 0 false false 0).dst + ((256 - (W.burstsCarry8.moveXfer (40 + 7) 1 2 3 2 0 false false 0).src % 256).min (256 - (W.burstsCarry8.moveXfer (40 + 7) 1 2 3 2 0 false false 0).dst % 256)).min ((W.burstsCarry8.moveXfer (40 + 7) 1 2 3 2 0 false false 0).count * (W.burstsCarry8.moveXfer (40 + 7) 1 2 3 2 0 false false 0).elem) ≤ 0x10780000) ∧
    W.burstsCarry8.badIn (W.burstsCarry8.moveXfer (40 + 7) 1 2 3 2 0 false false 0).src (((256 - (W.burstsCarry8.moveXfer (40 + 7) 1 2 3 2 0 false false 0).src % 256).min (256 - (W.burstsCarry8.moveXfer (40 + 7) 1 2 3 2 0 false false 0).dst % 256)).min ((W.burstsCarry8.moveXfer (40 + 7) 1 2 3 2 0 false false 0).count * (W.burstsCarry8.moveXfer (40 + 7) 1 2 3 2 0 false false 0).elem)) = false ∧
    W.burstsCarry8.badIn (W.burstsCarry8.moveXfer (40 + 7) 1 2 3 2 0 false false 0).dst (((256 - (W.burstsCarry8.moveXfer (40 + 7) 1 2 3 2 0 false false 0).src % 256).min (256 - (W.burstsCarry8.moveXfer (40 + 7) 1 2 3 2 0 false false 0).dst % 256)).min ((W.burstsCarry8.moveXfer (40 + 7) 1 2 3 2 0 false false 0).count * (W.burstsCarry8.moveXfer (40 + 7) 1 2 3 2 0 false false 0).elem)) = false ∧
    W.burstsCarry8.inTurn (16 + 7) = true ∧ 2 ≠ 0 ∧ 3 ≠ 0 ∧ 2 ≠ 3 ∧
    ¬(W.burstsCarry8.moveXfer (40 + 7) 1 2 3 2 0 false false 0).count * (W.burstsCarry8.moveXfer (40 + 7) 1 2 3 2 0 false false 0).elem = ((256 - (W.burstsCarry8.moveXfer (40 + 7) 1 2 3 2 0 false false 0).src % 256).min (256 - (W.burstsCarry8.moveXfer (40 + 7) 1 2 3 2 0 false false 0).dst % 256)).min ((W.burstsCarry8.moveXfer (40 + 7) 1 2 3 2 0 false false 0).count * (W.burstsCarry8.moveXfer (40 + 7) 1 2 3 2 0 false false 0).elem) := by decide +kernel

theorem witness_BurstsCarry_8 :
    W.burstsCarry10.inRun 18 = true ∧ W.burstsCarry10.heard 1 = true ∧ 5 < 16 ∧ 7 < 8 ∧
    W.burstsCarry10.issues (40 + 7) = true ∧ State.fetchOk (40 + 7) (W.burstsCarry10.eng (40 + 7)).pc = true ∧
    notTrack (kindOf (40 + 7)) = true ∧ W.burstsCarry10.badIn (W.burstsCarry10.pcByte (40 + 7)) 4 = false ∧
    (0xFFFFFF < (W.burstsCarry10.moveXfer (40 + 7) 1 2 3 2 0 true true (W.burstsCarry10.eng (40 + 7)).moved).count ∨ W.burstsCarry10.xferErr (W.burstsCarry10.moveXfer (40 + 7) 1 2 3 2 0 true true (W.burstsCarry10.eng (40 + 7)).moved) ≠ 0) := by decide +kernel

theorem witness_BurstsCarry_9 :
    W.burstsCarry12.inRun 18 = true ∧ W.burstsCarry12.heard 1 = true ∧ 5 < 16 ∧ 0 < 8 ∧
    W.burstsCarry12.rd (F.DMA_BCH_STAT_STATE 5) = 1 ∧ 4 < 24 ∧ W.burstsCarry12.wantsRead 4 = true ∧
    W.burstsCarry12.prioCh 5 < W.burstsCarry12.prioCh 4 := by decide +kernel

theorem witness_BurstsCarry_10 :
    W.burstsCarry13.inRun 18 = true ∧ W.burstsCarry13.heard 1 = true ∧ 5 < 16 ∧ 0 < 8 ∧
    W.burstsCarry13.rd (F.DMA_BCH_STAT_STATE 5) = 1 ∧ 4 < 24 ∧ 4 ≠ 5 ∧ W.burstsCarry13.wantsRead 4 = true ∧
    W.burstsCarry13.prioCh 5 = W.burstsCarry13.prioCh 4 ∧
    (4 + 24 - look 0 W.burstsCarry13.dma.turn (W.burstsCarry13.prioCh 5)) % 24 < (5 + 24 - look 0 W.burstsCarry13.dma.turn (W.burstsCarry13.prioCh 5)) % 24 := by decide +kernel

/-! ### Resets, boot, service (18) -/

def W.resetsKeepWhatTheyMust2 : State := W.off 0 W.full
def W.resetsKeepWhatTheyMust3 : State := { W.off 0 W.full with rtc := { count := 5, lost := true } }
def W.bootRunsAnImage1 : State := { W.boot 0 with power := { bank0Kept := true } }
def W.bootRunsAnImage2 : State := W.boot 0 { bootSel := 2 }
def W.bootRunsAnImage3 : State := W.boot 0 { minSecVer := 5 }
def W.bootRunsAnImage6 : State := W.boot 2 { minSecVer := 6 }
def W.bootRunsAnImage9 : State := W.st [(F.BOOT_TRIAL_REM_SEC, 1)] (W.boot 1 { ptrA := { trial := true, trialBoots := 1, trialS := 300 }, minSecVer := 3, window := true })
def W.bootRunsAnImage10 : State := W.boot 1 { ptrA := { trial := true, trialBoots := 1, trialS := 300 }, minSecVer := 3, window := true }
def W.gheandServes1 : State := W.svc 0
def W.gheandServes2 : SvcFrom := { mac := 0 }
def W.gheandServes3 : BadFrame := { port := 1, src := { mac := 0 } }
def W.gheandServes5 : State := W.svc 2
def W.gheandServes6 : SvcFrom := { mac := 255, dst := 0xFFFFFFFFFFFF }
def W.gheandServes10 : State := W.svc 1
def W.gheandServes11 : SvcFrom := { mac := 7 }
def W.gheandServes13 : State := W.svc 1 (some (W.staged 2))
def W.gheandServes14 : State := W.svc 1 (some (W.staged 3))
def W.gheandServes15 : BadFrame := { port := 2, src := { mac := 255, dst := 0xFFFFFFFFFFFF }, unknown := some (0x55, 255) }
def W.gheandServes16 : State := W.svc 1 none [] { deaf := true }
def W.gheandServes17 : SvcFrom := {}

theorem witness_ResetsKeepWhatTheyMust_1 :
    W.full.heard 1 = true ∧ W.full.inRun 0 = true ∧ W.full.inRun 2 = true ∧
    W.full.on F.OCQ_STAT_RUN = true ∧ (isCore 1 = true ∨ isHost 1 = true) ∧ W.full.boot.window = true ∧
    W.full.rd F.BOOT_TRIAL_REM_SEC = 0 := by decide +kernel

theorem witness_ResetsKeepWhatTheyMust_2 :
    W.full.heard 32 = true ∧ W.full.inRun 0 = true ∧ (24186 ≠ 24186 ∨ isCore 32 = false ∧
    isHost 32 = false) := by decide +kernel

theorem witness_ResetsKeepWhatTheyMust_3 :
    W.resetsKeepWhatTheyMust2.heard 32 = true ∧ W.resetsKeepWhatTheyMust2.inRun 0 = false := by decide +kernel

theorem witness_ResetsKeepWhatTheyMust_4 :
    W.resetsKeepWhatTheyMust3.heard 32 = true ∧ W.resetsKeepWhatTheyMust3.inRun 0 = false ∧
    W.resetsKeepWhatTheyMust3.rtc.lost = true := by decide +kernel

theorem witness_BootRunsAnImage_1 :
    W.bootRunsAnImage1.inRun 1 = true ∧ W.bootRunsAnImage1.heard 1 = true ∧
    W.bootRunsAnImage1.boot.due = true ∧ (true && W.bootRunsAnImage1.power.bank0Kept) = true ∧ W.bootRunsAnImage1.inRun 0 = true ∧
    isCore 1 = true ∧ 49393 = 49393 ∧ W.bootRunsAnImage1.boot.trial = false := by decide +kernel

theorem witness_BootRunsAnImage_2 :
    W.bootRunsAnImage2.inRun 1 = true ∧ W.bootRunsAnImage2.heard 1 = true ∧
    W.bootRunsAnImage2.boot.due = true ∧ (true && W.bootRunsAnImage2.power.bank0Kept) = false ∧
    W.bootRunsAnImage2.boot.bootSel.testBit 1 = true ∧ W.bootRunsAnImage2.inRun 0 = true ∧ (isCore 1 = false ∨ 49392 ≠ 49393) := by decide +kernel

theorem witness_BootRunsAnImage_3 :
    W.bootRunsAnImage3.inRun 1 = true ∧ W.bootRunsAnImage3.heard 4 = true ∧
    W.bootRunsAnImage3.boot.due = true ∧ (true && W.bootRunsAnImage3.power.bank0Kept) = false ∧
    W.bootRunsAnImage3.boot.bootSel.testBit 1 = false ∧ W.bootRunsAnImage3.boot.staging = none ∧ W.bootRunsAnImage3.boot.trial = false ∧
    W.bootRunsAnImage3.boot.active = 0 ∧ 0 ≤ 2 ∧ W.bootRunsAnImage3.canon = true ∧ W.bootRunsAnImage3.refusal 0 = 0 := by decide +kernel

theorem witness_BootRunsAnImage_4 :
    W.bootRunsAnImage6.inRun 1 = true ∧ W.bootRunsAnImage6.heard 32 = true ∧
    W.bootRunsAnImage6.boot.due = true ∧ (true && W.bootRunsAnImage6.power.bank0Kept) = false ∧
    W.bootRunsAnImage6.boot.bootSel.testBit 1 = false ∧ W.bootRunsAnImage6.boot.staging = none ∧ W.bootRunsAnImage6.boot.trial = false ∧
    W.bootRunsAnImage6.boot.active = 2 ∧ 2 ≤ 2 ∧ 2 = 2 ∧ W.bootRunsAnImage6.refusal 2 ≠ 0 := by decide +kernel

theorem witness_BootRunsAnImage_5 :
    W.bootRunsAnImage9.inRun 1 = true ∧ W.bootRunsAnImage9.heard 1 = true ∧
    W.bootRunsAnImage9.inRun 0 = true ∧ isCore 1 = true ∧ 49393 = 49393 ∧ W.bootRunsAnImage9.boot.trial = true ∧
    W.bootRunsAnImage9.rd F.BOOT_TRIAL_REM_SEC ≠ 0 := by decide +kernel

theorem witness_BootRunsAnImage_6 :
    W.bootRunsAnImage10.inRun 1 = true ∧ W.bootRunsAnImage10.heard 1 = true ∧
    W.bootRunsAnImage10.inRun 0 = true ∧ isCore 1 = true ∧ 49393 = 49393 ∧ W.bootRunsAnImage10.boot.trial = true ∧
    W.bootRunsAnImage10.rd F.BOOT_TRIAL_REM_SEC = 0 := by decide +kernel

theorem witness_GheandServes_1 :
    W.gheandServes1.inRun 0 = true ∧ W.gheandServes1.svcHears 1 W.gheandServes2 = true ∧
    W.gheandServes1.boot.holder = 0 ∧ W.gheandServes1.holds 1 W.gheandServes2.mac = false ∧ ([] : List Nat).length ≤ 1038 ∧
    ([] : List Nat).length ≤ 1040 ∧ 0x4010000 % 4 = 0 ∧ 4 % 4 = 0 ∧ 4 ≤ 4 ∧ 4 ≤ 1024 ∧ 0x4010000 ≤ 0x4010000 ∧
    0x4010000 + 4 ≤ 0x4710000 ∧ W.gheandServes1.badIn 0x4010000 4 = false ∧ W.gheandServes3.unknown = none ∧
    W.gheandServes1.svcTakes W.gheandServes3.port W.gheandServes3.src = true ∧ W.gheandServes1.boot.bootSel.testBit 0 = false ∧ 0 < 8 ∧
    115200 = baudRates.getD 0 0 := by decide +kernel

/-- A frame to the broadcast address is taken, whatever NP3's MAC is. -/
theorem svcTakes_broadcast (s : State) (port mac : Nat) (h : s.svcUp port = true) : s.svcTakes port ⟨mac, 2 ^ 48 - 1⟩ = true := by
  simp only [State.svcTakes, h, or_true, decide_true, Bool.or_true, Bool.and_true]

/-- NP3 hears it, whatever rate the service port took. -/
theorem svcHears_broadcast (s : State) (mac : Nat) (h : s.svcUp 2 = true) : s.svcHears 2 ⟨mac, 2 ^ 48 - 1⟩ = true := by
  simp only [State.svcHears, svcTakes_broadcast s 2 mac h]
  rfl

theorem witness_GheandServes_2 :
    W.gheandServes5.inRun 0 = true ∧ W.gheandServes5.svcHears 2 W.gheandServes6 = true ∧
    W.gheandServes5.boot.holder ≠ 0 ∧ W.gheandServes5.holds 2 W.gheandServes6.mac = true ∧ 1 ≤ 1 ∧ 1 ≤ 2560 ∧
    W.gheandServes5.boot.trial = false ∧ (∀ (q : Staging), q ∈ W.gheandServes5.boot.record → q.state ≠ 1 ∨ q.id ≠ 0 ∨ q.count ≠ 1) ∧
    1 ≤ 18 ∧ 60 ≤ W.gheandServes5.rd F.SVC_STAT_IDLE_S := by
  refine ⟨?_, ?_, ?_, ?_, ?_, ?_, ?_, ?_, ?_, ?_⟩ <;> first | exact svcTakes_broadcast _ _ _ (by decide +kernel) | exact svcHears_broadcast _ _ (by decide +kernel) | decide +kernel

theorem witness_GheandServes_3 :
    W.gheandServes5.inRun 0 = true ∧ W.gheandServes5.boot.holder ≠ 0 ∧ isCore 1 = true := by decide +kernel

theorem witness_GheandServes_4 :
    W.gheandServes10.inRun 0 = true ∧ W.gheandServes10.svcHears 1 W.gheandServes11 = true ∧
    W.gheandServes10.holds 1 W.gheandServes11.mac = true ∧ [1, 2] ≠ [] ∧ [1, 2].length ≤ 1040 := by decide +kernel

theorem witness_GheandServes_5 :
    W.gheandServes13.inRun 0 = true ∧ W.gheandServes13.svcHears 1 W.gheandServes11 = true ∧
    W.gheandServes13.holds 1 W.gheandServes11.mac = true ∧ 1 ≤ 3 ∧ 3 ≤ 2560 ∧ W.gheandServes13.boot.trial = false ∧
    W.gheandServes13.boot.record = some (W.staged 2) ∧ (W.staged 2).state = 1 ∧ (W.staged 2).id = 7 ∧ (W.staged 2).count = 3 ∧
    2 < (W.staged 2).count ∧ 1 ≤ (List.replicate 1024 300).length ∧ (List.replicate 1024 300).length ≤ 1024 ∧
    (2 + 1 < (W.staged 2).count → (List.replicate 1024 300).length = 1024) := by decide +kernel

theorem witness_GheandServes_6 :
    W.gheandServes14.inRun 0 = true ∧ W.gheandServes14.svcHears 1 W.gheandServes11 = true ∧
    W.gheandServes14.holds 1 W.gheandServes11.mac = true ∧ W.gheandServes14.boot.record = some (W.staged 3) ∧
    (W.staged 3).count ≤ (W.staged 3).missing ∧ (65535 = 0 ∨ 10 ≤ 65535) ∧ 65535 ≤ 65535 := by decide +kernel

theorem witness_GheandServes_7 :
    W.gheandServes5.inRun 0 = true ∧ W.gheandServes5.svcTakes 2 W.gheandServes6 = true ∧
    1040 < (List.replicate 1041 1).length ∧ 1038 < (List.replicate 1039 1).length ∧ W.gheandServes15.unknown = some (85, 255) ∧
    W.gheandServes15.port = 2 ∧ W.gheandServes15.src = W.gheandServes6 ∧ W.gheandServes5.svcHears 2 W.gheandServes6 = true ∧ 85 < 128 := by
  refine ⟨?_, ?_, ?_, ?_, ?_, ?_, ?_, ?_, ?_⟩ <;> first | exact svcTakes_broadcast _ _ _ (by decide +kernel) | exact svcHears_broadcast _ _ (by decide +kernel) | decide +kernel

theorem witness_GheandServes_8 :
    W.gheandServes16.inRun 0 = true ∧ W.gheandServes16.svcTakes 1 W.gheandServes17 = true ∧
    W.gheandServes16.svcHears 1 W.gheandServes17 = false := by decide +kernel

/-! ### Steps worked out by hand -/

/-- The state a command leaves. -/
def W.after (c : Instr) (s : State) : State := match exec c s with | .next t => t | .fault _ | .refused _ => s

/-- Track 4095 of the worked example of chapter 07: K1, K2, I1, the carrier-to-code ratio, kdll; the sums of T1, T2 and T3. -/
def W.van (g : List (Nat × Word)) : State :=
  W.eng 23 g 9 (W.mem ([(96, 2796), (97, 56), (98, 279618), (58, 1011100), (59, 53000), (60, 1797500), (61, 94203), (62, 861300),
    (63, 45100)].map fun e => (ctxAddr 4095 + 4 * e.1, e.2)))

/-- The table of chapter 07's invocation: lf.upd gives I1 = 279,619 and g5 = 279,666. -/
theorem test_lfUpd : let t := W.after (.lfUpd 23 5 4 96 false) (W.van [(4, 35791394)])
    t.g 23 5 = 279666 ∧ t.k 23 98 = 279619 := by decide +kernel
/-- And g9 = 279,669 / 1,540, rounded to 182. -/
theorem test_mulQ_aiding : (W.after (.mulQ 23 9 7 8) (W.van [(7, 279669), (8, 1394470)])).g 23 9 = 182 := by decide +kernel
/-- dll.nelp of T1 and T3 is 0.1590, and with kdll 140 the correction is 22. -/
theorem test_dllNelp : let t := W.after (.mulQ 23 12 10 11) (W.after (.dllNelp 23 10 1 3) (W.van [(11, 140)]))
    341235151 < (t.g 23 10).toNat ∧ (t.g 23 10).toNat < 341664649 ∧ t.g 23 12 = 22 := by decide +kernel
theorem test_mulQ_saturates : let t := W.after (.mulQ 32 3 1 2) (W.eng 32 [(1, 0x80000000), (2, 0x80000000)])
    t.g 32 3 = 0x7FFFFFFF ∧ (t.eng 32).fl % 2 = 1 := by decide +kernel
/-- Ties go toward +∞: −3/2 is −1. -/
theorem test_srar_tie : (W.after (.srar 32 2 1 1) (W.eng 32 [(1, 0xFFFFFFFD)])).g 32 2 = 0xFFFFFFFF := by decide +kernel
theorem test_sub_wraps : (W.after (.sub 32 2 2 1) (W.eng 32 [(1, 1)])).g 32 2 = 0xFFFFFFFF := by decide +kernel
theorem test_abs_least : (W.after (.abs 32 2 1) (W.eng 32 [(1, 0x80000000)])).g 32 2 = 0x7FFFFFFF := by decide +kernel
theorem test_sat_low : (W.after (.sat 32 2 1 15) (W.eng 32 [(1, 0xFFFF0000)])).g 32 2 = 0xFFFF8000 := by decide +kernel
theorem test_slt_signed : (W.after (.slt 32 3 1 2) (W.eng 32 [(1, 0xFFFFFFFF), (2, 0)])).g 32 3 = 1 := by decide +kernel
theorem test_norm_zero : (W.after (.norm 32 2 1) (W.eng 32 [])).g 32 2 = 31 := by decide +kernel
theorem test_clz_zero : (W.after (.clz 32 2 1) (W.eng 32 [])).g 32 2 = 32 := by decide +kernel
theorem test_addi_sign : (W.after (.addi 32 1 1 (-5)) (W.eng 32 [(1, 3)])).g 32 1 = 0xFFFFFFFE := by decide +kernel
theorem test_mac_into_source : (W.after (.mac 32 1 1 1) (W.eng 32 [(1, 7)])).g 32 1 = 56 := by decide +kernel
/-- g0 reads 0 and drops what is written. -/
theorem test_g0 : (W.after (.addi 32 0 1 9) (W.eng 32 [(1, 3)])).g 32 0 = 0 := by decide +kernel

/-- Leap seconds at the ends of 2005, 2008, June 2012, June 2015 and 2016. -/
def W.leaps2016 : List (Nat × Int) := [(189388833, 33), (284083234, 34), (394416035, 35), (489024036, 36), (536544037, 37)]

/-- R337's table of conversions around the leap second at the end of 2016; day 6,209 is 2016-12-31. -/
theorem test_bctToUtc : bctToUtc W.leaps2016 536544035 = .ok (6209, 86399, 36, false) ∧ bctToUtc W.leaps2016 536544036 = .ok (6209, 86400, 36, true) ∧
    bctToUtc W.leaps2016 536544037 = .ok (6210, 0, 37, false) := ⟨rfl, rfl, rfl⟩
theorem test_utcToBct : (utcToBct W.leaps2016 2016 12 31 23 59 60).map (·.2.1) = .ok 536544036 ∧
    utcToBct W.leaps2016 2017 12 31 23 59 60 = .error 4 ∧ utcToBct W.leaps2016 2100 2 29 0 0 0 = .error 1 := ⟨rfl, rfl, rfl⟩

/-- The second edge of chapter 12's worked example: code 14 and +5 ps. -/
def W.roof : State :=
  { W.st [(F.TP_COMP_COMP 0, 1250)] W.run with
    time := { kyo := { valid := true, dt := 811204200000000000 * 2 ^ 32 - 21904333210 }
              pulses := [(0, { table := { dOut := 3412, code := ((List.range 64).map fun m => m * 31785 / 1000).set 13 410 |>.set 14 443 } })] } }
theorem test_qerr : W.roof.qerr 0 811204200000000000 = 5 := by decide +kernel
/-- N = 40,222 and W = 16: correction 1 falls on tick 53,390 of the window (R331). -/
theorem test_trimmed : trimmed 40222 16 0 = true ∧ trimmed 40222 16 53390 = true ∧ trimmed 40222 16 53391 = false := by decide +kernel
/-- Chapter 14's crane: 136.704 nJ of lane and 3.302 nJ of sequencer for an L1 track, 273.408 and 3.302 nJ for an L5 track. -/
def W.crane (rate : Nat) : State :=
  { W.mem [(ctxAddr 9, W.ctrl 3 1 0 2 1), (ctxAddr 9 + 0x28, 0x01000104)] with
    sample := { gridCount := gridMs, streams := [(2, { cfg := { rate }, blocks := [{ seq := 0, cfg := { rate }, tag := 0, ended := true }] })] } }
theorem test_trkEnergy : (W.crane 3).trkEnergy 9 = 140006000 * 256 ∧ (W.crane 4).trkEnergy 9 = 276710000 * 256 := by decide +kernel

/-! Reset, the map and the queue. -/

/-- Nothing waits, memory lists nothing, and the lane energy holds its default. -/
theorem test_reset : State.reset.pending = [] ∧ State.reset.mem = [] ∧ State.reset.rd F.PRF_ELANE_FJ = 71200 := by decide +kernel
/-- A word written to system SRAM over the bus reads back, least significant byte first. -/
theorem test_registerWrite : let t := W.after (.registerWrite 1 0x10000100 4 0x11223344) W.run
    t.byte 0x10000100 = 0x44 ∧ t.byte 0x10000103 = 0x11 := by decide +kernel
/-- The command in front runs; the one behind it waits. -/
theorem test_step : (match step { W.run with pending := [.begin 1 2, .abort 1 2] } with
    | .next t => decide (t.pending = [.abort 1 2] ∧ (t.txn 2).owner = 1) | .fault _ | .refused _ => false) = true := by decide +kernel
/-- With nothing waiting an FCLK period passes. -/
theorem test_idle : (match step W.run with | .next t => t.now | .fault _ | .refused _ => 0) = 1 := by decide +kernel
/-- The word add g3, g1, g2 that context 0 stands at is executed; a word that spells nothing is a fault. -/
theorem test_fetched : (match step (W.mem [(0x10780014, 0x00611000)] (W.eng 32 [(1, 3), (2, 4)])) with
    | .next t => decide (t.g 32 3 = 7 ∧ (t.eng 32).pc = 6) | .fault _ | .refused _ => false) = true ∧
    (match step (W.awake (W.mem [(0x10780014, 0xFFFFFFFF)] (W.eng 32 []))) with
    | .next t => t.rd (F.LYZ_CTX_STAT_STATE 0) | .fault _ | .refused _ => 0) = 5 := by decide +kernel

/-! ### Words of the instruction set, written out from chapters 07 and 08: opcode [31:26], d [25:21], a [20:16], b [15:11], fn [10:0], or an
immediate in [15:0] -/

theorem test_words_A : lyzDecode 33 0b000000_00011_00001_00010_00000000000 = some (.add 33 3 1 2) ∧
    lyzDecode 33 0b000001_00010_00001_1111111111111011 = some (.addi 33 2 1 (-5)) ∧
    lyzDecode 33 0b000101_00010_00001_00000_00001111111 = some (.srar 33 2 1 31) ∧
    lyzDecode 33 0b000000_00010_00001_00001_00000001011 = none ∧ lyzDecode 33 0b001000_00010_00001_00000_00000000000 = none := by decide +kernel
theorem test_words_D : lyzDecode 0 0b010000_01010_00000_00000_00000011001 = some (.dllNelp 0 10 1 3) ∧
    lyzDecode 0 0b010101_00101_00100_00000_00001100000 = some (.lfUpd 0 5 4 96 false) := by decide +kernel
theorem test_words_N : lyzDecode 0 0b011000_00001_00010_00000_00000000001 = some (.ncoCarrAdd 0 1 2) ∧
    lyzDecode 0 0b011110_00001_00010_00000_00000000010 = some (.trkState 0 1 2) ∧
    lyzDecode 0 0b011100_00001_00010_00000_00000011000 = none := by decide +kernel
theorem test_words_F : lyzDecode 33 0b100100_00000_00000_00000_00000000000 = some (.end_ 33) ∧
    lyzDecode 33 0b100001_00001_00000_0000000000000101 = some (.jmp 33 65541) ∧
    lyzDecode 40 0b100011_00000_00000_0000100000000000 = some (.link 40 0x10002000) := by decide +kernel
theorem test_words_M : lyzDecode 33 0b101011_00001_00010_00000_11111111100 = some (.ld 33 1 2 (-4)) ∧
    lyzDecode 33 0b101001_00001_00000_0000000001111111 = some (.ldK 33 1 127) := by decide +kernel
theorem test_words_TS : lyzDecode 33 0b110000_00001_00000_00000_00000001101 = some (.waittTp 33 1 3) ∧
    lyzDecode 33 0b111000_00001_00000_00000_00001101111 = some (.vote 33 1 15 true true) ∧
    lyzDecode 33 0b111000_00001_00000_00000_00001001111 = none ∧ lyzDecode 33 0b111101_00000_00000_00000_00000000000 = none := by decide +kernel
/-- Premises of WordsRoundTrip. -/
theorem witness_WordsRoundTrip_1 : (Instr.st 39 31 30 29 (-1024)).wf = true ∧ lyzEncode (.st 39 31 30 29 (-1024)) = some (39, 0xB3FEEC00) ∧
    engineOk 39 = true ∧ lyzDecode 39 0xB3FEEC00 = some (.st 39 31 30 29 (-1024)) := by decide +kernel

/-! ### Well-formed and ill-formed commands -/

/-! One well-formed command of every row. -/

theorem test_wellFormed_1 : ([
    .registerWrite 1 1 4 1, .offBlockAccess 1 1 true, .nomapAccess 1 1 true, .regWrite 1 1 1 true [], .regRead 1 1 1 1 true,
    .cmdSubmit 1 255 1 true [], .spiWrite 1 [1], .spiRead 1 1, .pcieFlr, .huartBaudWrite 1 1, .hspiFrameRead 1, .hspiFrameWrite 1 1,
    .begin 1 3, .commit 1 3, .commitat 1 3 true, .abort 1 3, .txnAtWrite 1 3 2 1, .rwtWrite 1 1 1, .armedCommit 3, .landingComplete 3,
    .txnTimeout 3, .padClaim 1 1, .padRelease 1 1, .padFuncWrite 1 63 1, .relock 1 5, .bandcal 1 5 15, .bandcalDone 5 1 1,
    .adpllLocked 5 1 1 1, .lossOfLock 5 1, .lossOfReference ⟨5, 1⟩, .referenceReturn 5, .holdoverRelock 5 1 1 1, .adpllDeferredApply 5 2,
    .clkmonFault 4, .clkmonQualified 1, .clkmonRecover 4, .extPpsTimeout, .autotune 1 3, .autotuneDone 3 63 63, .biasSense 3 1,
    .biasTrip 3, .biasRetry 1 3, .rlEstimate 3 1, .loCalCommand 1 7, .loCalibration 2, .loCalComplete 2, .injStart 1 7, .injStop 1 7,
    .injCmdReady, .injCmdTimeout, .injBiasPublish (List.replicate 12 (0, 0)), .blankAssert 3 1 1, .gridBoundary [] [],
    .blockComplete 23 [5] [-32768] [32767] [0], .blockWindowClose 23 1, .pinGrant 1, .pinTimeout 1, .sweepStart 5, .sweepWriteback 5 1 true,
    .selfCheckSweep 5 255, .retest 1 5 255 255, .trkStart 1 4095 true, .trkStop 1 4095, .trkMove 1 4095 7, .trkClear 1 4095,
    .trkStopEffect 4095, .trkMoveEffect 4095, .trackContextWrite 1 0x30000000 1, .scrub 2, .trkWakeClearDone, .trackProgramEntry 5 3,
    .add 39 31 31 31, .sub 39 31 31 31, .addS 39 31 31 31, .subS 39 31 31 31, .and 39 31 31 31, .or 39 31 31 31, .xor 39 31 31 31,
    .slt 39 31 31 31, .sltu 39 31 31 31, .min 39 31 31 31, .max 39 31 31 31, .abs 39 31 31, .sll 39 31 31 31, .srl 39 31 31 31,
    .sra 39 31 31 31, .addi 39 31 31 (-32768), .andi 39 31 31 1, .ori 39 31 31 1, .lui 39 31 1] : List Instr).all (fun i => i.wf) = true := by decide +kernel

theorem test_wellFormed_2 : ([
    .slli 39 31 31 31, .srli 39 31 31 31, .srai 39 31 31 31, .srar 39 31 31 31, .mul 39 31 31 31, .mulh 39 31 31 31, .mulhu 39 31 31 31,
    .mulQ 39 31 31 31, .mac 39 31 31 31, .macQ 39 31 31 31, .msubQ 39 31 31 31, .sat 39 31 31 31, .norm 39 31 31, .clz 39 31 31,
    .mag 39 31 31 31, .atan2 39 31 31 31, .dllNelp 39 31 7 7, .dllDot 39 31 7 7 7, .pllCostas 39 31 7 true true,
    .fllCross 39 31 31 31 7 true, .fllAtan 39 31 31 31 7 true true, .lfUpd 39 31 31 127 true, .lfBlend 39 31 31 31 127,
    .dPow 39 31 7 true 3 31, .ncoCarr 39 31 31, .ncoCarrAdd 39 31 31, .ncoCode 39 31 31 31, .ncoCodeAdd 39 31 31, .ncoCphs 39 31,
    .ncoKphs 39 31 31, .tapOff 39 31 31 7, .tapAdd 39 31 31 7, .tapEn 39 31 31, .codeSympos 39 31 31, .codeSymlen 39 31 31,
    .codeSel 39 31 31, .trkStack 39 31 31, .trkDuty 39 31 31 31, .trkState 39 31 31, .wipeLd 39 31 31 31, .bCond 39 31 31 (-32768),
    .jmp 39 1, .call 39 1, .loop 39 31 1, .link 39 1, .end_ 39, .ret 39, .nop 39, .jr 39 31, .callr 39 31, .mov 39 31 31, .movfl 39 31,
    .ldK 39 31 127, .stK 39 31 127, .ld 39 31 31 (-1024), .st 39 31 31 31 (-1024), .move 39 31 31 31 3 3 true true, .waitq 39 31 31 63,
    .waitqRelease 39, .waittAbs 39 31 31 31, .waittTp 39 31 3, .waittRel 39 31 31, .waittRelease 39, .stamp 39 31, .stampRead 39 31 7,
    .txnBegin 39 31 3, .txnCommit 39 31 3, .txnCommitat 39 31 31 31 3 true, .txnAbort 39 31 3, .txnWait 39 31 3, .txnWaitRelease 39,
    .vote 39 31 31 true true, .voteWaitRelease 39, .claim 39 31 31, .release 39 31 31, .event 39 31 31 31 255 7, .signal 39 31, .halt 39,
    .queueDoorbell 1 7 1, .run 7, .load 7, .fence 7, .badOp 7, .ctxResume 1 7, .ctxReset 1 7, .sigSet 1 1,
    .programStoreWrite 1 0x10780000 1, .executionWatchdog 39, .planDoorbell 1 1, .planFetch] : List Instr).all (fun i => i.wf) = true := by decide +kernel

theorem test_wellFormed_3 : ([
    .captureBlockCopy 1, .binDispatch 3, .binComplete 3 [], .aidingPublish 4095 (List.replicate 14 1), .measScan [] [],
    .timemsgSend 1 1 true, .integrityEvaluation 1 1 1 {} [] 255 [] [], .integSave, .lock 1 7, .holdover 1, .freerun 1, .step 1,
    .suspect 1 true, .slew 1 1, .slewComplete, .stepApply, .estErrUpdate, .suspectExpiry 1, .tpEdge 3 true, .loopbackCheck 3 2 1,
    .tpCalStart 1, .tpCalDone (List.replicate 4 ([], 0)) (List.replicate 13 []), .tpCalSwap, .captureEdge 8 true 1, .capturePop 1 8,
    .trgArmWrite 1 15 1, .triggerFire 15, .dtRebuild, .dtRead 1, .monoRead 1, .lastSeqRead 1 23, .frameRx 3 [255] 1 true,
    .frameTx 4 none 1, .txtsPop 1, .ntpRequest 7 7 255 1 1 1 3 1, .requestUnicastTransmission 1 1 1, .announceReceiptTimeout,
    .esmcPduSend true true 15 15, .esmcTimeout 2, .linkDown 3 true, .np3FrameRx [255], .peerReport ⟨[255], true⟩ 1 1 1,
    .peerReportSend 1 1 1 1 1 [], .pwrVoteRaise 1 1, .pwrVoteWithdraw 1 1, .domainRun 1, .domainOff 1, .drainTimeout 1, .wakeNAssert,
    .hostActivity, .prooferSlice 1, .podPack, .monConversion (List.replicate 8 1) 4095, .apply 1, .align 1, .snap 1, .rtcLoad,
    .rtcSnapLatch, .rtcRead 1, .rtcTrimWrite 1 1, .rtcAlarm, .oscFail, .oscRecover, .bctToUtc 1, .utcToBct 1, .rtcToUtc 1,
    .calConversionDone, .ledgerWrite, .ledgerSubAging 1, .ledgerSubLeap 1, .ledgerSubUpdate 1, .vddAonPowerUp, .crumbScanComplete,
    .crumbWrite, .swCrumb 1 255, .pwrFail, .lockstepMismatch, .islandWatchdog, .heartbeat 1 1, .heartbeatMiss, .kyoShadowMismatch,
    .stestStart 1, .stestPeriodic, .stestComplete (some 0), .safeEnter 1 1, .safeExit 1 1, .safeAutoExit, .fltSwraise 1 255 true,
    .fltInject 1 255, .supplyFault 11] : List Instr).all (fun i => i.wf) = true := by decide +kernel

theorem test_wellFormed_4 : ([
    .interconnectTimeout 1, .bchStart 1 15, .bchPause 1 15, .bchResume 1 15, .bchStop 1 15, .pchStart 1 7, .pchPause 1 7, .pchResume 1 7,
    .pchReset 1 7, .dmaBurst 15, .dmaBusError 1 23 true true true, .dmaDoorbell 1 255, .paceAdd 1 15 1, .resetN, .softwareReset 1 1,
    .boot true (some 0) (some ⟨1, 1, 3, 1⟩) ((List.range 6).map fun p => ⟨p, 0, 0, 4194303, 0, 0, 1⟩) (List.replicate 6 0x4001), .trialExpiry, .healthConfirm 1 1, .gheandInfo 1 ⟨1, 1⟩ 255, .gheandOpen 1 ⟨1, 1⟩ 255, .gheandClose 1 ⟨1, 1⟩ 255,
    .gheandBegin 1 ⟨1, 1⟩ 255 1 1, .gheandStage 1 ⟨1, 1⟩ 255 1 [255], .gheandStatus 1 ⟨1, 1⟩ 255, .gheandCommit 1 ⟨1, 1⟩ 255 1, .gheandRead 1 ⟨1, 1⟩ 255 1 1,
    .gheandVote 1 ⟨1, 1⟩ 255 1 true, .gheandRevoke 1 ⟨1, 1⟩ 255 [255], .gheandUnlock 1 ⟨1, 1⟩ 255 [255], .gheandReset 1 ⟨1, 1⟩ 255, .gheandLockTimeout,
    .svcRelease 1, .xtal32Tick, .vddAonPowerDown true, .supplyRecover 11, .linkUp 3, .gheandBadFrame { port := 1, unknown := some (255, 255) }, .autoBaud 1 255, .macAgeing 1,
    .ocquelReset, .illegalOpcode 39 1] : List Instr).all (fun i => i.wf) = true := by decide +kernel

/-! For every operand that is checked, the same command with that operand just out of its range. -/

theorem test_illFormed_1 : ([
    .registerWrite 0 1 4 1, .registerWrite 1 (2 ^ 33) 4 1, .registerWrite 1 1 3 1, .offBlockAccess 0 1 true,
    .offBlockAccess 1 (2 ^ 33) true, .nomapAccess 0 1 true, .nomapAccess 1 (2 ^ 33) true, .regWrite 0 1 1 true [],
    .regWrite 1 (2 ^ 32) 1 true [], .regWrite 1 1 (2 ^ 16) true [], .regRead 0 1 1 1 true, .regRead 1 (2 ^ 32) 1 1 true,
    .regRead 1 1 (2 ^ 16) 1 true, .regRead 1 1 1 (2 ^ 16) true, .cmdSubmit 0 255 1 true [], .cmdSubmit 1 256 1 true [],
    .cmdSubmit 1 255 (2 ^ 16) true [], .spiWrite (2 ^ 32) [1], .spiWrite 1 [], .spiRead (2 ^ 32) 1, .spiRead 1 257, .huartBaudWrite 0 1,
    .hspiFrameRead 0, .hspiFrameWrite 0 1, .begin 0 3, .begin 1 4, .commit 0 3, .commit 1 4, .commitat 0 3 true, .commitat 1 4 true,
    .abort 0 3, .abort 1 4, .txnAtWrite 0 3 2 1, .txnAtWrite 1 4 2 1, .txnAtWrite 1 3 3 1, .rwtWrite 0 1 1, .rwtWrite 1 (2 ^ 32) 1,
    .armedCommit 4, .landingComplete 4, .txnTimeout 4, .padClaim 0 1, .padClaim 1 (2 ^ 16), .padRelease 0 1, .padRelease 1 (2 ^ 16),
    .padFuncWrite 0 63 1, .padFuncWrite 1 64 1, .relock 0 5, .relock 1 6, .bandcal 0 5 15, .bandcal 1 6 15, .bandcal 1 5 16,
    .bandcalDone 6 1 1, .adpllLocked 6 1 1 1, .lossOfLock 6 1, .lossOfReference ⟨6, 1⟩, .referenceReturn 6, .holdoverRelock 6 1 1 1,
    .adpllDeferredApply 6 2, .adpllDeferredApply 5 3, .clkmonFault 5, .clkmonQualified 2, .clkmonRecover 5, .autotune 0 3, .autotune 1 4,
    .autotuneDone 4 63 63, .autotuneDone 3 64 63, .autotuneDone 3 63 64, .biasSense 4 1, .biasTrip 4, .biasRetry 0 3, .biasRetry 1 4,
    .rlEstimate 4 1, .loCalCommand 0 7, .loCalCommand 1 8, .loCalibration 3, .loCalComplete 3, .injStart 0 7, .injStart 1 8, .injStop 0 7,
    .injStop 1 8, .injBiasPublish [], .blankAssert 4 1 1, .blockComplete 24 [] [] [] [], .blockComplete 23 [32768] [] [] [], .blockComplete 23 [] [] [] [-32769], .blockWindowClose 24 1, .pinGrant 2, .pinTimeout 2,
    .sweepStart 6, .sweepWriteback 6 1 true, .selfCheckSweep 6 255, .selfCheckSweep 5 256] : List Instr).all (fun i => !i.wf) = true := by decide +kernel

theorem test_illFormed_2 : ([
    .retest 0 5 255 255, .retest 1 6 255 255, .retest 1 5 256 255, .retest 1 5 255 256, .trkStart 0 4095 true, .trkStart 1 4096 true,
    .trkStop 0 4095, .trkStop 1 4096, .trkMove 0 4095 7, .trkMove 1 4096 7, .trkMove 1 4095 8, .trkClear 0 4095, .trkClear 1 4096,
    .trkStopEffect 4096, .trkMoveEffect 4096, .trackContextWrite 0 0x30000000 1, .trackContextWrite 1 0x30200000 1, .scrub 3,
    .trackProgramEntry 6 3, .trackProgramEntry 5 4, .add 24 31 31 31, .add 39 32 31 31, .add 39 31 32 31, .add 39 31 31 32,
    .sub 24 31 31 31, .sub 39 32 31 31, .sub 39 31 32 31, .sub 39 31 31 32, .addS 24 31 31 31, .addS 39 32 31 31, .addS 39 31 32 31,
    .addS 39 31 31 32, .subS 24 31 31 31, .subS 39 32 31 31, .subS 39 31 32 31, .subS 39 31 31 32, .and 24 31 31 31, .and 39 32 31 31,
    .and 39 31 32 31, .and 39 31 31 32, .or 24 31 31 31, .or 39 32 31 31, .or 39 31 32 31, .or 39 31 31 32, .xor 24 31 31 31,
    .xor 39 32 31 31, .xor 39 31 32 31, .xor 39 31 31 32, .slt 24 31 31 31, .slt 39 32 31 31, .slt 39 31 32 31, .slt 39 31 31 32,
    .sltu 24 31 31 31, .sltu 39 32 31 31, .sltu 39 31 32 31, .sltu 39 31 31 32, .min 24 31 31 31, .min 39 32 31 31, .min 39 31 32 31,
    .min 39 31 31 32, .max 24 31 31 31, .max 39 32 31 31, .max 39 31 32 31, .max 39 31 31 32, .abs 24 31 31, .abs 39 32 31, .abs 39 31 32,
    .sll 24 31 31 31, .sll 39 32 31 31, .sll 39 31 32 31, .sll 39 31 31 32, .srl 24 31 31 31, .srl 39 32 31 31, .srl 39 31 32 31,
    .srl 39 31 31 32, .sra 24 31 31 31, .sra 39 32 31 31, .sra 39 31 32 31, .sra 39 31 31 32, .addi 24 31 31 (-32768),
    .addi 39 32 31 (-32768), .addi 39 31 32 (-32768), .addi 39 31 31 32768, .andi 24 31 31 1, .andi 39 32 31 1, .andi 39 31 32 1,
    .andi 39 31 31 (2 ^ 16), .ori 24 31 31 1, .ori 39 32 31 1, .ori 39 31 32 1] : List Instr).all (fun i => !i.wf) = true := by decide +kernel

theorem test_illFormed_3 : ([
    .ori 39 31 31 (2 ^ 16), .lui 24 31 1, .lui 39 32 1, .lui 39 31 (2 ^ 16), .slli 24 31 31 31, .slli 39 32 31 31, .slli 39 31 32 31,
    .slli 39 31 31 32, .srli 24 31 31 31, .srli 39 32 31 31, .srli 39 31 32 31, .srli 39 31 31 32, .srai 24 31 31 31, .srai 39 32 31 31,
    .srai 39 31 32 31, .srai 39 31 31 32, .srar 24 31 31 31, .srar 39 32 31 31, .srar 39 31 32 31, .srar 39 31 31 32, .mul 24 31 31 31,
    .mul 39 32 31 31, .mul 39 31 32 31, .mul 39 31 31 32, .mulh 24 31 31 31, .mulh 39 32 31 31, .mulh 39 31 32 31, .mulh 39 31 31 32,
    .mulhu 24 31 31 31, .mulhu 39 32 31 31, .mulhu 39 31 32 31, .mulhu 39 31 31 32, .mulQ 24 31 31 31, .mulQ 39 32 31 31,
    .mulQ 39 31 32 31, .mulQ 39 31 31 32, .mac 24 31 31 31, .mac 39 32 31 31, .mac 39 31 32 31, .mac 39 31 31 32, .macQ 24 31 31 31,
    .macQ 39 32 31 31, .macQ 39 31 32 31, .macQ 39 31 31 32, .msubQ 24 31 31 31, .msubQ 39 32 31 31, .msubQ 39 31 32 31,
    .msubQ 39 31 31 32, .sat 24 31 31 31, .sat 39 32 31 31, .sat 39 31 32 31, .sat 39 31 31 32, .norm 24 31 31, .norm 39 32 31,
    .norm 39 31 32, .clz 24 31 31, .clz 39 32 31, .clz 39 31 32, .mag 24 31 31 31, .mag 39 32 31 31, .mag 39 31 32 31, .mag 39 31 31 32,
    .atan2 24 31 31 31, .atan2 39 32 31 31, .atan2 39 31 32 31, .atan2 39 31 31 32, .dllNelp 24 31 7 7, .dllNelp 39 32 7 7,
    .dllNelp 39 31 8 7, .dllNelp 39 31 7 8, .dllDot 24 31 7 7 7, .dllDot 39 32 7 7 7, .dllDot 39 31 8 7 7, .dllDot 39 31 7 8 7,
    .dllDot 39 31 7 7 8, .pllCostas 24 31 7 true true, .pllCostas 39 32 7 true true, .pllCostas 39 31 8 true true,
    .fllCross 24 31 31 31 7 true, .fllCross 39 32 31 31 7 true, .fllCross 39 31 32 31 7 true, .fllCross 39 31 31 32 7 true,
    .fllCross 39 31 31 31 8 true, .fllAtan 24 31 31 31 7 true true, .fllAtan 39 32 31 31 7 true true, .fllAtan 39 31 32 31 7 true true,
    .fllAtan 39 31 31 32 7 true true, .fllAtan 39 31 31 31 8 true true, .lfUpd 24 31 31 127 true, .lfUpd 39 32 31 127 true] : List Instr).all (fun i => !i.wf) = true := by decide +kernel

theorem test_illFormed_4 : ([
    .lfUpd 39 31 32 127 true, .lfUpd 39 31 31 128 true, .lfBlend 24 31 31 31 127, .lfBlend 39 32 31 31 127, .lfBlend 39 31 32 31 127,
    .lfBlend 39 31 31 32 127, .lfBlend 39 31 31 31 128, .dPow 24 31 7 true 3 31, .dPow 39 32 7 true 3 31, .dPow 39 31 8 true 3 31,
    .dPow 39 31 7 true 4 31, .dPow 39 31 7 true 3 32, .ncoCarr 24 31 31, .ncoCarr 39 32 31, .ncoCarr 39 31 32, .ncoCarrAdd 24 31 31,
    .ncoCarrAdd 39 32 31, .ncoCarrAdd 39 31 32, .ncoCode 24 31 31 31, .ncoCode 39 32 31 31, .ncoCode 39 31 32 31, .ncoCode 39 31 31 32,
    .ncoCodeAdd 24 31 31, .ncoCodeAdd 39 32 31, .ncoCodeAdd 39 31 32, .ncoCphs 24 31, .ncoCphs 39 32, .ncoKphs 24 31 31,
    .ncoKphs 39 32 31, .ncoKphs 39 31 32, .tapOff 24 31 31 7, .tapOff 39 32 31 7, .tapOff 39 31 32 7, .tapOff 39 31 31 8,
    .tapAdd 24 31 31 7, .tapAdd 39 32 31 7, .tapAdd 39 31 32 7, .tapAdd 39 31 31 8, .tapEn 24 31 31, .tapEn 39 32 31, .tapEn 39 31 32,
    .codeSympos 24 31 31, .codeSympos 39 32 31, .codeSympos 39 31 32, .codeSymlen 24 31 31, .codeSymlen 39 32 31, .codeSymlen 39 31 32,
    .codeSel 24 31 31, .codeSel 39 32 31, .codeSel 39 31 32, .trkStack 24 31 31, .trkStack 39 32 31, .trkStack 39 31 32,
    .trkDuty 24 31 31 31, .trkDuty 39 32 31 31, .trkDuty 39 31 32 31, .trkDuty 39 31 31 32, .trkState 24 31 31, .trkState 39 32 31,
    .trkState 39 31 32, .wipeLd 24 31 31 31, .wipeLd 39 32 31 31, .wipeLd 39 31 32 31, .wipeLd 39 31 31 32, .bCond 24 31 31 (-32768),
    .bCond 39 32 31 (-32768), .bCond 39 31 32 (-32768), .bCond 39 31 31 32768, .jmp 24 1, .jmp 39 (2 ^ 17), .call 24 1, .call 39 (2 ^ 17),
    .loop 24 31 1, .loop 39 32 1, .loop 39 31 (2 ^ 16), .link 24 1, .link 39 (2 ^ 32), .end_ 24, .ret 24, .nop 24, .jr 24 31, .jr 39 32,
    .callr 24 31, .callr 39 32, .mov 24 31 31, .mov 39 32 31, .mov 39 31 32, .movfl 24 31, .movfl 39 32, .ldK 24 31 127] : List Instr).all (fun i => !i.wf) = true := by decide +kernel

theorem test_illFormed_5 : ([
    .ldK 39 32 127, .ldK 39 31 128, .stK 24 31 127, .stK 39 32 127, .stK 39 31 128, .ld 24 31 31 (-1024), .ld 39 32 31 (-1024),
    .ld 39 31 32 (-1024), .ld 39 31 31 1024, .st 24 31 31 31 (-1024), .st 39 32 31 31 (-1024), .st 39 31 32 31 (-1024),
    .st 39 31 31 32 (-1024), .st 39 31 31 31 1024, .move 24 31 31 31 3 3 true true, .move 39 32 31 31 3 3 true true,
    .move 39 31 32 31 3 3 true true, .move 39 31 31 32 3 3 true true, .move 39 31 31 31 4 3 true true, .move 39 31 31 31 3 4 true true,
    .waitq 24 31 31 63, .waitq 39 32 31 63, .waitq 39 31 32 63, .waitq 39 31 31 64, .waitqRelease 24, .waittAbs 24 31 31 31,
    .waittAbs 39 32 31 31, .waittAbs 39 31 32 31, .waittAbs 39 31 31 32, .waittTp 24 31 3, .waittTp 39 32 3, .waittTp 39 31 4,
    .waittRel 24 31 31, .waittRel 39 32 31, .waittRel 39 31 32, .waittRelease 24, .stamp 24 31, .stamp 39 32, .stampRead 24 31 7,
    .stampRead 39 32 7, .stampRead 39 31 8, .txnBegin 24 31 3, .txnBegin 39 32 3, .txnBegin 39 31 4, .txnCommit 24 31 3,
    .txnCommit 39 32 3, .txnCommit 39 31 4, .txnCommitat 24 31 31 31 3 true, .txnCommitat 39 32 31 31 3 true,
    .txnCommitat 39 31 32 31 3 true, .txnCommitat 39 31 31 32 3 true, .txnCommitat 39 31 31 31 4 true, .txnAbort 24 31 3,
    .txnAbort 39 32 3, .txnAbort 39 31 4, .txnWait 24 31 3, .txnWait 39 32 3, .txnWait 39 31 4, .txnWaitRelease 24,
    .vote 24 31 31 true true, .vote 39 32 31 true true, .vote 39 31 32 true true, .voteWaitRelease 24, .claim 24 31 31, .claim 39 32 31,
    .claim 39 31 32, .release 24 31 31, .release 39 32 31, .release 39 31 32, .event 24 31 31 31 255 7, .event 39 32 31 31 255 7,
    .event 39 31 32 31 255 7, .event 39 31 31 32 255 7, .event 39 31 31 31 256 7, .event 39 31 31 31 255 8, .signal 24 31, .signal 39 32,
    .halt 24, .queueDoorbell 0 7 1, .queueDoorbell 1 8 1, .queueDoorbell 1 7 (2 ^ 32), .run 8, .load 8, .fence 8, .badOp 8,
    .ctxResume 0 7, .ctxResume 1 8, .ctxReset 0 7, .ctxReset 1 8, .sigSet 0 1] : List Instr).all (fun i => !i.wf) = true := by decide +kernel

theorem test_illFormed_6 : ([
    .programStoreWrite 0 0x10780000 1, .programStoreWrite 1 0x10800000 1, .executionWatchdog 24, .planDoorbell 0 1,
    .planDoorbell 1 (2 ^ 32), .captureBlockCopy 2, .binDispatch 4, .binComplete 4 [], .aidingPublish 4096 (List.replicate 14 1),
    .aidingPublish 4095 [],  .integrityEvaluation 1 1 1 {} [] 256 [] [], .lock 0 7, .lock 1 8, .holdover 0,
    .freerun 0, .step 0, .suspect 0 true, .slew 0 1, .tpEdge 4 true, .loopbackCheck 4 2 1, .loopbackCheck 3 3 1, .tpCalStart 0,
    .tpCalDone [] (List.replicate 13 []), .tpCalDone (List.replicate 4 ([], 0)) [], .tpCalDone (List.replicate 4 ([], 0)) (List.replicate 9 []), .captureEdge 9 true 1, .capturePop 0 8,
    .capturePop 1 9, .trgArmWrite 0 15 1, .trgArmWrite 1 16 1, .triggerFire 16, .dtRead 0, .monoRead 0, .lastSeqRead 0 23,
    .lastSeqRead 1 24, .frameRx 4 [255] 1 true, .frameRx 3 [256] 1 true, .frameTx 5 none 1, .txtsPop 0, .ntpRequest 8 7 255 1 1 1 3 1,
    .ntpRequest 7 8 255 1 1 1 3 1, .ntpRequest 7 7 256 1 1 1 3 1, .ntpRequest 7 7 255 (2 ^ 64) 1 1 3 1, .ntpRequest 7 7 255 1 1 1 4 1,
    .requestUnicastTransmission (2 ^ 32) 1 1, .requestUnicastTransmission 1 (2 ^ 32) 1, .requestUnicastTransmission 1 1 (2 ^ 32),
    .esmcPduSend true true 16 15, .esmcPduSend true true 15 16, .esmcTimeout 3, .linkDown 4 true, .np3FrameRx [256],
    .peerReport ⟨[256], true⟩ 1 1 1, .pwrVoteRaise 0 1, .pwrVoteRaise 1 (2 ^ 32), .pwrVoteWithdraw 0 1, .pwrVoteWithdraw 1 (2 ^ 32),
    .domainRun 19, .domainOff 19, .drainTimeout 19, .monConversion [] 4095, .monConversion (List.replicate 8 1) 4096, .apply 0, .align 0,
    .snap 0, .rtcRead 0, .rtcTrimWrite 0 1, .bctToUtc 0, .utcToBct 0, .rtcToUtc 0, .ledgerSubAging 0, .ledgerSubLeap 0,
    .ledgerSubUpdate 0, .swCrumb 0 255, .swCrumb 1 256, .heartbeat 0 1, .stestStart 0, .stestComplete (some 192), .safeEnter 0 1,
    .safeEnter 1 (2 ^ 16), .safeExit 0 1, .safeExit 1 (2 ^ 16), .fltSwraise 0 255 true, .fltSwraise 1 256 true, .fltInject 0 255,
    .fltInject 1 256, .supplyFault 13, .interconnectTimeout 0, .bchStart 0 15, .bchStart 1 16] : List Instr).all (fun i => !i.wf) = true := by decide +kernel

theorem test_illFormed_7 : ([
    .bchPause 0 15, .bchPause 1 16, .bchResume 0 15, .bchResume 1 16, .bchStop 0 15, .bchStop 1 16, .pchStart 0 7, .pchStart 1 8,
    .pchPause 0 7, .pchPause 1 8, .pchResume 0 7, .pchResume 1 8, .pchReset 0 7, .pchReset 1 8, .dmaBurst 16,
    .dmaBusError (2 ^ 64) 23 true true true, .dmaBusError 1 24 true true true, .dmaDoorbell 0 255, .dmaDoorbell 1 256, .paceAdd 0 15 1,
    .paceAdd 1 16 1, .paceAdd 1 15 (2 ^ 24), .softwareReset 0 1, .softwareReset 1 (2 ^ 16), .boot true (some 2) none ((List.range 6).map fun p => ⟨p, 0, 0, 4194303, 0, 0, 1⟩) (List.replicate 6 0x4001),
    .boot true none none [] (List.replicate 6 0x4001), .boot true none none ((List.range 6).map fun p => ⟨p, 0, 0, 4194303, 0, 0, 1⟩) [],
    .boot true (some 0) (some ⟨2 ^ 64, 1, 0, 0⟩) ((List.range 6).map fun p => ⟨p, 0, 0, 4194303, 0, 0, 1⟩) (List.replicate 6 0x4001),
    .boot true (some 0) (some ⟨1, 1, 4, 0⟩) ((List.range 6).map fun p => ⟨p, 0, 0, 4194303, 0, 0, 1⟩) (List.replicate 6 0x4001),
    .boot true (some 0) (some ⟨1, 1, 0, 2⟩) ((List.range 6).map fun p => ⟨p, 0, 0, 4194303, 0, 0, 1⟩) (List.replicate 6 0x4001),
    .healthConfirm 0 1, .healthConfirm 1 (2 ^ 16), .gheandInfo 3 ⟨1, 1⟩ 255, .gheandInfo 1 ⟨2 ^ 48, 0⟩ 255,
    .gheandInfo 1 ⟨1, 1⟩ 256, .gheandOpen 3 ⟨1, 1⟩ 255, .gheandOpen 1 ⟨2 ^ 48, 0⟩ 255, .gheandOpen 1 ⟨1, 1⟩ 256, .gheandClose 3 ⟨1, 1⟩ 255,
    .gheandClose 1 ⟨2 ^ 48, 0⟩ 255, .gheandClose 1 ⟨1, 1⟩ 256, .gheandBegin 3 ⟨1, 1⟩ 255 1 1, .gheandBegin 1 ⟨2 ^ 48, 0⟩ 255 1 1,
    .gheandBegin 1 ⟨1, 1⟩ 256 1 1, .gheandBegin 1 ⟨1, 1⟩ 255 (2 ^ 32) 1, .gheandBegin 1 ⟨1, 1⟩ 255 1 (2 ^ 16), .gheandStage 3 ⟨1, 1⟩ 255 1 [255],
    .gheandStage 1 ⟨2 ^ 48, 0⟩ 255 1 [255], .gheandStage 1 ⟨1, 1⟩ 256 1 [255], .gheandStage 1 ⟨1, 1⟩ 255 (2 ^ 16) [255], .gheandStage 1 ⟨1, 1⟩ 255 1 [256],
    .gheandStatus 3 ⟨1, 1⟩ 255, .gheandStatus 1 ⟨2 ^ 48, 0⟩ 255, .gheandStatus 1 ⟨1, 1⟩ 256, .gheandCommit 3 ⟨1, 1⟩ 255 1, .gheandCommit 1 ⟨2 ^ 48, 0⟩ 255 1,
    .gheandCommit 1 ⟨1, 1⟩ 256 1, .gheandCommit 1 ⟨1, 1⟩ 255 (2 ^ 16), .gheandRead 3 ⟨1, 1⟩ 255 1 1, .gheandRead 1 ⟨2 ^ 48, 0⟩ 255 1 1,
    .gheandRead 1 ⟨1, 1⟩ 256 1 1, .gheandRead 1 ⟨1, 1⟩ 255 (2 ^ 32) 1, .gheandRead 1 ⟨1, 1⟩ 255 1 (2 ^ 16), .gheandVote 3 ⟨1, 1⟩ 255 1 true,
    .gheandVote 1 ⟨2 ^ 48, 0⟩ 255 1 true, .gheandVote 1 ⟨1, 1⟩ 256 1 true, .gheandVote 1 ⟨1, 1⟩ 255 (2 ^ 32) true, .gheandRevoke 3 ⟨1, 1⟩ 255 [255],
    .gheandRevoke 1 ⟨2 ^ 48, 0⟩ 255 [255], .gheandRevoke 1 ⟨1, 1⟩ 256 [255], .gheandRevoke 1 ⟨1, 1⟩ 255 [256], .gheandUnlock 3 ⟨1, 1⟩ 255 [255],
    .gheandUnlock 1 ⟨2 ^ 48, 0⟩ 255 [255], .gheandUnlock 1 ⟨1, 1⟩ 256 [255], .gheandUnlock 1 ⟨1, 1⟩ 255 [256], .gheandReset 3 ⟨1, 1⟩ 255,
    .gheandReset 1 ⟨2 ^ 48, 0⟩ 255, .gheandReset 1 ⟨1, 1⟩ 256, .svcRelease 0, .supplyRecover 13, .linkUp 4, .gheandBadFrame { port := 3 }, .gheandBadFrame { port := 1, src := ⟨0, 2 ^ 48⟩ }, .gheandBadFrame { port := 1, unknown := some (256, 255) },
    .gheandBadFrame { port := 1, unknown := some (255, 256) }, .gheandBadFrame { port := 1, unknown := some (1, 255) }, .gheandInfo 1 ⟨0, 2 ^ 48⟩ 255, .autoBaud 1 256,
    .macAgeing (2 ^ 48), .illegalOpcode 24 1] : List Instr).all (fun i => !i.wf) = true := by decide +kernel

end Sys2Proof.Tests
end

/-! PROOFS. What an access that is answered does, and what each transaction command makes of the domain's state (R33, R42, R45). -/

namespace Sys2Proof.Machine

/-! ### An access that is heard and answered (R23, R30) -/

theorem ifHeard_of_heard {s : State} {owner : Nat} (h : s.heard owner = true) (a : Nat) (w : Bool) (k : State → State) :
    s.ifHeard owner a w k = k s := if_pos h

theorem access_of_answers {s : State} {a : Nat} (h : s.answers a = true) (owner : Nat) (k : State → State) :
    s.access owner a k = k (s.okay owner) := if_pos h

/-- A block is found by the 4 KiB page alone. -/
theorem blockOf_page {a b : Nat} (h : a / 0x1000 = b / 0x1000) : blockOf a = blockOf b := by
  unfold blockOf; rw [h]

/-- The transaction registers answer while CORE is in Run. -/
theorem answers_txnPage {s : State} {a : Nat} (h1 : s.inRun 1 = true) (h : a / 0x1000 = 0x400D0) : s.answers a = true := by
  have hd : domainOf a = some 1 := by
    unfold domainOf
    rw [blockOf_page (b := 0x400D0000) h]
    rfl
  rw [State.answers, hd]
  exact h1

/-! ### What an access touches beside its effect (R43) -/

/-- An owner's access to its transaction moves the idle timeout's mark alone. -/
theorem touch_eq (s : State) (o n : Nat) : s.touch o n = { s with marks := (s.touch o n).marks } := by
  unfold State.touch; split <;> rfl

@[simp] theorem touch_regs (s : State) (o n : Nat) : (s.touch o n).regs = s.regs := by rw [touch_eq]
@[simp] theorem touch_mem (s : State) (o n : Nat) : (s.touch o n).mem = s.mem := by rw [touch_eq]
@[simp] theorem touch_txns (s : State) (o n : Nat) : (s.touch o n).txns = s.txns := by rw [touch_eq]
@[simp] theorem touch_txnResult (s : State) (o n : Nat) : (s.touch o n).txnResult = s.txnResult := by rw [touch_eq]
@[simp] theorem touch_claims (s : State) (o n : Nat) : (s.touch o n).claims = s.claims := by rw [touch_eq]

/-- Equal register files read alike. -/
theorem reg_of_regs {s t : State} (h : t.regs = s.regs) (a : Nat) : t.reg a = s.reg a := by
  unfold State.reg; rw [h]

/-- Equal transaction tables read alike. -/
theorem txn_of_txns {s t : State} (h : t.txns = s.txns) (n : Nat) : t.txn n = s.txn n := by
  unfold State.txn; rw [h]

@[simp] theorem look_setResult (s : State) (o n c : Nat) : look 0 (s.setResult o n c).txnResult (o * 4 + n) = c :=
  look_put_same _ _ _ _

theorem look_setResult_touch (s : State) (o n c : Nat) : look 0 ((s.setResult o n c).touch o n).txnResult (o * 4 + n) = c := by
  rw [touch_txnResult, look_setResult]

/-! ### The outcomes of a transaction command (R45) -/

/-- From `s` to `t` the write of `owner` to domain `n` was refused with `code`: the code is its answer and its RESULT, and neither a
transaction nor a register changed. -/
def TxnRefused (owner n code : Nat) (s t : State) : Prop :=
  t.txns = s.txns ∧ look 0 t.txnResult (owner * 4 + n) = code ∧ t.answer = ⟨owner, .refused, code, 0⟩ ∧ t.regs = s.regs

/-- From `s` to `t` a command of `owner` made `x` of domain `n`'s transaction, with RESULT OK, and changed no other transaction, no register,
no memory and no claim. -/
def TxnBecame (owner n : Nat) (x : Txn) (s t : State) : Prop :=
  t.txn n = x ∧ look 0 t.txnResult (owner * 4 + n) = 0 ∧
    (∀ m, m ≠ n → t.txn m = s.txn m) ∧ t.regs = s.regs ∧ t.mem = s.mem ∧ t.claims = s.claims

theorem txnRefuse_refused (s : State) (owner n code : Nat) : TxnRefused owner n code s (s.txnRefuse owner n code) :=
  ⟨rfl, look_setResult .., rfl, rfl⟩

theorem txnAnswer_ok (s : State) (owner n : Nat) : s.txnAnswer owner n 0 = (s.setResult owner n 0).touch owner n := rfl

theorem txnAnswer_code (s : State) (owner n : Nat) {code : Nat} (h : code ≠ 0) :
    s.txnAnswer owner n code = ((s.setResult owner n code).touch owner n).refuse owner code := if_neg h

theorem txnAnswer_refused (s : State) (owner n : Nat) {code : Nat} (h : code ≠ 0) :
    TxnRefused owner n code s (s.txnAnswer owner n code) := by
  rw [txnAnswer_code s owner n h]
  exact ⟨touch_txns .., look_setResult_touch .., rfl, touch_regs ..⟩

theorem txnAnswer_became (s : State) (owner n : Nat) (x : Txn) :
    TxnBecame owner n x s ((s.setTxn n x).txnAnswer owner n 0) := by
  rw [txnAnswer_ok]
  have ht : (((s.setTxn n x).setResult owner n 0).touch owner n).txns = (s.setTxn n x).txns := touch_txns ..
  refine ⟨?_, look_setResult_touch .., fun m hm => ?_, touch_regs .., touch_mem .., touch_claims ..⟩
  · rw [txn_of_txns ht, txn_setTxn_same]
  · rw [txn_of_txns ht, txn_setTxn, if_neg hm]

/-- A heard command of an engine that may issue one is judged on the answered state. -/
theorem txnIssued_eq {s : State} {owner n : Nat} (h1 : s.inRun 1 = true) (hh : s.heard owner = true) (hn : n < 4)
    (ho : owner < 24 ∨ 55 < owner) (k : State → State × Nat) :
    s.txnIssued owner n k = (k (s.okay owner)).1.txnAnswer owner n (k (s.okay owner)).2 := by
  have ha : s.answers (Reg.TXN_CMD n) = true := answers_txnPage h1 (by unfold Reg.TXN_CMD; omega)
  have hb : (!decide (24 ≤ owner ∧ owner ≤ 55)) = true := by
    rw [decide_eq_false (by omega)]; rfl
  rw [State.txnIssued, ifHeard_of_heard hh, State.txnCommand, if_pos hn, access_of_answers ha, State.whenB, if_pos hb]

section
variable {s : State} {owner n : Nat} (h1 : s.inRun 1 = true) (hh : s.heard owner = true) (hn : n < 4) (ho : owner < 24 ∨ 55 < owner)
include h1 hh hn ho

theorem txnIssued_refused {k : State → State × Nat} {code : Nat} (hk : k (s.okay owner) = (s.okay owner, code)) (hc : code ≠ 0) :
    TxnRefused owner n code s (s.txnIssued owner n k) := by
  rw [txnIssued_eq h1 hh hn ho, hk]
  exact txnAnswer_refused (s.okay owner) owner n hc

theorem txnIssued_became {k : State → State × Nat} {x : Txn} (hk : k (s.okay owner) = ((s.okay owner).setTxn n x, 0)) :
    TxnBecame owner n x s (s.txnIssued owner n k) := by
  rw [txnIssued_eq h1 hh hn ho, hk]
  exact txnAnswer_became (s.okay owner) owner n x

end

/-! ### BEGIN, ABORT and COMMIT by the state of the domain (R33, R38, R42) -/

theorem txnBegin_idle {s : State} {n : Nat} (owner : Nat) (h : (s.txn n).state = .idle) :
    s.txnBegin owner n = (s.setTxn n { state := .opened, owner := owner }, 0) := if_pos h

theorem txnBegin_busy {s : State} {n : Nat} (owner : Nat) (h : (s.txn n).state ≠ .idle) : s.txnBegin owner n = (s, 1) := if_neg h

theorem txnAbortCmd_idle {s : State} {n : Nat} (owner : Nat) (h : (s.txn n).state = .idle) : s.txnAbortCmd owner n = (s, 3) := if_pos h

theorem txnAbortCmd_other {s : State} {owner n : Nat} (h : (s.txn n).state ≠ .idle) (ho : (s.txn n).owner ≠ owner) :
    s.txnAbortCmd owner n = (s, 2) := by
  rw [State.txnAbortCmd, if_neg h, if_pos ho]

theorem txnAbortCmd_held {s : State} {owner n : Nat} (h : (s.txn n).held = true) (ho : (s.txn n).owner = owner) :
    s.txnAbortCmd owner n = (s.setTxn n { afterAbort := true }, 0) := by
  have hst : (s.txn n).state ≠ .idle ∧ (s.txn n).state ≠ .landing := by
    rcases of_decide_eq_true h with h | h | h <;> rw [h] <;> decide
  rw [State.txnAbortCmd, if_neg hst.1, if_neg fun hne => hne ho, if_neg hst.2]

theorem txnGate_idle {s : State} {n : Nat} (owner : Nat) (h : (s.txn n).state = .idle) : s.txnGate owner n = 3 := by
  simp only [State.txnGate, h]

theorem txnGate_other {s : State} {owner n : Nat} (h : (s.txn n).state ≠ .idle) (ho : (s.txn n).owner ≠ owner) :
    s.txnGate owner n = 2 := by
  cases hst : (s.txn n).state with
  | idle => exact absurd hst h
  | opened | armed | failed | landing => simp only [State.txnGate, hst, ho, if_false]

theorem txnGate_open {s : State} {owner n : Nat} (h : (s.txn n).state = .opened) (ho : (s.txn n).owner = owner) :
    s.txnGate owner n = 0 := by
  simp only [State.txnGate, h, ho, if_true]

theorem txnCommit_gated {s : State} {owner n g : Nat} (h : s.txnGate owner n = g) (hg : g ≠ 0) : s.txnCommit owner n = (s, g) := by
  rw [State.txnCommit, h, if_pos hg]

/-- The gate looks at the transaction alone. -/
theorem txnGate_congr {s t : State} {n : Nat} (h : t.txn n = s.txn n) (owner : Nat) : t.txnGate owner n = s.txnGate owner n := by
  unfold State.txnGate; rw [h]

/-! ### Writes of TXN_AT_* (R33) -/

/-- What TXN_AT_WRITE's operand names: the one field of its register. -/
def txnAtFld (n which : Nat) : Fld :=
  if which = 0 then F.TXN_AT_SEC_LO_SEC_LO n else if which = 1 then F.TXN_AT_SEC_HI_SEC_HI n else F.TXN_AT_NS_NS n

theorem txnAtFld_fits (n which : Nat) : (txnAtFld n which).lo + (txnAtFld n which).w ≤ 32 := by
  unfold txnAtFld
  split
  · show 0 + 32 ≤ 32; decide
  · split
    · show 0 + 16 ≤ 32; decide
    · show 0 + 30 ≤ 32; decide

theorem txnAtFld_addr (n which : Nat) : (txnAtFld n which).addr =
    if which = 0 then Reg.TXN_AT_SEC_LO n else if which = 1 then Reg.TXN_AT_SEC_HI n else Reg.TXN_AT_NS n := by
  unfold txnAtFld
  split
  · rfl
  · split <;> rfl

/-- A field as wide as its register is the register. -/
theorem withBits_whole (v x : Word) : withBits v 0 32 x.toNat = x := by
  apply BitVec.eq_of_toNat_eq
  have h := bits_withBits_same v x.toNat (lo := 0) (w := 32) (Nat.le_refl 32)
  rwa [bits, Nat.pow_zero, Nat.div_one, Nat.mod_eq_of_lt (BitVec.isLt _), Nat.mod_eq_of_lt (BitVec.isLt _)] at h

theorem txnAtWrite_gated {s : State} {owner n : Nat} (which : Nat) (v : Word) (h : s.txnGate owner n = 2) :
    s.txnAtWrite owner n which v = (s, 2) := by
  rw [State.txnAtWrite, h]
  rfl

theorem txnAtWrite_taken {s : State} {owner n : Nat} (which : Nat) (v : Word) (h : s.txnGate owner n = 0) :
    s.txnAtWrite owner n which v = (s.wr (txnAtFld n which) v.toNat, 0) := by
  have hw : s.setReg (Reg.TXN_AT_SEC_LO n) v = s.wr (F.TXN_AT_SEC_LO_SEC_LO n) v.toNat :=
    congrArg (s.setReg _) (withBits_whole _ v).symm
  rw [State.txnAtWrite, h, hw, txnAtFld]
  show (if which = 0 then _ else _) = _
  split
  · rfl
  · split <;> rfl

section
variable {s : State} {owner n : Nat} (h1 : s.inRun 1 = true) (hn : n < 4)
include h1 hn

theorem txnAtCommand_eq (which : Nat) (v : Word) : s.txnAtCommand owner n which v =
    let r := ((s.okay owner).touch owner n).txnAtWrite owner n which v
    if r.2 = 0 then r.1 else r.1.txnRefuse owner n r.2 := by
  have ha : s.answers (Reg.TXN_AT_SEC_LO n) = true := answers_txnPage h1 (by unfold Reg.TXN_AT_SEC_LO; omega)
  rw [State.txnAtCommand, access_of_answers ha]

theorem txnAtCommand_refused (which : Nat) (v : Word) (hs : (s.txn n).state ≠ .idle) (ho : (s.txn n).owner ≠ owner) :
    TxnRefused owner n 2 s (s.txnAtCommand owner n which v) := by
  have hg : ((s.okay owner).touch owner n).txnGate owner n = 2 :=
    (txnGate_congr (s := s.okay owner) (txn_of_txns (touch_txns ..) n) owner).trans (txnGate_other hs ho)
  rw [txnAtCommand_eq h1 hn, txnAtWrite_gated which v hg]
  obtain ⟨htxns, hres, hans, hregs⟩ := txnRefuse_refused ((s.okay owner).touch owner n) owner n 2
  exact ⟨htxns.trans (touch_txns ..), hres, hans, hregs.trans (touch_regs ..)⟩

theorem txnAtCommand_taken (which : Nat) (v : Word) (hs : (s.txn n).state = .opened) (ho : (s.txn n).owner = owner) :
    s.txnAtCommand owner n which v = ((s.okay owner).touch owner n).wr (txnAtFld n which) v.toNat := by
  have hg : ((s.okay owner).touch owner n).txnGate owner n = 0 :=
    (txnGate_congr (s := s.okay owner) (txn_of_txns (touch_txns ..) n) owner).trans (txnGate_open hs ho)
  rw [txnAtCommand_eq h1 hn, txnAtWrite_taken which v hg]
  rfl

end

end Sys2Proof.Machine

/-! PROOFS. The statement on BEGIN, ABORT and writes of TXN_AT_*. -/

namespace Sys2Proof.Machine

/-- Settles O9: each command is accepted or refused as the gate and the state of the domain say. -/
theorem txnOpensAndAborts : Obligations.TxnOpensAndAborts := by
  intro s owner n which v h1 hh hn hw ho
  have atWrite : exec (.txnAtWrite owner n which v) s = .next (s.txnAtCommand owner n which v) := by
    show Host.Outcome.next (if n < 4 ∧ which < 3 then _ else s) = _
    rw [if_pos ⟨hn, hw⟩, ifHeard_of_heard hh]
  refine ⟨fun hi => ?_, fun hi => ?_, fun hi => ?_, fun hi hne => ?_, fun hd he => ?_, fun hi he => ?_⟩
  · obtain ⟨ht, hres, hframe⟩ := txnIssued_became h1 hh hn ho (k := (·.txnBegin owner n)) (txnBegin_idle owner hi)
    exact ⟨_, rfl, ht, by rw [State.showJcount, ht]; rfl, hres, hframe⟩
  · exact ⟨_, rfl, txnIssued_refused h1 hh hn ho (txnBegin_busy (s := s.okay owner) owner hi) (by decide)⟩
  · have hg : (s.okay owner).txnGate owner n = 3 := txnGate_idle owner hi
    exact ⟨⟨_, rfl, txnIssued_refused h1 hh hn ho (txnAbortCmd_idle (s := s.okay owner) owner hi) (by decide)⟩,
      ⟨_, rfl, txnIssued_refused h1 hh hn ho (txnCommit_gated hg (by decide)) (by decide)⟩⟩
  · have hg : (s.okay owner).txnGate owner n = 2 := txnGate_other hi hne
    exact ⟨⟨_, rfl, txnIssued_refused h1 hh hn ho (txnAbortCmd_other (s := s.okay owner) hi hne) (by decide)⟩,
      ⟨_, rfl, txnIssued_refused h1 hh hn ho (txnCommit_gated hg (by decide)) (by decide)⟩,
      ⟨_, atWrite, txnAtCommand_refused h1 hn which v hi hne⟩⟩
  · obtain ⟨ht, hres, hframe⟩ := txnIssued_became h1 hh hn ho (k := (·.txnAbortCmd owner n)) (txnAbortCmd_held hd he)
    exact ⟨_, rfl, ht, by rw [State.showJcount, ht]; rfl, hres, hframe⟩
  · refine ⟨_, atWrite, ?_⟩
    rw [txnAtCommand_taken h1 hn which v hi he]
    have hrd := rd_wr_same ((s.okay owner).touch owner n) (txnAtFld n which) v.toNat (txnAtFld_fits n which)
    refine ⟨?_, ?_, ?_, fun a ha => ?_, touch_txns .., touch_mem ..⟩
    · rintro rfl
      exact hrd.trans (Nat.mod_eq_of_lt v.isLt)
    · rintro rfl
      exact hrd
    · rintro rfl
      exact hrd
    · have haddr : a ≠ (txnAtFld n which).addr := by
        rintro rfl
        exact ha (List.mem_singleton.mpr (txnAtFld_addr n which))
      rw [reg_wr_other _ _ _ haddr]
      exact reg_of_regs (touch_regs ..) a

end Sys2Proof.Machine

/-! PROOFS. Writes to RWT fields: refused, journaled or applied (R34–R36, R44), and what landing means for a register of the Sieve. -/

namespace Sys2Proof.Machine

/-! ### The verdict on a write (R35, R44, R48) -/

/-- The verdict rests on registers, transactions and claims. -/
theorem rwtCode_congr {s t : State} (hr : t.regs = s.regs) (ht : t.txns = s.txns) (hc : t.claims = s.claims) (owner td a : Nat) (v : Word) :
    t.rwtCode owner td a v = s.rwtCode owner td a v := by
  cases s; cases t
  dsimp only at hr ht hc
  subst hr ht hc
  rfl

theorem rwtCode_busy {s : State} {owner td : Nat} (a : Nat) (v : Word)
    (h : (s.txn td).state = .landing ∨ (s.txn td).held = true ∧ (s.txn td).owner ≠ owner) : s.rwtCode owner td a v = 1 := if_pos h

/-- The state in which the write of an answered access is judged. -/
def State.rwtSeen (s : State) (owner td : Nat) : State := (s.okay owner).touch owner td

section
variable (s : State) (owner td : Nat)

@[simp] theorem rwtSeen_regs : (s.rwtSeen owner td).regs = s.regs := touch_regs ..
@[simp] theorem rwtSeen_mem : (s.rwtSeen owner td).mem = s.mem := touch_mem ..
@[simp] theorem rwtSeen_txns : (s.rwtSeen owner td).txns = s.txns := touch_txns ..
@[simp] theorem rwtSeen_reg (a : Nat) : (s.rwtSeen owner td).reg a = s.reg a := reg_of_regs (rwtSeen_regs ..) a
@[simp] theorem rwtSeen_txn (n : Nat) : (s.rwtSeen owner td).txn n = s.txn n := txn_of_txns (rwtSeen_txns ..) n

@[simp] theorem rwtSeen_rwtCode (a : Nat) (v : Word) : (s.rwtSeen owner td).rwtCode owner td a v = s.rwtCode owner td a v :=
  rwtCode_congr (rwtSeen_regs ..) (rwtSeen_txns ..) (touch_claims ..) owner td a v

end

section
variable {s : State} {owner td a : Nat} {v : Word} (htd : tdOf a = some td) (ha : s.answers a = true)
include htd ha

/-- A write that is refused for another reason than a claim leaves TRGk_STAT as it is. -/
theorem writeRwt_refused {code : Nat} (h : s.rwtCode owner td a v = code) (h0 : code ≠ 0) (hc : code ≠ 0x0C) :
    s.writeRwt owner a v = (s.rwtSeen owner td).txnRefuse owner td code := by
  have hcode : ((s.okay owner).touch owner td).rwtCode owner td a v = code := (rwtSeen_rwtCode s owner td a v).trans h
  simp only [State.writeRwt, htd, access_of_answers ha, hcode, if_pos h0]
  cases trgOf a with
  | none => rfl
  | some k => simp only [hc, false_and, if_false, State.rwtSeen]

/-- A write that is taken goes to an open journal, or is applied where none is open. -/
theorem writeRwt_taken (h : s.rwtCode owner td a v = 0) : s.writeRwt owner a v =
    if (s.txn td).state = .opened then (s.rwtSeen owner td).journal owner td a v else (s.rwtSeen owner td).applyRwt [⟨a, v⟩] := by
  have hcode : ((s.okay owner).touch owner td).rwtCode owner td a v = 0 := (rwtSeen_rwtCode s owner td a v).trans h
  have htxn : ((s.okay owner).touch owner td).txn td = s.txn td := rwtSeen_txn ..
  simp only [State.writeRwt, htd, access_of_answers ha, hcode, htxn, ne_eq, not_true, if_false, State.rwtSeen]

end

/-- A heard RWT_WRITE to a register with RWT fields. -/
theorem exec_rwtWrite {s : State} {owner a : Nat} (hm : rwtMask a ≠ 0) (hh : s.heard owner = true) (v : Word) :
    exec (.rwtWrite owner a v) s = .next (s.writeRwt owner a v) := by
  show Host.Outcome.next (if rwtMask a = 0 then s else _) = _
  rw [if_neg hm, ifHeard_of_heard hh]

/-! ### The journal (R34, R36) -/

theorem journal_regs (s : State) (owner td a : Nat) (v : Word) : (s.journal owner td a v).regs = s.regs := by
  simp only [State.journal]
  split
  · rfl
  · split <;> rfl

theorem journal_mem (s : State) (owner td a : Nat) (v : Word) : (s.journal owner td a v).mem = s.mem := by
  simp only [State.journal]
  split
  · rfl
  · split <;> rfl

section
variable {s : State} {td a : Nat} (owner : Nat) (v : Word)

theorem journal_replaces (h : (s.txn td).journal.any (fun x => decide (x.addr = a)) = true) :
    (s.journal owner td a v).txn td =
      { s.txn td with journal := (s.txn td).journal.map fun x => if x.addr = a then ⟨a, v &&& rwtMask a⟩ else x } := by
  rw [State.journal, if_pos h, txn_setTxn_same]

theorem journal_appends (h : ¬ (s.txn td).journal.any (fun x => decide (x.addr = a)) = true) (hl : (s.txn td).journal.length < 256) :
    (s.journal owner td a v).txn td = { s.txn td with journal := (s.txn td).journal ++ [⟨a, v &&& rwtMask a⟩] } := by
  rw [State.journal, if_neg h, if_neg (by omega), txn_setTxn_same]

theorem journal_overflows (h : ¬ (s.txn td).journal.any (fun x => decide (x.addr = a)) = true) (hl : ¬ (s.txn td).journal.length < 256) :
    (s.journal owner td a v).txn td = { s.txn td with state := .failed, journal := [] } ∧
      (s.journal owner td a v).answer = ⟨owner, .refused, 6, 0⟩ := by
  rw [State.journal, if_neg h, if_pos (by omega)]
  obtain ⟨htxns, -, hans, -⟩ := txnRefuse_refused (s.setTxn td { s.txn td with state := .failed, journal := [] }) owner td 6
  exact ⟨(txn_of_txns htxns td).trans (txn_setTxn_same ..), hans⟩

end

/-! ### A register of the Sieve (0x40078000–0x40078FFF) lands without further effect -/

/-- A pass over a list that changes nothing. -/
theorem foldl_same {α β : Type} (l : List α) (b : β) : l.foldl (fun b _ => b) b = b := by
  induction l with
  | nil => rfl
  | cons _ l ih => exact ih

section
variable {a : Nat} (hlo : 0x40078000 ≤ a) (hhi : a < 0x40079000)
include hlo hhi

theorem tpOf_sieve : tpOf a = none := if_neg (by omega)

theorem trgOf_sieve : trgOf a = none := by
  rw [trgOf, if_neg (by omega), if_neg (by omega)]

theorem pllOf_sieve : pllOf a = none := if_neg (by omega)

theorem landed_sieve (s old : State) : s.landed old a = s := by
  have hinj : ¬ ((List.range 3).any fun g => decide (a = Reg.INJ_GRP_CFG g)) = true := by
    intro hany
    obtain ⟨g, hg, h⟩ := List.any_eq_true.mp hany
    have hga : a = 0x40058000 + 0x10 * g := of_decide_eq_true h
    have hg3 : g < 3 := List.mem_range.mp hg
    omega
  rw [State.landed, tpOf_sieve hlo hhi, trgOf_sieve hlo hhi, if_neg (by unfold Reg.CLK_REFCFG; omega), if_neg (by omega), if_neg (by omega),
    if_neg hinj, if_neg (by unfold Reg.TRK_RAW_SIZE; omega), if_neg (by unfold Reg.KYO_HOLD_BUDGET Reg.KYO_CTRL; omega),
    if_neg (by unfold Reg.MILL_CTRL; omega), if_neg (by omega)]

theorem dropBadTp_sieve (s : State) (v : Word) : s.dropBadTp [⟨a, v⟩] = (s, [⟨a, v⟩]) := by
  have htouched : ∀ n, ([⟨a, v⟩] : List JEntry).any (fun e => decide (tpOf e.addr = some n)) = false := by
    intro n
    rw [List.any_cons, List.any_nil, tpOf_sieve hlo hhi]
    rfl
  simp only [State.dropBadTp, htouched, Bool.false_eq_true, if_false, foldl_same, List.filter_cons, tpOf_sieve hlo hhi, if_true, List.filter_nil]

theorem applyRwt_sieve (s : State) (v : Word) : s.applyRwt [⟨a, v⟩] = s.setRwt a v := by
  have hpll : ∀ p, ([⟨a, v⟩] : List JEntry).any (fun e => decide (pllOf e.addr = some p)) = false := by
    intro p
    rw [List.any_cons, List.any_nil, pllOf_sieve hlo hhi]
    rfl
  simp only [State.applyRwt, dropBadTp_sieve hlo hhi, hpll, Bool.false_eq_true, if_false, foldl_same, List.foldl_cons, List.foldl_nil,
    landed_sieve hlo hhi]

end

/-- Settles O11, by the verdict on the write: taken into the journal, applied, or refused as busy. -/
theorem rwtWrites : Obligations.RwtWrites := by
  intro s owner td a v ha hh htd hm
  refine ⟨fun ho _ hc => ?_, fun hi hc hlo hhi => ?_, fun hb => ?_⟩
  · refine ⟨_, exec_rwtWrite hm hh v, ?_⟩
    rw [writeRwt_taken htd ha hc, if_pos ho]
    refine ⟨(journal_regs ..).trans (rwtSeen_regs ..), (journal_mem ..).trans (rwtSeen_mem ..), ?_⟩
    rw [← rwtSeen_txn s owner td td]
    split
    next hany => exact journal_replaces owner v hany
    next hany =>
      split
      next hlen => exact journal_appends owner v hany hlen
      next hlen => exact journal_overflows owner v hany hlen
  · refine ⟨_, exec_rwtWrite hm hh v, ?_⟩
    rw [writeRwt_taken htd ha hc, if_neg (by rw [hi]; decide), applyRwt_sieve hlo hhi, State.setRwt]
    refine ⟨?_, fun b hb => ?_, rwtSeen_txns .., rwtSeen_mem ..⟩
    · rw [reg_setReg_same, rwtSeen_reg]
    · rw [reg_setReg_other _ _ (List.ne_of_not_mem_cons hb), rwtSeen_reg]
  · refine ⟨_, exec_rwtWrite hm hh v, ?_⟩
    rw [writeRwt_refused htd ha (rwtCode_busy a v hb) (by decide) (by decide)]
    obtain ⟨htxns, -, hans, hregs⟩ := txnRefuse_refused (s.rwtSeen owner td) owner td 1
    exact ⟨hregs.trans (rwtSeen_regs ..), htxns.trans (rwtSeen_txns ..), hans⟩

end Sys2Proof.Machine

/-! PROOFS. A RELEASE can end claims of other owners: it withdraws a trigger's WAKE votes (R274), and the owners that a domain resets when it
leaves Run lose theirs (R431). -/

namespace Sys2Proof.Machine

/-- CORE and TIME are voted on by a core; SEQ is in Run by the WAKE vote of trigger 0 alone. Core 0 (owner 1) holds that trigger, control
context 0 (owner 8) DMA register channel 0. -/
def triggerHoldsSeq : State :=
  { regs :=
      [ (0x40010108, 1), (0x4001010C, 6),         -- CORE: client 0 votes; Run, implied
        (0x40010114, 10),                         -- OCQ: Run, forced
        (0x40010178, 1), (0x4001017C, 2),         -- TIME: client 0 votes; Run
        (0x40010190, 0x8000), (0x40010194, 2) ]   -- SEQ: client 15 votes; Run
    time := { trigs := [(0, { votes := 2 ^ 18 })] }
    claims := { owner := [(0x2000, 1), (0x3000, 8)] } }

theorem triggerHoldsSeq_premises : triggerHoldsSeq.inRun 1 = true ∧ triggerHoldsSeq.heard 1 = true ∧ validRes 0x2000 = true ∧
    triggerHoldsSeq.ownerOf 0x2000 = 1 ∧ triggerHoldsSeq.ownerOf 0x3000 = 8 := by decide +kernel

/-- SEQ drains when the trigger is released, its contexts are reset, and context 0's claim is gone. -/
theorem triggerHoldsSeq_release :
    (triggerHoldsSeq.ifHeard 1 Reg.PAD_CLAIM true (·.padCommand 1 (·.releaseRes 1 0x2000))).ownerOf 0x3000 = 0 := by decide +kernel

/-- Refutes O12: core 0's release of trigger 0 takes SEQ's last vote, and with SEQ's contexts goes the claim of context 0 on a DMA channel,
which the clause on releases says stays. -/
theorem not_claimsHold : ¬ Obligations.ClaimsHold := by
  intro h
  obtain ⟨hrun, hheard, hvalid, hown, hother⟩ := triggerHoldsSeq_premises
  obtain ⟨-, -, hrelease, -⟩ := h triggerHoldsSeq 1 0x2000 0 0 hrun hheard
  obtain ⟨t, ht, -, -, hkept, -⟩ := hrelease hvalid hown
  have htEq : triggerHoldsSeq.ifHeard 1 Reg.PAD_CLAIM true (·.padCommand 1 (·.releaseRes 1 0x2000)) = t := Host.Outcome.next.inj ht
  have hclaim := hkept 0x3000 (by decide)
  rw [← htEq, triggerHoldsSeq_release, hother] at hclaim
  exact absurd hclaim (by decide)

end Sys2Proof.Machine

/-! PROOFS. The INJ commands (R93): what each changes and what it leaves, and that a port's return loss follows group 0 (R81). -/

namespace Sys2Proof.Machine

/-! ### What an update leaves alone -/

/-- From `s` to `t` no register but those of `l`, no memory and no waiting INJ command changes. -/
def Leaves (l : List Nat) (s t : State) : Prop := RegsBut l s t ∧ t.mem = s.mem ∧ t.rf.injWait = s.rf.injWait

section
variable {l l' : List Nat} {s t u : State}

theorem Leaves.refl (l : List Nat) (s : State) : Leaves l s s := ⟨fun _ _ => rfl, rfl, rfl⟩

theorem Leaves.trans (h : Leaves l s t) (k : Leaves l t u) : Leaves l s u :=
  ⟨fun a ha => (k.1 a ha).trans (h.1 a ha), k.2.1.trans h.2.1, k.2.2.trans h.2.2⟩

theorem Leaves.mono (hl : l ⊆ l') (h : Leaves l s t) : Leaves l' s t := ⟨fun a ha => h.1 a fun hm => ha (hl hm), h.2⟩

theorem Leaves.rd (h : Leaves l s t) {f : Fld} (hf : f.addr ∉ l) : t.rd f = s.rd f := by
  rw [State.rd, h.1 f.addr hf, State.rd]

theorem leaves_wr (s : State) {f : Fld} (x : Nat) (hf : f.addr ∈ l) : Leaves l s (s.wr f x) :=
  ⟨fun _ ha => reg_wr_other s f x (ne_of_mem_of_not_mem hf ha).symm, rfl, rfl⟩

theorem leaves_crumb (s : State) (x : CrumbSt) : Leaves l s { s with crumb := x } := ⟨fun _ _ => rfl, rfl, rfl⟩

theorem leaves_safety (s : State) (x : SafetySt) : Leaves l s { s with safety := x } := ⟨fun _ _ => rfl, rfl, rfl⟩

theorem leaves_ite {p : Prop} [Decidable p] (ht : Leaves l s t) (hu : Leaves l s u) : Leaves l s (if p then t else u) := by
  split
  · exact ht
  · exact hu

theorem leaves_foldl {f : State → Nat → State} {gs : List Nat} (hf : ∀ s, ∀ g ∈ gs, Leaves l s (f s g)) (s : State) :
    Leaves l s (gs.foldl f s) :=
  List.foldlRecOn gs f (Leaves.refl l s) fun t ht g hg => ht.trans (hf t g hg)

theorem leaves_addCrumb (s : State) (type src o : Nat) (ws : List Word) (hc : Reg.CRUMB_LOST ∈ l) : Leaves l s (s.addCrumb type src o ws) := by
  rw [State.addCrumb]
  refine leaves_ite (leaves_crumb ..) ?_
  have hcount : Leaves l s (s.sat F.CRUMB_LOST_LOST) := leaves_wr s _ hc
  exact hcount.trans (leaves_crumb ..)

theorem leaves_lower (s : State) (src o : Nat) (hc : Reg.CRUMB_LOST ∈ l) (hf : (bitFld (Reg.FLT_STAT 0) src).addr ∈ l) :
    Leaves l s (s.lower src o) := by
  rw [State.lower]
  exact leaves_ite (.refl l s) <| (leaves_safety s _).trans <| leaves_ite (.refl l _) <|
    (leaves_wr _ 0 hf).trans <| leaves_ite (.refl l _) (leaves_addCrumb _ _ _ _ _ hc)

end

/-- In a pass over distinct numbers, what the visit of `g` alone changes is changed once, if `g` is visited at all. -/
theorem foldl_view {σ β : Type} {f : σ → Nat → σ} {v : σ → β} {k : β → β} {g : Nat} {gs : List Nat} (hd : gs.Nodup)
    (same : g ∈ gs → ∀ s, v (f s g) = k (v s)) (other : ∀ h ∈ gs, h ≠ g → ∀ s, v (f s h) = v s) (s : σ) :
    v (gs.foldl f s) = if g ∈ gs then k (v s) else v s := by
  induction gs generalizing s with
  | nil => rfl
  | cons h gs ih =>
    obtain ⟨hh, hd⟩ := List.nodup_cons.mp hd
    rw [List.foldl_cons, ih hd (fun hg => same (.tail h hg)) fun i hi => other i (.tail h hi)]
    by_cases hg : h = g
    · subst hg
      rw [if_neg hh, if_pos (.head gs), same (.head gs)]
    · rw [other h (.head gs) hg]
      simp only [List.mem_cons, Ne.symm hg, false_or]

/-! ### The return loss follows group 0 (R81) -/

/-- The registers that say whether group 0 injects into port `p`. -/
def injectingRegs (p : Nat) : List Nat :=
  [(F.PWR_DOM_STAT_STATE 7).addr, (F.PWR_DOM_STAT_STATE (3 + p)).addr, Reg.INJ_STAT, Reg.INJ_GRP_CFG 0]

theorem injecting_of_leaves {l : List Nat} {s t : State} {p : Nat} (h : Leaves l s t)
    (hl : ∀ a ∈ injectingRegs p, a ∉ l) : t.injecting 0 p = s.injecting 0 p := by
  simp only [injectingRegs, List.forall_mem_cons] at hl
  obtain ⟨hsample, hport, hstat, hcfg, -⟩ := hl
  rw [State.injecting, State.inRun, State.dom, h.rd hsample, State.inRun, State.dom, h.rd hport, h.rd (f := injState 0) hstat,
    h.rd (f := F.INJ_GRP_CFG_PORT_MASK 0) hcfg]
  rfl

/-- What is done to a port that group 0 does not inject into. -/
def State.rlClear (s : State) (p : Nat) : State := ((s.wr (F.RFP_RL_VALID p) 0).setPort p { s.port p with lowRl := 0 }).lower (43 + p)

theorem rlSync_eq (s : State) : s.rlSync = (List.range 4).foldl (fun s p => if s.injecting 0 p then s else s.rlClear p) s := rfl

/-- The registers of one port among `rlRegs`. -/
def rlRegsOf (p : Nat) : List Nat := [Reg.FLT_STAT 1, Reg.CRUMB_LOST, Reg.RFP_RL p]

theorem leaves_rlClear_after (s : State) {p : Nat} (hp : p < 4) :
    Leaves [Reg.FLT_STAT 1, Reg.CRUMB_LOST] (s.wr (F.RFP_RL_VALID p) 0) (s.rlClear p) := by
  have hsrc : ∀ p < 4, (bitFld (Reg.FLT_STAT 0) (43 + p)).addr ∈ [Reg.FLT_STAT 1, Reg.CRUMB_LOST] := by decide
  exact leaves_lower ((s.wr (F.RFP_RL_VALID p) 0).setPort p { s.port p with lowRl := 0 }) _ _ (by decide) (hsrc p hp)

theorem leaves_rlClear (s : State) {p : Nat} (hp : p < 4) : Leaves (rlRegsOf p) s (s.rlClear p) :=
  (leaves_wr s 0 (by simp [rlRegsOf, F.RFP_RL_VALID])).trans ((leaves_rlClear_after s hp).mono (by simp [rlRegsOf]))

theorem rlClear_valid (s : State) {p : Nat} (hp : p < 4) : (s.rlClear p).rd (F.RFP_RL_VALID p) = 0 := by
  have haddr : ∀ p < 4, (F.RFP_RL_VALID p).addr ∉ [Reg.FLT_STAT 1, Reg.CRUMB_LOST] := by decide
  rw [(leaves_rlClear_after s hp).rd (haddr p hp)]
  exact rd_wr_same s (F.RFP_RL_VALID p) 0 (by show 31 + 1 ≤ 32; decide)

theorem rlClear_injecting (s : State) {p q : Nat} (hp : p < 4) (hq : q < 4) : (s.rlClear q).injecting 0 p = s.injecting 0 p := by
  have haddr : ∀ p < 4, ∀ q < 4, ∀ a ∈ injectingRegs p, a ∉ rlRegsOf q := by decide
  exact injecting_of_leaves (leaves_rlClear s hq) (haddr p hp q hq)

theorem leaves_rlSync (s : State) : Leaves rlRegs s s.rlSync := by
  have hsub : ∀ p < 4, rlRegsOf p ⊆ rlRegs := by decide
  rw [rlSync_eq]
  refine leaves_foldl (fun s p hp => ?_) s
  have hp : p < 4 := List.mem_range.mp hp
  exact leaves_ite (.refl _ s) ((leaves_rlClear s hp).mono (hsub p hp))

/-- VALID of a port's return loss, counted only where group 0 does not inject. -/
def State.strayRl (s : State) (p : Nat) : Nat := if s.injecting 0 p then 0 else s.rd (F.RFP_RL_VALID p)

theorem rlSync_strayRl (s : State) {p : Nat} (hp : p < 4) : s.rlSync.strayRl p = 0 := by
  rw [rlSync_eq]
  refine (foldl_view (v := (·.strayRl p)) (k := fun _ => 0) (g := p) List.nodup_range (fun _ s => ?_) (fun q hq hne s => ?_) s).trans
    (if_pos (List.mem_range.mpr hp))
  · by_cases hi : s.injecting 0 p = true
    · rw [if_pos hi, State.strayRl, if_pos hi]
    · rw [if_neg hi, State.strayRl, rlClear_injecting s hp hp, if_neg hi, rlClear_valid s hp]
  · have hq : q < 4 := List.mem_range.mp hq
    have haddr : ∀ p < 4, ∀ q < 4, q ≠ p → (F.RFP_RL_VALID p).addr ∉ rlRegsOf q := by decide
    split
    · rfl
    · rw [State.strayRl, rlClear_injecting s hp hq, (leaves_rlClear s hq).rd (haddr p hp q hq hne), State.strayRl]

theorem rlSync_valid {s : State} {p : Nat} (hp : p < 4) (h : s.rlSync.injecting 0 p = false) : s.rlSync.rd (F.RFP_RL_VALID p) = 0 := by
  have hz := rlSync_strayRl s hp
  rwa [State.strayRl, h, if_neg Bool.false_ne_true] at hz

/-! ### The states of the groups in INJ_STAT -/

theorem mem_groupsOf {mask g : Nat} : g ∈ groupsOf mask ↔ g < 3 ∧ mask.testBit g = true := by
  rw [groupsOf, List.mem_filter, List.mem_range]

theorem nodup_groupsOf (mask : Nat) : (groupsOf mask).Nodup := List.nodup_range.filter _

section
variable (s : State) (x : Nat) {g h : Nat}

theorem leaves_wr_injState (g : Nat) : Leaves [Reg.INJ_STAT] s (s.wr (injState g) x) := leaves_wr s x (.head _)

theorem leaves_wr_injResult : Leaves [Reg.INJ_STAT] s (s.wr F.INJ_STAT_RESULT x) := leaves_wr s x (.head _)

theorem injState_wr_same (hg : g < 3) (hx : x < 4) : (s.wr (injState g) x).rd (injState g) = x :=
  (rd_wr_same s (injState g) x (by show 2 * g + 2 ≤ 32; omega)).trans (Nat.mod_eq_of_lt hx)

theorem injState_wr_other (hne : h ≠ g) : (s.wr (injState h) x).rd (injState g) = s.rd (injState g) :=
  rd_wr_other s _ _ x (.inr (by show 2 * g + 2 ≤ 2 * h ∨ 2 * h + 2 ≤ 2 * g; omega))

theorem injResult_wr_injState (hg : g < 3) : (s.wr (injState g) x).rd F.INJ_STAT_RESULT = s.rd F.INJ_STAT_RESULT :=
  rd_wr_other s _ _ x (.inr (.inr (by show 2 * g + 2 ≤ 8; omega)))

theorem injState_wr_injResult (hg : g < 3) : (s.wr F.INJ_STAT_RESULT x).rd (injState g) = s.rd (injState g) :=
  rd_wr_other s _ _ x (.inr (.inl (by show 2 * g + 2 ≤ 8; omega)))

theorem injResult_wr_same (hx : x < 4) : (s.wr F.INJ_STAT_RESULT x).rd F.INJ_STAT_RESULT = x :=
  (rd_wr_same s F.INJ_STAT_RESULT x (by decide)).trans (Nat.mod_eq_of_lt hx)

end

/-- The groups of a mask take one code, and the command's result is 0. -/
def State.injSwitch (s : State) (x mask : Nat) : State :=
  ((groupsOf mask).foldl (fun s g => s.wr (injState g) x) s).wr F.INJ_STAT_RESULT 0

theorem injSwitch_injState (s : State) (mask : Nat) {x g : Nat} (hg : g < 3) (hx : x < 4) :
    (s.injSwitch x mask).rd (injState g) = if mask.testBit g then x else s.rd (injState g) := by
  have hview := foldl_view (f := fun s g => s.wr (injState g) x) (v := (·.rd (injState g))) (k := fun _ => x) (nodup_groupsOf mask)
    (fun _ s => injState_wr_same s x hg hx) (fun _ _ hne s => injState_wr_other s x hne) s
  rw [State.injSwitch, injState_wr_injResult _ 0 hg]
  simpa only [mem_groupsOf, hg, true_and] using hview

theorem injSwitch_injResult (s : State) (x mask : Nat) : (s.injSwitch x mask).rd F.INJ_STAT_RESULT = 0 := injResult_wr_same _ 0 (by decide)

theorem leaves_injSwitch (s : State) (x mask : Nat) : Leaves [Reg.INJ_STAT] s (s.injSwitch x mask) :=
  (leaves_foldl (fun s g _ => leaves_wr_injState s x g) s).trans (leaves_wr_injResult _ 0)

/-- A command switches its groups; the return loss follows, and nothing waits. -/
theorem injApply_eq (s : State) (go : Bool) (mask : Nat) : s.injApply go mask =
    let t := (s.injSwitch (if go then 1 else 0) mask).rlSync
    { t with rf := { t.rf with injWait := none } } := rfl

/-! ### What each outcome does (R93) -/

/-- From `s` to `t` a command was executed on the groups of `mask`: they are on or off, no other group changes, and the return loss follows. -/
def InjExecuted (mask : Nat) (go : Bool) (s t : State) : Prop :=
  t.rf.injWait = none ∧ t.rd F.INJ_STAT_RESULT = 0 ∧
    (∀ g < 3, t.rd (injState g) = if mask.testBit g then (if go then 1 else 0) else s.rd (injState g)) ∧
    (∀ p < 4, t.injecting 0 p = false → t.rd (F.RFP_RL_VALID p) = 0) ∧ RegsBut (Reg.INJ_STAT :: rlRegs) s t ∧ t.mem = s.mem

theorem injApply_executed (s : State) (go : Bool) (mask : Nat) : InjExecuted mask go s (s.injApply go mask) := by
  have hx : (if go then 1 else 0) < 4 := by split <;> decide
  have hswitch := leaves_injSwitch s (if go then 1 else 0) mask
  have hsync := leaves_rlSync (s.injSwitch (if go then 1 else 0) mask)
  have hstat : Reg.INJ_STAT ∉ rlRegs := by decide
  obtain ⟨hregs, hmem, -⟩ := (hswitch.mono (l' := Reg.INJ_STAT :: rlRegs) (by simp)).trans (hsync.mono (by simp))
  rw [injApply_eq]
  refine ⟨rfl, ?_, fun g hg => ?_, fun p hp hi => rlSync_valid hp hi, hregs, hmem⟩
  · exact (hsync.rd (f := F.INJ_STAT_RESULT) hstat).trans (injSwitch_injResult s _ mask)
  · exact (hsync.rd (f := injState g) hstat).trans (injSwitch_injState s mask hg hx)

theorem injCommand_executed {s : State} {mask : Nat} (go : Bool) (hw : s.rf.injWait = none)
    (hr : (groupsOf mask).all s.injReady = true) : InjExecuted mask go s (s.injCommand go mask) := by
  rw [State.injCommand, hw, if_neg (by decide), if_pos hr]
  exact injApply_executed s go mask

/-- From `s` to `t` a command was made to wait. -/
def InjWaits (mask : Nat) (go : Bool) (s t : State) : Prop :=
  t.rf.injWait = some ⟨go, mask⟩ ∧ t.rd F.INJ_STAT_RESULT = 3 ∧ RegsBut [Reg.INJ_STAT] s t ∧ t.mem = s.mem

theorem injWaits_of_shown {s u : State} (hres : u.rd F.INJ_STAT_RESULT = 3) (hu : Leaves [Reg.INJ_STAT] s u) (r : RfSt) (go : Bool)
    (mask : Nat) : InjWaits mask go s { u.mark .injWait with rf := { r with injWait := some ⟨go, mask⟩ } } :=
  ⟨rfl, hres, hu.1, hu.2.1⟩

theorem injCommand_waits {s : State} {mask : Nat} (go : Bool) (hw : s.rf.injWait = none)
    (hr : (groupsOf mask).all s.injReady = false) : InjWaits mask go s (s.injCommand go mask) := by
  have hwait := injWaits_of_shown (injResult_wr_same s 3 (by decide)) (leaves_wr_injResult s 3) s.rf go mask
  rw [State.injCommand, hw, if_neg (by decide), hr, if_neg Bool.false_ne_true]
  cases go with
  | false => exact hwait
  | true =>
    refine List.foldlRecOn (groupsOf mask) _ hwait fun t ht g hg => ?_
    obtain ⟨hcmd, hres, hregs, hmem⟩ := ht
    split
    · exact ⟨hcmd, (injResult_wr_injState t 3 (mem_groupsOf.mp hg).1).trans hres,
        fun a ha => ((leaves_wr_injState t 3 g).1 a ha).trans (hregs a ha), hmem⟩
    · exact ⟨hcmd, hres, hregs, hmem⟩

theorem injCommand_refused {s : State} (hw : s.rf.injWait ≠ none) (go : Bool) (mask : Nat) :
    s.injCommand go mask = s.wr F.INJ_STAT_RESULT 2 :=
  if_pos (Option.isSome_iff_ne_none.mpr hw)

theorem leaves_injUnwait (s : State) : Leaves [Reg.INJ_STAT] { s with rf := { s.rf with injWait := none } } s.injUnwait :=
  leaves_foldl (fun s g _ => leaves_ite (leaves_wr_injState s 0 g) (.refl _ s)) _

theorem injUnwait_injState (s : State) {g : Nat} (hg : g < 3) :
    s.injUnwait.rd (injState g) = if s.rd (injState g) = 3 then 0 else s.rd (injState g) := by
  refine (foldl_view (v := fun s : State => s.rd (injState g)) (k := fun c => if c = 3 then 0 else c) (g := g) List.nodup_range
    (fun _ s => ?_) (fun h _ hne s => ?_) _).trans (if_pos (List.mem_range.mpr hg))
  · split
    · exact injState_wr_same s 0 hg (by decide)
    · rfl
  · split
    · exact injState_wr_other s 0 hne
    · rfl

/-! ### The commands -/

/-- INJ_CMD answers while SAMPLE is in Run. -/
theorem answers_injCmd {s : State} (h : s.inRun 7 = true) : s.answers Reg.INJ_CMD = true := h

theorem command_of_answers {s : State} {owner a : Nat} (hh : s.heard owner = true) (ha : s.answers a = true) (k : State → State) :
    s.command owner a k = k (s.okay owner) := by
  rw [State.command, ifHeard_of_heard hh, access_of_answers ha]

/-- A heard INJ_START or INJ_STOP acts on the answered state. -/
theorem exec_injCommand {s : State} {owner : Nat} (h7 : s.inRun 7 = true) (hh : s.heard owner = true) (go : Bool) (mask : Nat) :
    exec (if go then .injStart owner mask else .injStop owner mask) s = .next ((s.okay owner).injCommand go mask) := by
  cases go <;> exact congrArg _ (command_of_answers hh (answers_injCmd h7) _)

theorem exec_injCmdReady {s : State} {w : InjWait} (hw : s.rf.injWait = some w) (hr : (groupsOf w.mask).all s.injReady = true) :
    exec .injCmdReady s = .next (s.injApply w.start w.mask) := by
  show execInjCmdReady s = _
  rw [execInjCmdReady, hw]
  exact congrArg _ (if_pos hr)

theorem exec_injCmdTimeout {s : State} {w : InjWait} (hw : s.rf.injWait = some w) (h7 : s.inRun 7 = true)
    (hms : s.ranMs .injWait 1 = true) : exec .injCmdTimeout s = .next (s.injUnwait.wr F.INJ_STAT_RESULT 1) := by
  have hdue : (s.rf.injWait.isSome && s.inRun 7 && s.ranMs .injWait 1) = true := by rw [hw, h7, hms]; rfl
  exact congrArg _ (if_pos hdue)

/-- Settles O16, by the outcome of the command: executed, made to wait, refused, executed later, or failed. -/
theorem injection : Obligations.Injection := by
  intro s owner mask go h7 hh
  have hcmd := exec_injCommand h7 hh go mask
  refine ⟨fun hw hr => ?_, fun hw hr => ?_, fun hw => ?_, fun hw hr => ?_, fun hw hms => ?_⟩
  · exact ⟨_, hcmd, injCommand_executed (s := s.okay owner) go hw hr⟩
  · exact ⟨_, hcmd, injCommand_waits (s := s.okay owner) go hw hr⟩
  · refine ⟨_, hcmd, ?_⟩
    rw [injCommand_refused (s := s.okay owner) hw]
    exact ⟨State.wr_rf .., injResult_wr_same _ 2 (by decide), fun g hg => injState_wr_injResult _ 2 hg,
      (leaves_wr_injResult _ 2).1, State.wr_mem ..⟩
  · exact ⟨_, exec_injCmdReady hw hr, injApply_executed s go mask⟩
  · obtain ⟨hregs, hmem, hnone⟩ := (leaves_injUnwait s).trans (leaves_wr_injResult s.injUnwait 1)
    exact ⟨_, exec_injCmdTimeout hw h7 hms, hnone, injResult_wr_same _ 1 (by decide),
      fun g hg => (injState_wr_injResult _ 1 hg).trans (injUnwait_injState s hg), hregs, hmem⟩

end Sys2Proof.Machine
